-- ==== Sys2Proof/Word.lean ====
section
/-! DEFINITION. The words of the ZC-4: bytes and 16-bit words of exchange memory, the 32-bit counts
of the web (00_scope.md, Conventions) and the 32-bit row numbers (R39). How two counts are compared
(R1) is in Machine/Operands.lean. -/

namespace Sys2Proof

/-- One byte of exchange memory (R168). -/
abbrev Byte := BitVec 8

/-- One 16-bit word of the port and of exchange memory (R169). -/
abbrev Word := BitVec 16

/-- A web count, a web point or a position target: 32 bits, wrapping modulo 2^32 (R1). -/
abbrev Count := BitVec 32

/-- A row number, 1 to 2^32 - 1; 0 names no row (R39). -/
abbrev RowNum := BitVec 32

end Sys2Proof
end

