-- ==== Sys2Proof/Syntax.lean ====
section
/-! DEFINITION. The commands of the ZC-4: one constructor per row of spec/opcode_table.json, in the
table's order, with the operands the rule of the row gives it (the table itself gives no operand
fields). -/

namespace Sys2Proof

/-- Lanes 0 to 3 (00_scope.md, Conventions). -/
inductive Lane where
  | l0 | l1 | l2 | l3
  deriving DecidableEq, Repr

/-- Takeaway conveyors 0 and 1 (00_scope.md, Conventions). -/
inductive Conveyor where
  | c0 | c1
  deriving DecidableEq, Repr

/-- Note pages A and B (R78). -/
inductive Page where
  | a | b
  deriving DecidableEq, Repr

/-- Report halves A and B (R178). -/
inductive Half where
  | a | b
  deriving DecidableEq, Repr

/-- The registers whose writes are ignored: IDENT, STATE and offsets 5 to 7 (R172). -/
inductive IgnoredRegister where
  | ident | state | offset5 | offset6 | offset7
  deriving DecidableEq, Repr

/-- The commands, operations and events of the part: one constructor per row of the table. -/
inductive Instr where
  /-- POWER_ON_RESET (R167): RESETn is asserted. -/
  | powerOnReset
  /-- RESTART (R167): CONTROL code 5. -/
  | restart
  /-- START (R158): CONTROL code 1, taken at the end of its machine record burst. -/
  | start
  /-- STOP (R159): CONTROL code 2. -/
  | stop
  /-- ABORT (R162): CONTROL code 3. -/
  | abort
  /-- ACK_FAULT (R163): CONTROL code 4. -/
  | ackFault
  /-- BAD_CODE (R156): a CONTROL write of a word whose low byte is no command code. -/
  | badCode (w : Word)
  /-- ATTENTION_WRITE (R173): the word written. -/
  | attentionWrite (w : Word)
  /-- ATTN_MASK_WRITE (R174): the word written. -/
  | attnMaskWrite (w : Word)
  /-- REGISTER_WRITE_IGNORED (R172): the register and the word written. -/
  | registerWriteIgnored (r : IgnoredRegister) (w : Word)
  /-- MEMORY_READ (R171): the port word address A[11:0]. -/
  | memoryRead (a : BitVec 12)
  /-- MEMORY_WRITE (R169): the port word address A[11:0] and the word written. -/
  | memoryWrite (a : BitVec 12) (w : Word)
  /-- NOTE_PAGE_POSTING (R78): the page whose state word is written, and the word. -/
  | notePagePosting (p : Page) (w : Word)
  /-- HALF_FREEING (R178): the half whose state word is written, and the word. -/
  | halfFreeing (h : Half) (w : Word)
  /-- FORWARD_COUNT (R6): one forward count of the encoder. -/
  | forwardCount
  /-- REVERSE_COUNT (R8): one reverse count of the encoder. -/
  | reverseCount
  /-- ILLEGAL_TRANSITION (R5): both encoder channels change at once. -/
  | illegalTransition
  /-- SPEED_SAMPLE (R10): the millisecond's speed sample. -/
  | speedSample
  /-- MARK_EDGE (R20): a rising edge of MARK. -/
  | markEdge
  /-- MARK_FALL (R21): a fall of MARK. -/
  | markFall
  /-- MARK_KEPT (R21): the deglitch ends with MARK still active. -/
  | markKept
  /-- COAST (R27): the coast point is reached. -/
  | coast
  /-- REACQUIRE_POINT_REACHED (R31). -/
  | reacquirePointReached
  /-- SPLICE (R96): a rising edge of SPLICE. -/
  | splice
  /-- FIRE (R63): the next cut fires. -/
  | fire
  /-- KNIFE_FIRE_REASSERT (R65): the 10 µs gap of KNIFE_FIRE ends. -/
  | knifeFireReassert
  /-- HOME (R66): a rising edge of KNIFE_HOME. -/
  | home
  /-- STALL (R68): the stroke timer expires. -/
  | stall
  /-- PAGE_TAKING (R79): the page taking burst begins. -/
  | pageTaking
  /-- SPAN_NOTE (R89): the next note of the page in work, a SPAN note, is applied. -/
  | spanNote
  /-- ROW_NOTE (R93). -/
  | rowNote
  /-- LANE_NOTE (R127). -/
  | laneNote
  /-- CONVEYOR_NOTE (R138). -/
  | conveyorNote
  /-- JOB_NOTE (R146). -/
  | jobNote
  /-- BAD_NOTE (R83): the next note's kind is none of the five. -/
  | badNote
  /-- FATE_WRITE (R80): a fate write burst. -/
  | fateWrite
  /-- PAGE_FINISHING (R81): the page finishing burst. -/
  | pageFinishing
  /-- PAGE_STATE_CHECK (R81): the page state check burst. -/
  | pageStateCheck
  /-- DECISION (R105) of the decider of a lane. -/
  | decision (l : Lane)
  /-- PASS_END (R110) of the flap of a lane. -/
  | passEnd (l : Lane)
  /-- WINDOW_PASSED (R113) of the oldest arrival window of a lane. -/
  | windowPassed (l : Lane)
  /-- EYE (R114): a rising edge of EYE of a lane. -/
  | eye (l : Lane)
  /-- DELIVERY (R136): a rising edge of CLEAR of a conveyor. -/
  | delivery (c : Conveyor)
  /-- REMOVAL (R137): the conveyor timer of a conveyor expires. -/
  | removal (c : Conveyor)
  /-- AGING_TICK (R134). -/
  | agingTick
  /-- REPORT_WRITE (R179): a report write burst begins. -/
  | reportWrite
  /-- AGE_TIMER_EXPIRY (R180). -/
  | ageTimerExpiry
  /-- REFRESH_TIMER_EXPIRY (R175). -/
  | refreshTimerExpiry
  /-- LIVE_STATUS_REFRESH (R175): the live status burst begins. -/
  | liveStatusRefresh
  /-- RESETN_RELEASE (R4): RESETn is released. -/
  | resetnRelease
  deriving DecidableEq, Repr

end Sys2Proof
end

