-- ==== Sys2Proof/Decode.lean ====
section
/-! DEFINITION. The command a word spells by the bits of spec/opcode_table.json. The table gives no row
any bits (every row's "fields" is empty and none has a "fixed" or a match), so no word spells a
command: commands reach the part as bus accesses, pins and timers, and stand in `State.pending`. -/

namespace Sys2Proof

/-- The command that the `nbits` bits of `w` spell by the table: none, for the table gives no row bits.
Log entry 8. -/
def decodeTableWord (_nbits _w : Nat) : Option Instr := none

end Sys2Proof
end

