-- ==== Sys2Proof/Config.lean ====
section
/-! DEFINITION. What one ZC-4 fixes: the capacities the chapters state, and the two free values of the
model, the order in which a part takes acts that one event makes due together and for which the
manual states no order (R7, R109, R160, R170), and how far a burst had come when RESTART cuts it off
(R176). -/

namespace Sys2Proof

/-- FREE VALUE. The order in which acts that one event makes due together are taken, as a number that
`Machine.permute` reads as a permutation. The argument is the machine's count of such choices
(`State.choices`), so every choice is fresh. It has no body: the manual calls either order correct
(R7, R31, R109, R133, R160, R170), so nothing may rest on one of them. Log entry 2. -/
opaque Config.order : Nat → Nat

/-- FREE VALUE. How many words of a burst in progress had been written when RESTART cuts it off, at most
all of them (R176). The argument is the machine's count of free choices. It has no body: the manual does
not say how far a burst has come. Log entry 7. -/
opaque Config.cutOff : Nat → Nat

/-- Rows the track holds at most (R39). -/
abbrev Config.trackCapacity : Nat := 64

/-- Spans the pending span list holds at most (R91). -/
abbrev Config.spanCapacity : Nat := 32

/-- Entries a lane's arrival list holds at most (R112). -/
abbrev Config.arrivalCapacity : Nat := 16

/-- Stacks a lane's line holds at most (R119). -/
abbrev Config.lineCapacity : Nat := 3

/-- Report reservations of the part (R130). -/
abbrev Config.reservationCapacity : Nat := 12

/-- Records other than STACK records the report queue holds at most (R177). -/
abbrev Config.otherRecordCapacity : Nat := 4

/-- Records of a report half, and notes of a note page (R79, R179). -/
abbrev Config.pageCapacity : Nat := 48

/-- Bytes of exchange memory (R168). -/
abbrev Config.memoryBytes : Nat := 8192

/-- The stretch estimate of an unstretched web, 1.0 (R36). -/
abbrev Config.unitStretch : Nat := 65536

/-- The least stretch estimate (R19). -/
abbrev Config.minStretch : Nat := 64225

/-- The greatest stretch estimate (R19). -/
abbrev Config.maxStretch : Nat := 66847

end Sys2Proof
end

