-- ==== Sys2Proof/Machine/State.lean ====
section
/-! DEFINITION. The state of the ZC-4, block by block as 00_scope.md names the blocks, as plain data; the
queue of waiting commands; the state right after reset. Where a chapter's state table lists an item
that its own rules define from other state (the undecided count, the next cut, every target), the
item is held once, as what defines it, and read through a named function: log entry 14. -/

namespace Sys2Proof.Machine

/-! ### Lanes and conveyors -/

/-- One value per lane. -/
structure Lanes (α : Type) where
  l0 : α
  l1 : α
  l2 : α
  l3 : α
  deriving DecidableEq, Repr

/-- The value of one lane. -/
def Lanes.get {α : Type} (x : Lanes α) : Lane → α
  | .l0 => x.l0
  | .l1 => x.l1
  | .l2 => x.l2
  | .l3 => x.l3

/-- The same with one lane's value replaced. -/
def Lanes.set {α : Type} (x : Lanes α) (l : Lane) (v : α) : Lanes α :=
  match l with
  | .l0 => { x with l0 := v }
  | .l1 => { x with l1 := v }
  | .l2 => { x with l2 := v }
  | .l3 => { x with l3 := v }

/-- The same value in every lane. -/
def Lanes.fill {α : Type} (v : α) : Lanes α := ⟨v, v, v, v⟩

/-- A function of every lane's value. -/
def Lanes.map {α β : Type} (f : α → β) (x : Lanes α) : Lanes β :=
  ⟨f x.l0, f x.l1, f x.l2, f x.l3⟩

/-- A value formed for every lane from the lane itself. -/
def Lanes.ofFn {α : Type} (f : Lane → α) : Lanes α := ⟨f .l0, f .l1, f .l2, f .l3⟩

/-- One value per conveyor. -/
structure Conveyors (α : Type) where
  c0 : α
  c1 : α
  deriving DecidableEq, Repr

/-- The value of one conveyor. -/
def Conveyors.get {α : Type} (x : Conveyors α) : Conveyor → α
  | .c0 => x.c0
  | .c1 => x.c1

/-- The same with one conveyor's value replaced. -/
def Conveyors.set {α : Type} (x : Conveyors α) (c : Conveyor) (v : α) : Conveyors α :=
  match c with
  | .c0 => { x with c0 := v }
  | .c1 => { x with c1 := v }

/-- A set of lanes. -/
abbrev LaneSet := Lanes Bool

/-! ### The Travel Counter (01_web_travel_and_speed.md) -/

/-- A detector that raises one fault until it is armed again (R5, R9, R51). -/
inductive Detector where
  | armed | spent
  deriving DecidableEq, Repr

/-- Speed zones (R13). -/
inductive Zone where
  | crawl | run | over
  deriving DecidableEq, Repr

/-- Changes of zone (R13). -/
inductive ZoneChange where
  | crawlToRun | runToCrawl | runToOver | overToRun
  deriving DecidableEq, Repr

/-- A pair of encoder channel levels (A, B) (R3). -/
structure EncoderPair where
  a : Bool
  b : Bool
  deriving DecidableEq, Repr

/-- The state of the Travel Counter. -/
structure Trc where
  /-- The levels present on ENC_A and ENC_B. -/
  pins : EncoderPair
  /-- The decoder reference (R3). -/
  reference : EncoderPair
  /-- The web count W (R4). -/
  web : Count
  /-- The travel front F (R6). -/
  front : Count
  /-- The reverse detector (R9). -/
  reverseDetector : Detector
  /-- The encoder detector (R5). -/
  encoderDetector : Detector
  /-- W as taken at the last speed sample (R10). -/
  previousSample : Count
  /-- The speed v, 0 to 4095 (R10). -/
  speed : Nat
  /-- The standstill count, 0 to 200 (R12). -/
  standstill : Nat
  /-- The zone in effect (R13). -/
  zone : Zone
  /-- The pending change (R14). -/
  pendingChange : Option ZoneChange
  /-- The deglitch count, 0 to 7 (R14). -/
  deglitchCount : Nat
  deriving DecidableEq, Repr

/-! ### The Mark Tracker (02_registration_tracking.md) -/

/-- Registration states (R22 to R32). -/
inductive TrackerState where
  | idle | acquire | locked | coasting | reacquire
  deriving DecidableEq, Repr

/-- Classes of a repeat (R25). -/
inductive RowClass where
  | a | b
  deriving DecidableEq, Repr

/-- Origins of a row (R29). -/
inductive Origin where
  | sensed | coasted | leadIn
  deriving DecidableEq, Repr

/-- A mark edge being deglitched: its edge point E, and the mark_min taken at the edge (R20, R21). -/
structure Deglitch where
  edge : Count
  hold : Nat
  deriving DecidableEq, Repr

/-- The tracker's copy of the newest row of the track. -/
structure NewestRow where
  mark : Count
  cls : RowClass
  origin : Origin
  cut : Count
  fireBase : Count
  deriving DecidableEq, Repr

/-- A half-open span of web points [start, stop). -/
structure WebSpan where
  start : Count
  stop : Count
  deriving DecidableEq, Repr

/-- The state of the Mark Tracker. -/
structure Mkt where
  /-- The level of the MARK input. -/
  markActive : Bool
  state : TrackerState
  deglitch : Option Deglitch
  newest : Option NewestRow
  expected : Option Count
  /-- The stretch estimate s, 65536 meaning 1.0 (R18, R19). -/
  stretch : Nat
  coastCount : Nat
  strayCount : Nat
  glitchCount : Nat
  reacquirePoint : Option Count
  exemption : Option WebSpan
  deriving DecidableEq, Repr

/-! ### The Row Track (03_the_row_track.md) -/

/-- The context that governs a row (R40). -/
inductive JobTag where
  | current | previous | ended
  deriving DecidableEq, Repr

/-- The ten reasons, in precedence order (chapter 3, Lane entries and reasons). -/
inductive Reason where
  | stopped | leadIn | knife | speed | register | splice | guard | defect | uninspected | held
  deriving DecidableEq, Repr

/-- One value per reason. -/
structure PerReason (α : Type) where
  stopped : α
  leadIn : α
  knife : α
  speed : α
  register : α
  splice : α
  guard : α
  defect : α
  uninspected : α
  held : α
  deriving DecidableEq, Repr

/-- A set of reasons (R46). -/
abbrev Reasons := PerReason Bool

/-- The ten tallies of a job context (R152). -/
abbrev Tallies := PerReason Nat

/-- The trail cut of a row, with the fire count from the fire onward and the bad flag (R42). A STALLED
cut carries its bad flag set. -/
inductive TrailCut where
  | pending
  | firing (fireCount : Count)
  | done (fireCount : Count) (bad : Bool)
  | stalled (fireCount : Count)
  deriving DecidableEq, Repr

/-- A lead cut that is present: fire count and bad flag (R43). -/
structure LeadCut where
  fireCount : Count
  bad : Bool
  deriving DecidableEq, Repr

/-- A lane entry of a row (R45 to R47): OPEN with its reason set; DECIDED with the verdict GOOD (the
reason set is then empty) and the stack id; DECIDED with the verdict REJECT and its frozen set. -/
inductive LaneEntry where
  | undecided (reasons : Reasons)
  | good (stackId : Nat)
  | reject (reasons : Reasons)
  deriving DecidableEq, Repr

/-- A row record (chapter 3, The row record). A lane beyond the row's job has no entry. -/
structure Row where
  number : RowNum
  tag : JobTag
  jobId : Nat
  origin : Origin
  mark : Count
  lead : Count
  cut : Count
  fireBase : Count
  trail : TrailCut
  leadCut : Option LeadCut
  entries : Lanes (Option LaneEntry)
  deriving DecidableEq, Repr

/-- The state of the Row Track. The undecided count is `undecidedCount`. -/
structure Rot where
  /-- The rows, oldest first, at most 64 (R39). -/
  track : List Row
  /-- The last issued number N (R39). -/
  lastNumber : RowNum
  overflowDetector : Detector
  deriving DecidableEq, Repr

/-! ### The Knife Timer (04_cut_timing_and_the_knife.md) -/

/-- The cycle record of the stroke in flight (R63). `timer` is the knife_timeout_ms its stroke timer
was started with; `tracked` falls when the track is emptied, so that its completion finds no row
(R53, R54, R74; log entry 15). -/
structure Cycle where
  row : RowNum
  fireCount : Count
  lateness : Nat
  bad : Bool
  timer : Nat
  tracked : Bool
  deriving DecidableEq, Repr

/-- The KNIFE_FIRE output: released, asserted, or held released for the 10 µs before it is asserted
for a stroke that began as another ended (R65). -/
inductive KnifeOutput where
  | released | asserted | gap
  deriving DecidableEq, Repr

/-- The state of the Knife Timer. The knife is FIRING while the cycle record is present. -/
structure Knt where
  cycle : Option Cycle
  lead : Nat
  lastFire : Option Count
  stallCount : Nat
  inhibit : Bool
  output : KnifeOutput
  deriving DecidableEq, Repr

/-! ### The Note Processor (05_inspection_notes_and_the_horizon.md) -/

/-- The reason a pending span brings (chapter 5). -/
inductive SpanReason where
  | defect | splice
  deriving DecidableEq, Repr

/-- A pending span: [start, stop), its lane mask and its reason. -/
structure PendingSpan where
  start : Count
  stop : Count
  lanes : LaneSet
  reason : SpanReason
  deriving DecidableEq, Repr

/-- The page in work: the held note count, the held Hc and the index of the next note (R79, R80). -/
structure PageInWork where
  page : Page
  count : Nat
  hc : Count
  next : Nat
  deriving DecidableEq, Repr

/-- Fates of notes (chapter 12). -/
inductive Fate where
  | applied | pending | late | partLate | gone | gutter | future | guarded
  | noJob | busy | refused | bad | done | unapplied
  deriving DecidableEq, Repr

/-- The bursts of the Note Processor's work (R170, R186): a page taking, a note read, the job copy of a
JOB note, the note read or the job copy that START found requested, for a note of the page it cut short
(R166; log entry 16), a fate write, the finishing of the page in work, the DONE write of a page that
START cut short, and a page state check. -/
inductive NoteBurst where
  | pageTaking
  | noteRead
  | jobCopy (slot : Nat)
  | lateRead (page : Page) (index : Nat)
  | lateCopy (page : Page) (index : Nat) (slot : Nat)
  | fateWrite (page : Page) (index : Nat) (fate : Fate) (detail : Nat)
  | finishing
  | cutShortDone (page : Page)
  | stateCheck
  deriving DecidableEq, Repr

/-- The state of the Note Processor. -/
structure Ntp where
  inWork : Option PageInWork
  expectedPage : Page
  horizon : Option Count
  guardPoint : Option Count
  spans : List PendingSpan
  /-- The bursts its work still needs, in order; it requests the first when its last one has ended
  (R170). -/
  work : List NoteBurst
  deriving DecidableEq, Repr

/-! ### The Lane Deciders (06_lane_decisions_flaps_and_count_eyes.md) -/

/-- The FLAP output: REJECT, or PASS for a label whose trail cut fired at `cutCount`, from which the
pass end is formed (R110). -/
inductive Flap where
  | reject
  | pass (cutCount : Count)
  deriving DecidableEq, Repr

/-- An entry of the arrival list (R112). -/
structure Arrival where
  row : RowNum
  stackId : Nat
  low : Count
  high : Count
  deriving DecidableEq, Repr

/-- The state of one Lane Decider. -/
structure Lnd where
  flapLead : Nat
  flap : Flap
  /-- Oldest window first, at most 16 (R112). -/
  arrivals : List Arrival
  deriving DecidableEq, Repr

/-! ### The Stack Controller and the Takeaway Arbiter (07_stack_lines_and_takeaway.md) -/

/-- Stack states (R121, R124, R125, R135). -/
inductive StackState where
  | filling | completing | closed | pushing
  deriving DecidableEq, Repr

/-- Close kinds (R124, R125). -/
inductive CloseKind where
  | full | shortCmd | shortJob | shortStop | shortAbort | shortFault
  deriving DecidableEq, Repr

/-- A stack record (chapter 7, The stack line). -/
structure Stack where
  id : Nat
  jobId : Nat
  target : Nat
  allotted : Nat
  arrived : Nat
  missing : Nat
  extra : Nat
  suspect : Nat
  firstRow : RowNum
  lastRow : RowNum
  firstSuspect : Option RowNum
  state : StackState
  closeKind : Option CloseKind
  closePoint : Option Count
  conveyor : Option Conveyor
  deriving DecidableEq, Repr

/-- The state of the Stack Controller for one lane. -/
structure SkcLane where
  /-- The stack line, FRONT first (R119). -/
  line : List Stack
  nextId : Nat
  /-- The lane hold flag: true is SET (R126). -/
  hold : Bool
  targetCurrent : Option Nat
  targetPrevious : Option Nat
  shelfLimit : Nat
  deriving DecidableEq, Repr

/-- The state of a conveyor (R132); while PUSHING, the push record: the lane pushed, and the
milliseconds its conveyor timer was started with (R135). -/
inductive ConveyorState where
  | available
  | pushing (lane : Lane) (timer : Nat)
  | out
  deriving DecidableEq, Repr

/-- The state of the Takeaway Arbiter. -/
structure Tka where
  conveyors : Conveyors ConveyorState
  /-- Per conveyor, the age of each lane of its waiting set, none for a lane not in it (R129, R134). -/
  waiting : Conveyors (Lanes (Option Nat))
  /-- The reservation count (R130). -/
  reservations : Nat
  deriving DecidableEq, Repr

/-! ### Job Control (08_jobs_and_changeover.md) -/

/-- A lane's fields of a job record. -/
structure JobLane where
  xStart : Nat
  xEnd : Nat
  target : Nat
  shelfMax : Nat
  deriving DecidableEq, Repr

/-- A job record (chapter 8, Job slots). -/
structure JobRecord where
  jobId : Nat
  lanes : Nat
  dualPitch : Bool
  coastAccept : Bool
  pitchA : Nat
  pitchB : Nat
  offsetA : Nat
  offsetB : Nat
  markWindow : Nat
  knifeTol : Nat
  markMin : Nat
  coastLimit : Nat
  lane : Lanes JobLane
  deriving DecidableEq, Repr

/-- A job context that is held (chapter 8, Job contexts). -/
structure JobContext where
  job : JobRecord
  firstRow : Option RowNum
  lastRow : Option RowNum
  tallies : Tallies
  deriving DecidableEq, Repr

/-- The state of Job Control: of its two context stores, the one that is CURRENT and the one that is
PREVIOUS; a store that is neither is FREE. -/
structure Jbc where
  current : Option JobContext
  previous : Option JobContext
  /-- The close pending set of the PREVIOUS context (R149). -/
  closePending : LaneSet
  deriving DecidableEq, Repr

/-! ### The Run Controller (09_run_control_and_faults.md) -/

/-- Run states (R155). -/
inductive RunState where
  | off | ready | run | drain | halted
  deriving DecidableEq, Repr

/-- The five halting faults (chapter 9, Faults). -/
inductive HaltingFault where
  | markLost | knifeStall | reverseLimit | trackOverflow | encoder
  deriving DecidableEq, Repr

/-- Results of a command (R156). -/
inductive CommandResult where
  | none | accepted | refused | badCode
  deriving DecidableEq, Repr

/-- The machine record (R157). -/
structure MachineRecord where
  dCam : Nat
  dKnife : Nat
  kFlap : Lanes Nat
  kEye : Lanes Nat
  eyeTol : Nat
  dSplice : Nat
  spliceMargin : Nat
  knifeLatency : Nat
  flapLatency : Nat
  leadMax : Nat
  knifeTimeout : Nat
  conveyorOfLane : Lanes Nat
  conveyorTimeout : Nat
  lanePriority : Lanes Nat
  vCrawl : Nat
  vOver : Nat
  zoneHyst : Nat
  reverseLimit : Nat
  reportAge : Nat
  deriving DecidableEq, Repr

/-- The state of the Run Controller. -/
structure Rnc where
  runState : RunState
  faultCode : Option HaltingFault
  /-- The low byte of the last CONTROL write (R156). -/
  lastCommand : Option Byte
  result : CommandResult
  /-- The config field index, 0 to 31 (R157). -/
  configIndex : Nat
  stopRows : Lanes (Option RowNum)
  stopPending : LaneSet
  /-- The machine record in use: the values every block took at the last valid START (R157). -/
  record : Option MachineRecord
  deriving DecidableEq, Repr

/-! ### The Port and Exchange Memory (10_exchange_memory_and_the_press_controller_port.md) -/

/-- Exchange memory: its bytes that are not 0, in rising order of address (log entry 4). -/
abbrev Memory := List Host.Cell

/-- The 32-bit fields of live status, which the tear latch serves (R171). -/
inductive TearField where
  | web | front | stretch | newest | oldest | horizon | guardPoint
  deriving DecidableEq, Repr

/-- Five flags, as ATTENTION holds them and ATTN_MASK enables them (R173). -/
structure Attention where
  pageDone : Bool
  reports : Bool
  fault : Bool
  state : Bool
  cmd : Bool
  deriving DecidableEq, Repr

/-- The sources of part bursts (R170): the refresh timer, the Note Processor (for itself and for the job
copy of its JOB note), the Report Writer (for its records and its half state accesses), and START for its
machine record load. -/
inductive BurstSource where
  | refresh | notes | reports | machine
  deriving DecidableEq, Repr

/-- A press-controller access to exchange memory: a read or a write of the word at a port word address
(R169). -/
inductive PressAccess where
  | read (a : BitVec 12)
  | write (a : BitVec 12) (w : Word)
  deriving DecidableEq, Repr

/-- A word of a burst: its byte address, and the word that stood there before the burst wrote it. -/
structure Overwritten where
  address : Nat
  before : Word
  deriving DecidableEq, Repr

/-- A part burst that has the memory: whose it is, and the words it writes, in order. -/
structure Burst where
  source : BurstSource
  words : List Overwritten
  deriving DecidableEq, Repr

/-- The state of the Port and Exchange Memory block. -/
structure Pxm where
  memory : Memory
  /-- Part bursts waiting, in the order of their requests, at most one per source (R170). -/
  requests : List BurstSource
  /-- The part burst that has the memory, taken at its beginning (R170, R176; log entry 7). A burst that
  only reads is taken at its end, and is in progress while its request stands first: `readBurst`. -/
  burst : Option Burst
  /-- The press-controller access held by WAIT, and any sent after it before it is served (R170; log
  entry 7). -/
  waiting : List PressAccess
  tearLatch : Option (TearField × Word)
  attention : Attention
  mask : Attention
  /-- The word last driven on D[15:0] by a served read (R169). -/
  dataOut : Word
  /-- RESETn is asserted: the decoder, the sampler and the free-running timers do not run (R4, R10,
  R134, R175). -/
  resetAsserted : Bool
  deriving DecidableEq, Repr

/-! ### The Report Writer (11_reports.md) -/

/-- What a FAULT record names: a halting fault, or a CONVEYOR_TIMEOUT of a conveyor (R164, R165). -/
inductive FaultCause where
  | halting (f : HaltingFault)
  | conveyorTimeout (c : Conveyor)
  deriving DecidableEq, Repr

/-- A record of the report queue (R181). -/
inductive Record where
  /-- STACK: the lane, the stack as it left its line, and whether it left NOT_CLEARED. -/
  | stack (lane : Lane) (st : Stack) (notCleared : Bool)
  /-- SUSPECT: the lane, the stack id and the row. -/
  | suspect (lane : Lane) (stackId : Nat) (row : RowNum)
  /-- FAULT: the cause, the SECONDARY flag, F, and the newest row (0 when the track is empty). -/
  | fault (cause : FaultCause) (secondary : Bool) (front : Count) (newest : RowNum)
  /-- JOB_START: the job id and the first row the job will carry. -/
  | jobStart (jobId : Nat) (firstRow : RowNum)
  /-- JOB_END: the job id, its first and last row (0 for none) and its tallies. -/
  | jobEnd (jobId : Nat) (firstRow lastRow : RowNum) (tallies : Tallies)
  deriving DecidableEq, Repr

/-- The writer state (R178). -/
inductive WriterState where
  | filling (h : Half)
  | waiting (h : Half)
  deriving DecidableEq, Repr

/-- Half state accesses, a burst of one word each (R170, R178, R180): the write of CLOSED, the look at the
other half's state word, and the write of FILLING. -/
inductive HalfAccess where
  | writeClosed (h : Half)
  | look (h : Half)
  | writeFilling (h : Half)
  deriving DecidableEq, Repr

/-- The state of the Report Writer. -/
structure Rpw where
  /-- The report queue, oldest first (R177). -/
  queue : List Record
  writer : WriterState
  fillIndex : Nat
  /-- The age timer: the milliseconds it was started with while it runs, none while stopped (R180). -/
  ageTimer : Option Nat
  /-- The half state accesses that the closing or the taking of a half still needs, in order. -/
  halfWork : List HalfAccess
  droppedCount : Nat
  dropPending : Bool
  deriving DecidableEq, Repr

/-! ### The part -/

/-- The state of the ZC-4: its twelve blocks, the number of free choices taken (the MODEL's own field,
the argument of `Config.order` and `Config.cutOff`; log entries 2 and 7), and the commands that are
waiting, first in first out. -/
structure State where
  trc : Trc
  mkt : Mkt
  rot : Rot
  knt : Knt
  ntp : Ntp
  lnd : Lanes Lnd
  skc : Lanes SkcLane
  tka : Tka
  jbc : Jbc
  rnc : Rnc
  pxm : Pxm
  rpw : Rpw
  choices : Nat
  pending : List Instr
  deriving DecidableEq, Repr

/-! ### One update per field -/

/-- The state with its Travel Counter replaced. -/
def State.setTrc (s : State) (x : Trc) : State := { s with trc := x }
/-- The state with its Mark Tracker replaced. -/
def State.setMkt (s : State) (x : Mkt) : State := { s with mkt := x }
/-- The state with its Row Track replaced. -/
def State.setRot (s : State) (x : Rot) : State := { s with rot := x }
/-- The state with its Knife Timer replaced. -/
def State.setKnt (s : State) (x : Knt) : State := { s with knt := x }
/-- The state with its Note Processor replaced. -/
def State.setNtp (s : State) (x : Ntp) : State := { s with ntp := x }
/-- The state with its Lane Deciders replaced. -/
def State.setLnd (s : State) (x : Lanes Lnd) : State := { s with lnd := x }
/-- The state with its Stack Controller replaced. -/
def State.setSkc (s : State) (x : Lanes SkcLane) : State := { s with skc := x }
/-- The state with its Takeaway Arbiter replaced. -/
def State.setTka (s : State) (x : Tka) : State := { s with tka := x }
/-- The state with its Job Control replaced. -/
def State.setJbc (s : State) (x : Jbc) : State := { s with jbc := x }
/-- The state with its Run Controller replaced. -/
def State.setRnc (s : State) (x : Rnc) : State := { s with rnc := x }
/-- The state with its Port and Exchange Memory replaced. -/
def State.setPxm (s : State) (x : Pxm) : State := { s with pxm := x }
/-- The state with its Report Writer replaced. -/
def State.setRpw (s : State) (x : Rpw) : State := { s with rpw := x }
/-- The state with its count of free choices replaced. -/
def State.setChoices (s : State) (n : Nat) : State := { s with choices := n }
/-- The state with its queue of commands replaced. -/
def State.setPending (s : State) (q : List Instr) : State := { s with pending := q }

/-! ### Reset (R167 and the reset table of each chapter) -/

/-- The Travel Counter after reset (R17). The channel levels, and so the reference taken from them at
the release, are the model's choice: log entry 3. -/
def Trc.reset : Trc :=
  { pins := ⟨false, false⟩, reference := ⟨false, false⟩, web := 0#32, front := 0#32,
    reverseDetector := .armed, encoderDetector := .armed, previousSample := 0#32, speed := 0,
    standstill := 0, zone := .crawl, pendingChange := none, deglitchCount := 0 }

/-- The Mark Tracker after reset (R38). The level of MARK is the model's choice: log entry 3. -/
def Mkt.reset : Mkt :=
  { markActive := false, state := .idle, deglitch := none, newest := none, expected := none,
    stretch := Config.unitStretch, coastCount := 0, strayCount := 0, glitchCount := 0,
    reacquirePoint := none, exemption := none }

/-- The Row Track after reset (R53). -/
def Rot.reset : Rot := { track := [], lastNumber := 0#32, overflowDetector := .armed }

/-- The Knife Timer after reset (R75, R76). -/
def Knt.reset : Knt :=
  { cycle := none, lead := 0, lastFire := none, stallCount := 0, inhibit := false,
    output := .released }

/-- The Note Processor after reset (R100). -/
def Ntp.reset : Ntp :=
  { inWork := none, expectedPage := .a, horizon := none, guardPoint := none, spans := [],
    work := [] }

/-- A Lane Decider after reset (R117). -/
def Lnd.reset : Lnd := { flapLead := 0, flap := .reject, arrivals := [] }

/-- A lane of the Stack Controller after reset (R140). -/
def SkcLane.reset : SkcLane :=
  { line := [], nextId := 1, hold := false, targetCurrent := none, targetPrevious := none,
    shelfLimit := 0 }

/-- The Takeaway Arbiter after reset (R140). -/
def Tka.reset : Tka :=
  { conveyors := ⟨.available, .available⟩, waiting := ⟨Lanes.fill none, Lanes.fill none⟩,
    reservations := 0 }

/-- Ten zeros (R147). -/
def zeroTallies : Tallies := ⟨0, 0, 0, 0, 0, 0, 0, 0, 0, 0⟩

/-- The empty set of reasons. -/
def noReasons : Reasons :=
  ⟨false, false, false, false, false, false, false, false, false, false⟩

/-- Job Control after reset (R154). -/
def Jbc.reset : Jbc := { current := none, previous := none, closePending := Lanes.fill false }

/-- The Run Controller after power-on reset (R167). -/
def Rnc.reset : Rnc :=
  { runState := .off, faultCode := none, lastCommand := none, result := .none, configIndex := 0,
    stopRows := Lanes.fill none, stopPending := Lanes.fill false, record := none }

/-- No flag. -/
def Attention.clear : Attention := ⟨false, false, false, false, false⟩

/-- The Port and Exchange Memory after power-on reset (R176), RESETn released. What memory then holds
(log entry 4) and the data word (log entry 3) are the model's choice. -/
def Pxm.reset : Pxm :=
  { memory := [], requests := [], burst := none, waiting := [], tearLatch := none,
    attention := .clear, mask := .clear, dataOut := 0#16, resetAsserted := false }

/-- The Report Writer after reset (R182). -/
def Rpw.reset : Rpw :=
  { queue := [], writer := .waiting .a, fillIndex := 0, ageTimer := none, halfWork := [],
    droppedCount := 0, dropPending := false }

/-- The part right after power-on reset, with RESETn released again (R167; log entry 3). -/
def State.reset : State :=
  { trc := .reset, mkt := .reset, rot := .reset, knt := .reset, ntp := .reset,
    lnd := Lanes.fill .reset, skc := Lanes.fill .reset, tka := .reset, jbc := .reset,
    rnc := .reset, pxm := .reset, rpw := .reset, choices := 0, pending := [] }

/-! ### Why a step can stop -/

/-- Faults of the model: there is none. The part's own faults are events the Run Controller takes (R164,
R165), and no command of the part stops it. -/
inductive Fault where
  deriving DecidableEq, Repr

/-- Refusals of the model. -/
inductive Refusal where
  /-- An arm of `exec` whose command has no meaning yet. Safe: nothing can be proved of it. No arm is
  refused. -/
  | notModelled (mnemonic : String)
  deriving DecidableEq, Repr

end Sys2Proof.Machine
end

