-- ==== Sys2Proof/Machine/Operands.lean ====
section
/-! DEFINITION. The operand forms of the ZC-4: how two counts are compared (R1), effective lengths
(R18), row numbers (R39, R52), reading and writing exchange memory (R168, R183), and the machine
record, job record and note layouts with the ranges of their fields (R83, R144, R145, R157, R185). -/

namespace Sys2Proof.Machine

/-! ### Comparing counts (R1) -/

/-- `a` is at or beyond `b`: (a - b) mod 2^32 is less than 2^31 (R1). -/
def atOrBeyond (a b : Count) : Bool := decide ((a - b).toNat < 2147483648)

/-- `a` is beyond `b` (R1). -/
def beyond (a b : Count) : Bool := atOrBeyond a b && a != b

/-- `a` is before, or behind, `b` (R1). -/
def before (a b : Count) : Bool := !atOrBeyond a b

/-- `c` lies within the inclusive range from `low` to `high` (R1). -/
def withinRange (c low high : Count) : Bool := atOrBeyond c low && atOrBeyond high c

/-- `c` lies within the half-open span [start, stop) (R1). -/
def withinSpan (c start stop : Count) : Bool := atOrBeyond c start && before c stop

/-- The distance from `b` forward to `a` (R1). -/
def distance (b a : Count) : Nat := (a - b).toNat

/-- The count a distance beyond `p`, modulo 2^32 (R1). -/
def advance (p : Count) (d : Nat) : Count := p + BitVec.ofNat 32 d

/-- The count a distance before `p`, modulo 2^32 (R1). -/
def retreat (p : Count) (d : Nat) : Count := p - BitVec.ofNat 32 d

/-- The spans [start, stop) and [lead, cut) overlap: start is before the cut point and stop is beyond
the lead point (R85). -/
def overlaps (start stop lead cut : Count) : Bool := before start cut && beyond stop lead

/-! ### The encoder (R3) -/

/-- The pair that follows in the forward cycle (0,0), (1,0), (1,1), (0,1) of (A, B) (R3). -/
def EncoderPair.forward (p : EncoderPair) : EncoderPair := ⟨!p.b, p.a⟩

/-- The pair that follows in the reverse cycle (R3). -/
def EncoderPair.backward (p : EncoderPair) : EncoderPair := ⟨p.b, !p.a⟩

/-- The pair with both channels changed (R5). -/
def EncoderPair.opposite (p : EncoderPair) : EncoderPair := ⟨!p.a, !p.b⟩

/-! ### Lengths and row numbers -/

/-- The effective length of a job length at a stretch estimate, rounded half upward (R18). -/
def effective (stretch length : Nat) : Nat := (length * stretch + 32768) / 65536

/-- The stretch estimate moved one eighth of the way toward the measured ratio of `m` counts to a
nominal pitch of `n`, rounded toward the present value and clamped (R19). -/
def stretchUpdate (stretch m n : Nat) : Nat :=
  let r : Int := ((m * 65536 / n : Nat) : Int)
  let moved : Int := (stretch : Int) + Int.tdiv (r - (stretch : Int)) 8
  if moved < 64225 then 64225 else if moved > 66847 then 66847 else moved.toNat

/-- The counts the web travels in a latency of `us` microseconds at `v` counts per millisecond, rounded
half upward and capped (R60, R103). -/
def leadOf (v us leadMax : Nat) : Nat := min leadMax ((v * us + 500) / 1000)

/-- A count that rises by 1 and stops at a limit. -/
def riseTo (limit n : Nat) : Nat := if n < limit then n + 1 else limit

/-- The successor of a row number: n + 1, except that the successor of 2^32 - 1 is 1 (R39). -/
def rowSucc (n : RowNum) : RowNum := if n = 0xFFFFFFFF#32 then 1#32 else n + 1#32

/-- The successor steps that lead from row number `m` forward to `n` (R52). -/
def rowSteps (m n : RowNum) : Nat :=
  if m.toNat ≤ n.toNat then n.toNat - m.toNat else n.toNat + 4294967295 - m.toNat

/-- Row `m` is row `n` or one before it, by the steps of R52. -/
def rowAtOrBefore (m n : RowNum) : Bool := decide (rowSteps m n < 2147483648)

/-! ### Lanes -/

/-- The lane's number. -/
def laneIndex : Lane → Nat
  | .l0 => 0 | .l1 => 1 | .l2 => 2 | .l3 => 3

/-- The lanes in ascending order. -/
def allLanes : List Lane := [.l0, .l1, .l2, .l3]

/-- The set of lanes of a mask word's bits 0 to 3 (R183). -/
def laneSetOf (mask : Nat) : LaneSet := Lanes.ofFn fun l => mask.testBit (laneIndex l)

/-- The mask of a set of lanes (R183). -/
def laneMask (x : LaneSet) : Nat :=
  x.l0.toNat + 2 * x.l1.toNat + 4 * x.l2.toNat + 8 * x.l3.toNat

/-- The set holds a lane. -/
def LaneSet.nonempty (x : LaneSet) : Bool := x.l0 || x.l1 || x.l2 || x.l3

/-- The lane is one of the job's: lanes 0 up to its lane count less one. -/
def JobRecord.active (j : JobRecord) (l : Lane) : Bool := decide (laneIndex l < j.lanes)

/-- The other page (R81). -/
def otherPage : Page → Page
  | .a => .b
  | .b => .a

/-- The other half (R178). -/
def otherHalf : Half → Half
  | .a => .b
  | .b => .a

/-! ### Exchange memory (R168) -/

/-- The byte at an address: the listed one, and 0 for an address that is not listed (log entry 4). -/
def Memory.readByte : Memory → Nat → Byte
  | [], _ => 0#8
  | (a, v) :: m, k => if k = a then v else Memory.readByte m k

/-- Memory with one byte written, in the canonical form. -/
def Memory.writeByte : Memory → Nat → Byte → Memory
  | [], k, v => if v = 0#8 then [] else [(k, v)]
  | (a, b) :: m, k, v =>
    if k < a then (if v = 0#8 then (a, b) :: m else (k, v) :: (a, b) :: m)
    else if k = a then (if v = 0#8 then m else (k, v) :: m)
    else (a, b) :: Memory.writeByte m k v

/-- Every listed address lies beyond `k`, below 8192 and in rising order, and no listed byte is 0. -/
def Memory.wfFrom : Memory → Nat → Bool
  | [], _ => true
  | (a, v) :: m, k => decide (k ≤ a) && decide (a < Config.memoryBytes) && v != 0#8 &&
      Memory.wfFrom m (a + 1)

/-- The canonical form of memory: rising addresses below 8192, and no byte listed that equals what an
unlisted address reads as. -/
def Memory.wf (m : Memory) : Bool := Memory.wfFrom m 0

/-- The word at a byte address, the byte at the lower address being the low byte (R183). -/
def Memory.readWord (m : Memory) (a : Nat) : Word :=
  Memory.readByte m (a + 1) ++ Memory.readByte m a

/-- Memory with one word written at a byte address, its low byte at the lower address (R183). -/
def Memory.writeWord (m : Memory) (a : Nat) (w : Word) : Memory :=
  Memory.writeByte (Memory.writeByte m a (w.extractLsb' 0 8)) (a + 1) (w.extractLsb' 8 8)

/-- Memory with consecutive words written from a byte address on. -/
def Memory.writeWords : Memory → Nat → List Word → Memory
  | m, _, [] => m
  | m, a, w :: ws => Memory.writeWords (Memory.writeWord m a w) (a + 2) ws

/-- The 32-bit field at a byte address, its low word at the lower address (R183). -/
def Memory.readCount (m : Memory) (a : Nat) : Count :=
  Memory.readWord m (a + 2) ++ Memory.readWord m a

/-- A byte as a number. -/
def Memory.natByte (m : Memory) (a : Nat) : Nat := (Memory.readByte m a).toNat

/-- A word as a number. -/
def Memory.natWord (m : Memory) (a : Nat) : Nat := (Memory.readWord m a).toNat

/-- A 32-bit field as a number. -/
def Memory.natCount (m : Memory) (a : Nat) : Nat := (Memory.readCount m a).toNat

/-- A number as a word. -/
def wordOf (n : Nat) : Word := BitVec.ofNat 16 n

/-- The two words of a 32-bit field, low word first (R183). -/
def countWords (c : Count) : List Word := [c.extractLsb' 0 16, c.extractLsb' 16 16]

/-- Two byte fields paired into a word, the first at the even offset (R183). -/
def bytePair (low high : Nat) : Word := BitVec.ofNat 8 high ++ BitVec.ofNat 8 low

/-! ### Where the areas lie (R168, R183) -/

/-- The byte address of a note page. -/
def pageBase : Page → Nat
  | .a => 0x0400
  | .b => 0x0800

/-- The byte address of note `j` of a page. -/
def noteAddress (p : Page) (j : Nat) : Nat := pageBase p + 16 + 16 * j

/-- The byte address of a report half. -/
def halfBase : Half → Nat
  | .a => 0x1000
  | .b => 0x1800

/-- The byte address of record slot `j` of a half. -/
def slotAddress (h : Half) (j : Nat) : Nat := halfBase h + 32 + 32 * j

/-- The byte address of the machine record. -/
def machineRecordBase : Nat := 0x0040

/-- The byte address of a job slot. -/
def jobSlotBase (slot : Nat) : Nat := 0x0100 + 96 * slot

/-- The state words of a note page as encoded (R183). -/
def pagePosted : Word := 1#16
def pageInUse : Word := 2#16
def pageDone : Word := 3#16

/-- The state words of a report half as encoded (R183). -/
def halfEmpty : Word := 0#16
def halfFilling : Word := 1#16
def halfClosed : Word := 2#16

/-! ### Checks of fields in order -/

/-- A number lies in a range that includes both ends. -/
def inRange (low high n : Nat) : Bool := decide (low ≤ n) && decide (n ≤ high)

/-- The index of the first check that fails, checks taken in order. -/
def firstFailing : List (Nat × Bool) → Option Nat
  | [] => none
  | (i, ok) :: rest => if ok then firstFailing rest else some i

/-! ### The machine record (R157, R183) -/

/-- The machine record as it stands in memory. -/
def readMachineRecord (m : Memory) : MachineRecord :=
  let at4 (o : Nat) := Memory.natCount m (machineRecordBase + o)
  let at2 (o : Nat) := Memory.natWord m (machineRecordBase + o)
  let at1 (o : Nat) := Memory.natByte m (machineRecordBase + o)
  { dCam := at4 0x00, dKnife := at4 0x04,
    kFlap := Lanes.ofFn fun l => at4 (0x08 + 4 * laneIndex l),
    kEye := Lanes.ofFn fun l => at4 (0x18 + 4 * laneIndex l),
    dSplice := at4 0x28, eyeTol := at2 0x2C, spliceMargin := at2 0x2E,
    knifeLatency := at2 0x30, flapLatency := at2 0x32, leadMax := at2 0x34,
    vCrawl := at2 0x36, vOver := at2 0x38, reverseLimit := at2 0x3A, reportAge := at2 0x3C,
    knifeTimeout := at1 0x3E, conveyorTimeout := at1 0x3F,
    conveyorOfLane := Lanes.ofFn fun l => at1 (0x40 + laneIndex l),
    lanePriority := Lanes.ofFn fun l => at1 (0x44 + laneIndex l),
    zoneHyst := at1 0x48 }

/-- The checks of the machine record in order of field index (R157). -/
def machineChecks (r : MachineRecord) : List (Nat × Bool) :=
  [(1, inRange 0 200000 r.dCam), (2, inRange 256 400000 r.dKnife)] ++
  allLanes.map (fun l => (3 + laneIndex l, inRange 256 200000 (r.kFlap.get l))) ++
  allLanes.map (fun l => (7 + laneIndex l, inRange (r.kFlap.get l + 256) 400000 (r.kEye.get l))) ++
  [(11, inRange 1 4095 r.eyeTol), (12, inRange 0 400000 r.dSplice),
   (13, inRange 0 65535 r.spliceMargin), (14, inRange 0 20000 r.knifeLatency),
   (15, inRange 0 20000 r.flapLatency), (16, inRange 0 16383 r.leadMax),
   (17, inRange 1 255 r.knifeTimeout)] ++
  allLanes.map (fun l => (18 + laneIndex l, inRange 0 1 (r.conveyorOfLane.get l))) ++
  [(22, inRange 1 255 r.conveyorTimeout)] ++
  allLanes.map (fun l => (23 + laneIndex l, inRange 0 7 (r.lanePriority.get l))) ++
  [(27, inRange 0 4094 r.vCrawl), (28, inRange (r.vCrawl + 1) 4095 r.vOver),
   (29, inRange 0 255 r.zoneHyst), (30, inRange 0 65535 r.reverseLimit),
   (31, inRange 1 1000 r.reportAge)]

/-- The config field index a check of the record leaves: the first field that fails, or 0 (R157). -/
def machineIndex (r : MachineRecord) : Nat := (firstFailing (machineChecks r)).getD 0

/-- The conveyor of a lane by the machine record (chapter 7, Takeaway). -/
def MachineRecord.conveyor (r : MachineRecord) (l : Lane) : Conveyor :=
  if r.conveyorOfLane.get l = 0 then .c0 else .c1

/-! ### The job record (R144, R145, R183) -/

/-- The job record in a slot as it stands in memory. -/
def readJobRecord (m : Memory) (slot : Nat) : JobRecord :=
  let at2 (o : Nat) := Memory.natWord m (jobSlotBase slot + o)
  let at1 (o : Nat) := Memory.natByte m (jobSlotBase slot + o)
  { jobId := at2 0x00, lanes := at1 0x02,
    dualPitch := (at1 0x03).testBit 0, coastAccept := (at1 0x03).testBit 1,
    pitchA := at2 0x04, pitchB := at2 0x06, offsetA := at2 0x08, offsetB := at2 0x0A,
    markWindow := at2 0x0C, knifeTol := at2 0x0E, markMin := at1 0x10, coastLimit := at1 0x11,
    lane := Lanes.ofFn fun l =>
      { xStart := at2 (0x12 + 4 * laneIndex l), xEnd := at2 (0x14 + 4 * laneIndex l),
        target := at2 (0x22 + 2 * laneIndex l), shelfMax := at1 (0x2A + laneIndex l) } }

/-- The minimum pitch: of both classes for a dual-pitch job, of class A otherwise. -/
def JobRecord.pitchMin (j : JobRecord) : Nat :=
  if j.dualPitch then min j.pitchA j.pitchB else j.pitchA

/-- The maximum pitch: of both classes for a dual-pitch job, of class A otherwise. -/
def JobRecord.pitchMax (j : JobRecord) : Nat :=
  if j.dualPitch then max j.pitchA j.pitchB else j.pitchA

/-- The pitch of a class. -/
def JobRecord.pitch (j : JobRecord) : RowClass → Nat
  | .a => j.pitchA
  | .b => j.pitchB

/-- The offset of a class. -/
def JobRecord.offset (j : JobRecord) : RowClass → Nat
  | .a => j.offsetA
  | .b => j.offsetB

/-- The class that follows a class: the other one in a dual-pitch job, class A otherwise (R25). -/
def JobRecord.nextClass (j : JobRecord) (c : RowClass) : RowClass :=
  if j.dualPitch then (match c with | .a => .b | .b => .a) else .a

/-- A check of an active lane's field; fields of other lanes are not checked (R144). -/
def laneCheck (j : JobRecord) (l : Lane) (index : Nat) (ok : Bool) : Nat × Bool :=
  (index, !j.active l || ok)

/-- The lower bound of x_start: x_end of the lane before, and 0 for lane 0 (R144). -/
def xFloor (j : JobRecord) : Lane → Nat
  | .l0 => 0
  | .l1 => j.lane.l0.xEnd
  | .l2 => j.lane.l1.xEnd
  | .l3 => j.lane.l2.xEnd

/-- The field checks of a job record in order of field index (R144). -/
def jobFieldChecks (j : JobRecord) : List (Nat × Bool) :=
  [(1, inRange 1 65535 j.jobId), (2, inRange 1 4 j.lanes), (4, inRange 256 65535 j.pitchA),
   (5, !j.dualPitch || inRange 256 65535 j.pitchB),
   (8, inRange 8 (j.pitchMin / 4) j.markWindow), (9, inRange 1 63 j.markMin),
   (10, inRange 0 8 j.coastLimit), (11, inRange 0 4095 j.knifeTol)] ++
  allLanes.flatMap (fun l =>
    [laneCheck j l (12 + 2 * laneIndex l)
       (inRange 0 4999 (j.lane.get l).xStart && decide (xFloor j l ≤ (j.lane.get l).xStart)),
     laneCheck j l (13 + 2 * laneIndex l)
       (inRange ((j.lane.get l).xStart + 1) 5000 (j.lane.get l).xEnd)]) ++
  allLanes.map (fun l => laneCheck j l (20 + laneIndex l) (inRange 2 9999 (j.lane.get l).target)) ++
  allLanes.map (fun l => laneCheck j l (24 + laneIndex l)
    (inRange 1 32 (j.lane.get l).shelfMax &&
      decide ((j.lane.get l).shelfMax < (j.lane.get l).target)))

/-- The shortest effective pitch the stretch estimate can give (R145). -/
def JobRecord.pminE (j : JobRecord) : Nat := j.pitchMin * 64225 / 65536

/-- The longest effective pitch the stretch estimate can give (R145). -/
def JobRecord.pmaxE (j : JobRecord) : Nat := (j.pitchMax * 66847 + 65535) / 65536

/-- The largest k_eye of the active lanes (R145). -/
def maxEye (j : JobRecord) (r : MachineRecord) : Nat :=
  allLanes.foldl (fun n l => if j.active l then max n (r.kEye.get l) else n) 0

/-- The path checks of a job in order of index (R145). -/
def jobPathChecks (j : JobRecord) (r : MachineRecord) : List (Nat × Bool) :=
  [(28, !j.dualPitch ||
      (decide (j.offsetA + 64 ≤ j.pitchA + j.offsetB) &&
       decide (j.offsetB + 64 ≤ j.pitchB + j.offsetA)))] ++
  allLanes.map (fun l => laneCheck j l (29 + laneIndex l)
    (decide (j.pmaxE + j.knifeTol + r.leadMax ≤ r.kFlap.get l))) ++
  allLanes.map (fun l => laneCheck j l (33 + laneIndex l)
    (decide (r.kEye.get l + r.eyeTol < 15 * j.pminE + r.kFlap.get l))) ++
  [(37, decide (r.dKnife + (if j.dualPitch then max j.offsetA j.offsetB else j.offsetA) +
      maxEye j r + r.eyeTol ≤ 48 * j.pminE))]

/-- The index of the first field or path check a job fails, none for a valid job (R144, R145). -/
def jobIndex (j : JobRecord) (r : MachineRecord) : Option Nat :=
  firstFailing (jobFieldChecks j ++ jobPathChecks j r)

/-- A label span across the web hits a lane window: x0 is below x_end and x0 + width above x_start
(R85). -/
def hitAcross (x : JobLane) (x0 width : Nat) : Bool :=
  decide (x0 < x.xEnd) && decide (x.xStart < x0 + width)

/-- The lanes of a job that a stretch across the web hits (R85, R88). -/
def JobRecord.lanesHit (j : JobRecord) (x0 width : Nat) : LaneSet :=
  Lanes.ofFn fun l => j.active l && hitAcross (j.lane.get l) x0 width

/-! ### Notes (R83, R183, R185) -/

/-- The actions of a LANE note, in the order in which they are applied (R127). -/
structure LaneActions where
  hold : Bool
  release : Bool
  closeShort : Bool
  target : Bool
  deriving DecidableEq, Repr

/-- A note as decoded. -/
inductive Note where
  | span (wc : Count) (len x0 width : Nat)
  | row (number : RowNum) (lanes : LaneSet)
  | lane (lanes : LaneSet) (actions : LaneActions) (target : Nat)
  | conveyor (c : Conveyor)
  | job (slot : Nat)
  deriving DecidableEq, Repr

/-- Kinds of a note (R83). -/
inductive NoteKind where
  | span | row | lane | conveyor | job | unknown
  deriving DecidableEq, Repr

/-- The kind a note's kind word names (R83, R185). -/
def noteKind (m : Memory) (base : Nat) : NoteKind :=
  match Memory.natWord m base with
  | 1 => .span
  | 2 => .row
  | 3 => .lane
  | 4 => .conveyor
  | 5 => .job
  | _ => .unknown

/-- A mask word names a non-empty subset of four items: bits 4 to 15 are clear and it is not 0
(R185). -/
def maskOk (n : Nat) : Bool := inRange 1 15 n

/-- A SPAN note, or the index of its first field out of range (R83). -/
def decodeSpan (m : Memory) (base : Nat) : Note ⊕ Nat :=
  let len := Memory.natWord m (base + 8)
  let x0 := Memory.natWord m (base + 10)
  let width := Memory.natWord m (base + 12)
  match firstFailing [(2, inRange 1 65535 len), (3, inRange 0 4999 x0),
      (4, inRange 1 5000 width && decide (x0 + width ≤ 5000))] with
  | some i => .inr i
  | none => .inl (.span (Memory.readCount m (base + 4)) len x0 width)

/-- A ROW note, or the index of its first field out of range (R83). -/
def decodeRow (m : Memory) (base : Nat) : Note ⊕ Nat :=
  let number := Memory.readCount m (base + 4)
  let mask := Memory.natWord m (base + 8)
  match firstFailing [(1, number != 0#32), (2, maskOk mask)] with
  | some i => .inr i
  | none => .inl (.row number (laneSetOf mask))

/-- A LANE note, or the index of its first field out of range; the target is checked when TARGET is in
the apply mask (R83). -/
def decodeLane (m : Memory) (base : Nat) : Note ⊕ Nat :=
  let mask := Memory.natWord m (base + 4)
  let apply := Memory.natWord m (base + 6)
  let target := Memory.natWord m (base + 8)
  match firstFailing [(1, maskOk mask), (2, maskOk apply),
      (3, !apply.testBit 3 || inRange 2 9999 target)] with
  | some i => .inr i
  | none => .inl (.lane (laneSetOf mask)
      ⟨apply.testBit 0, apply.testBit 1, apply.testBit 2, apply.testBit 3⟩ target)

/-- A CONVEYOR note, or the index of its first field out of range (R83). -/
def decodeConveyor (m : Memory) (base : Nat) : Note ⊕ Nat :=
  let c := Memory.natWord m (base + 4)
  let action := Memory.natWord m (base + 6)
  match firstFailing [(1, inRange 0 1 c), (2, action == 1)] with
  | some i => .inr i
  | none => .inl (.conveyor (if c = 0 then .c0 else .c1))

/-- A JOB note, or the index of its field out of range (R83). -/
def decodeJob (m : Memory) (base : Nat) : Note ⊕ Nat :=
  let slot := Memory.natWord m (base + 4)
  match firstFailing [(1, inRange 0 7 slot)] with
  | some i => .inr i
  | none => .inl (.job slot)

/-- A note decoded by its kind, each field checked in order; a kind that is none of the five fails
with index 0 (R83). -/
def decodeNote (m : Memory) (base : Nat) : Note ⊕ Nat :=
  match noteKind m base with
  | .span => decodeSpan m base
  | .row => decodeRow m base
  | .lane => decodeLane m base
  | .conveyor => decodeConveyor m base
  | .job => decodeJob m base
  | .unknown => .inr 0

end Sys2Proof.Machine
end

