-- ==== Sys2Proof/Machine/Flags.lean ====
section
/-! DEFINITION. The flags of the ZC-4 and what is computed from them: reason sets and their precedence
(R46, R48), tallies (R152), ATTENTION, ATTN_MASK and IRQ (R173, R174), the outputs, the register
window as it reads (R172, R184), and the encodings of named values (R183). -/

namespace Sys2Proof.Machine

/-! ### Reasons and tallies -/

/-- The value of one reason. -/
def PerReason.get {α : Type} (x : PerReason α) : Reason → α
  | .stopped => x.stopped
  | .leadIn => x.leadIn
  | .knife => x.knife
  | .speed => x.speed
  | .register => x.register
  | .splice => x.splice
  | .guard => x.guard
  | .defect => x.defect
  | .uninspected => x.uninspected
  | .held => x.held

/-- The same with one reason's value replaced. -/
def PerReason.set {α : Type} (x : PerReason α) (r : Reason) (v : α) : PerReason α :=
  match r with
  | .stopped => { x with stopped := v }
  | .leadIn => { x with leadIn := v }
  | .knife => { x with knife := v }
  | .speed => { x with speed := v }
  | .register => { x with register := v }
  | .splice => { x with splice := v }
  | .guard => { x with guard := v }
  | .defect => { x with defect := v }
  | .uninspected => { x with uninspected := v }
  | .held => { x with held := v }

/-- The ten reasons in precedence order (chapter 3). -/
def allReasons : List Reason :=
  [.stopped, .leadIn, .knife, .speed, .register, .splice, .guard, .defect, .uninspected, .held]

/-- A reason set with a reason added; adding one it holds leaves it as it is (R46). -/
def addReason (x : Reasons) (r : Reason) : Reasons := x.set r true

/-- A reason set with a reason added when a condition holds. -/
def addReasonIf (c : Bool) (r : Reason) (x : Reasons) : Reasons := if c then addReason x r else x

/-- The primary reason of a set: the one that stands first in precedence; none for the empty set
(R48). -/
def primaryReason (x : Reasons) : Option Reason := allReasons.find? fun r => x.get r

/-- A tally raised by 1, stopping at 65535 (R108, R152). -/
def raiseTally (t : Tallies) (r : Reason) : Tallies := t.set r (riseTo 65535 (t.get r))

/-- The reason a span of the pending list brings. -/
def SpanReason.reason : SpanReason → Reason
  | .defect => .defect
  | .splice => .splice

/-! ### ATTENTION, ATTN_MASK and IRQ -/

/-- Five flags as a register word: bit 0 PAGE_DONE, 1 REPORTS, 2 FAULT, 3 STATE, 4 CMD; bits 5 to 15
read 0 (R172, R183). -/
def attentionWord (x : Attention) : Word :=
  wordOf (x.pageDone.toNat + 2 * x.reports.toNat + 4 * x.fault.toNat + 8 * x.state.toNat +
    16 * x.cmd.toNat)

/-- The five flags a register word holds; the other bits are ignored (R172). -/
def attentionOf (w : Word) : Attention :=
  ⟨w.getLsbD 0, w.getLsbD 1, w.getLsbD 2, w.getLsbD 3, w.getLsbD 4⟩

/-- Flags with each flag of `y` cleared (R173). -/
def attentionMinus (x y : Attention) : Attention :=
  ⟨x.pageDone && !y.pageDone, x.reports && !y.reports, x.fault && !y.fault,
   x.state && !y.state, x.cmd && !y.cmd⟩

/-- At least one flag is set with its enable set (R174). -/
def attentionPending (x mask : Attention) : Bool :=
  (x.pageDone && mask.pageDone) || (x.reports && mask.reports) || (x.fault && mask.fault) ||
  (x.state && mask.state) || (x.cmd && mask.cmd)

/-! ### Outputs -/

/-- The IRQ output is asserted (R174). -/
def irq (s : State) : Bool := attentionPending s.pxm.attention s.pxm.mask

/-- The HALT output is asserted: in OFF and HALTED (R155). -/
def halt (s : State) : Bool :=
  match s.rnc.runState with
  | .off | .halted => true
  | .ready | .run | .drain => false

/-- The burst only reads. -/
def NoteBurst.onlyReads : NoteBurst → Bool
  | .noteRead | .jobCopy _ | .lateRead _ _ | .lateCopy _ _ _ | .stateCheck => true
  | .pageTaking | .fateWrite _ _ _ _ | .finishing | .cutShortDone _ => false

/-- The burst that a source has requested only reads: START's machine record load, and the note reads, job
copies and page state checks of the Note Processor (R170). -/
def readsOnly (b : BurstSource) (s : State) : Bool :=
  match b with
  | .machine => true
  | .notes => s.ntp.work.head?.any NoteBurst.onlyReads
  | .refresh | .reports => false

/-- A burst that only reads is in progress: it has begun when its request stands first and no other burst
has the memory, and its event is taken at its end (R80, R142, R157, R170; log entry 7). -/
def readBurst (s : State) : Bool :=
  s.pxm.burst.isNone && s.pxm.requests.head?.any fun b => readsOnly b s

/-- A part burst is in progress (R170). -/
def memoryHeld (s : State) : Bool := s.pxm.burst.isSome || readBurst s

/-- The WAIT output is asserted: a press-controller access waits for the burst in progress; the resets
release it (R170, R176). -/
def wait (s : State) : Bool := !s.pxm.waiting.isEmpty && memoryHeld s

/-- The KNIFE_FIRE output is asserted (R65). -/
def knifeFire (s : State) : Bool := s.knt.output == .asserted

/-- The FLAP output of a lane is high, PASS (R110). -/
def flapPass (s : State) (l : Lane) : Bool :=
  match (s.lnd.get l).flap with
  | .pass _ => true
  | .reject => false

/-- A conveyor is PUSHING a lane's FRONT. -/
def conveyorPushes (x : ConveyorState) (l : Lane) : Bool :=
  match x with
  | .pushing l' _ => l' == l
  | .available | .out => false

/-- The PUSH output of a lane is asserted: a conveyor is PUSHING that lane (R135, R136). -/
def push (s : State) (l : Lane) : Bool :=
  conveyorPushes s.tka.conveyors.c0 l || conveyorPushes s.tka.conveyors.c1 l

/-! ### Encodings (R183) -/

def runStateCode : RunState → Nat
  | .off => 0 | .ready => 1 | .run => 2 | .drain => 3 | .halted => 4

def haltingCode : HaltingFault → Nat
  | .markLost => 1 | .knifeStall => 2 | .reverseLimit => 3 | .trackOverflow => 4 | .encoder => 5

/-- The fault code of a FAULT record's cause (R183). -/
def causeCode : FaultCause → Nat
  | .halting f => haltingCode f
  | .conveyorTimeout _ => 6

/-- The fault code as live status shows it: 0 for none (R183). -/
def faultCodeNat : Option HaltingFault → Nat
  | none => 0
  | some f => haltingCode f

def zoneCode : Zone → Nat
  | .crawl => 0 | .run => 1 | .over => 2

def pageCode : Page → Nat
  | .a => 0 | .b => 1

def stackStateCode : StackState → Nat
  | .filling => 1 | .completing => 2 | .closed => 3 | .pushing => 4

def fateCode : Fate → Nat
  | .applied => 1 | .pending => 2 | .late => 3 | .partLate => 4 | .gone => 5 | .gutter => 6
  | .future => 7 | .guarded => 8 | .noJob => 9 | .busy => 10 | .refused => 11 | .bad => 12
  | .done => 13 | .unapplied => 14

def closeKindCode : CloseKind → Nat
  | .full => 0 | .shortCmd => 1 | .shortJob => 2 | .shortStop => 3 | .shortAbort => 4
  | .shortFault => 5

def resultCode : CommandResult → Nat
  | .none => 0 | .accepted => 1 | .refused => 2 | .badCode => 3

def conveyorCode : Conveyor → Nat
  | .c0 => 0 | .c1 => 1

/-! ### The register window as it reads (R172, R184) -/

/-- The condition field of STATE: the run state together with the code that belongs to it (R184). -/
def stateCondition (r : Rnc) : Nat :=
  match r.runState with
  | .off => r.configIndex
  | .ready => 32
  | .run => 33
  | .drain => 34
  | .halted => 40 + faultCodeNat r.faultCode

/-- The STATE register: bits 0 to 7 the last command, 8 and 9 the result, 10 to 15 the condition
(R172, R183, R184). -/
def stateRegister (r : Rnc) : Word :=
  wordOf ((r.lastCommand.getD 0#8).toNat + 256 * resultCode r.result + 1024 * stateCondition r)

/-- What a read of the register window at an offset returns (R172). -/
def registerRead (s : State) (offset : BitVec 3) : Word :=
  match offset.toNat with
  | 0 => 0x5A12#16
  | 2 => stateRegister s.rnc
  | 3 => attentionWord s.pxm.attention
  | 4 => attentionWord s.pxm.mask
  | _ => 0#16

end Sys2Proof.Machine
end

