-- ==== Sys2Proof/Machine/Ops.lean ====
section
/-! DEFINITION. The named operations every block shares: exchange memory and ATTENTION, burst requests
(R170), the report queue (R177), the run state and the taking of a fault (R155, R164, R165), the
views of the track that the chapters define (R47, R52, R59, R102), the contexts a tag names (R40), and
the order of acts that one event makes due together. -/

namespace Sys2Proof.Machine

/-! ### Exchange memory and ATTENTION -/

/-- Exchange memory replaced. -/
def setMemory (m : Memory) (s : State) : State := s.setPxm { s.pxm with memory := m }

/-- A word of exchange memory written at a byte address by the press controller. -/
def storeWord (a : Nat) (w : Word) (s : State) : State :=
  setMemory (Memory.writeWord s.pxm.memory a w) s

/-- The words that `n` consecutive words written from a byte address on replace, in order. -/
def overwritten (m : Memory) : Nat → Nat → List Overwritten
  | _, 0 => []
  | a, n + 1 => ⟨a, Memory.readWord m a⟩ :: overwritten m (a + 2) n

/-- Consecutive words of exchange memory written from a byte address on by the burst in progress
(R170). -/
def burstWrite (a : Nat) (ws : List Word) (s : State) : State :=
  s.setPxm { s.pxm with
    memory := Memory.writeWords s.pxm.memory a ws,
    burst := s.pxm.burst.map fun x =>
      { x with words := x.words ++ overwritten s.pxm.memory a ws.length } }

/-- Exchange memory with the words that a burst had not yet written as they stood before it (R176). -/
def restoreWords (ws : List Overwritten) (m : Memory) : Memory :=
  ws.foldr (fun x m => Memory.writeWord m x.address x.before) m

/-- ATTENTION replaced; IRQ follows (R174). -/
def setAttention (x : Attention) (s : State) : State := s.setPxm { s.pxm with attention := x }

/-- ATTENTION.PAGE_DONE set (R81, R82). -/
def flagPageDone (s : State) : State := setAttention { s.pxm.attention with pageDone := true } s
/-- ATTENTION.REPORTS set (R180). -/
def flagReports (s : State) : State := setAttention { s.pxm.attention with reports := true } s
/-- ATTENTION.FAULT set (R164, R165). -/
def flagFault (s : State) : State := setAttention { s.pxm.attention with fault := true } s
/-- ATTENTION.STATE set (R155). -/
def flagState (s : State) : State := setAttention { s.pxm.attention with state := true } s
/-- ATTENTION.CMD set (R156). -/
def flagCmd (s : State) : State := setAttention { s.pxm.attention with cmd := true } s

/-! ### Burst requests (R170) -/

/-- The burst requests replaced. -/
def setRequests (q : List BurstSource) (s : State) : State :=
  s.setPxm { s.pxm with requests := q }

/-- The requests with a source's request added at the end, unless it has one already (R170, R175). -/
def withRequest (b : BurstSource) (q : List BurstSource) : List BurstSource :=
  if b ∈ q then q else q ++ [b]

/-- A source requests a burst. -/
def requestBurst (b : BurstSource) (s : State) : State :=
  setRequests (withRequest b s.pxm.requests) s

/-- A source's request is withdrawn. -/
def withdrawBurst (b : BurstSource) (s : State) : State :=
  setRequests (s.pxm.requests.filter (fun x => x != b)) s

/-- The source's burst is the next the arbiter serves: bursts wait in the order of their requests
(R170). -/
def hasTurn (b : BurstSource) (s : State) : Bool := s.pxm.requests.head? == some b

/-- The burst whose turn it is leaves the requests. -/
def popRequest (s : State) : State := setRequests s.pxm.requests.tail s

/-- The burst whose turn it is begins, and has the memory until it ends (R170). -/
def beginBurst (b : BurstSource) (s : State) : State :=
  s.setPxm { s.pxm with requests := s.pxm.requests.tail, burst := some ⟨b, []⟩ }

/-- The source's burst has the memory. -/
def inProgress (b : BurstSource) (s : State) : Bool := s.pxm.burst.any fun x => x.source == b

/-- A source that needs a burst requests it, unless its last one has not ended: it has at most one burst
requested or running at a time (R170). -/
def askFor (b : BurstSource) (needed : Bool) (s : State) : State :=
  if needed && !inProgress b s then requestBurst b s else s

/-- The Note Processor's next burst is requested when it needs one (R170). -/
def updateNoteRequest (s : State) : State := askFor .notes (!s.ntp.work.isEmpty) s

/-- The Note Processor's remaining work replaced, and its next burst requested. -/
def setNoteWork (w : List NoteBurst) (s : State) : State :=
  updateNoteRequest (s.setNtp { s.ntp with work := w })

/-- The Note Processor's burst whose turn it is, if it is its turn. -/
def noteTurn (s : State) : Option NoteBurst :=
  if hasTurn .notes s then s.ntp.work.head? else none

/-- The Report Writer needs a burst: for a half state access, or, while it is FILLING, for a record of the
queue (R178, R179). -/
def Rpw.needsBurst (x : Rpw) : Bool :=
  match x.halfWork, x.writer, x.queue with
  | _ :: _, _, _ => true
  | [], .filling _, _ :: _ => true
  | [], .filling _, [] => false
  | [], .waiting _, _ => false

/-- The Report Writer's next burst is requested when it needs one (R170, R179). -/
def updateReportRequest (s : State) : State := askFor .reports s.rpw.needsBurst s

/-! ### The report queue (R177) -/

/-- The record is a STACK record. -/
def Record.isStack : Record → Bool
  | .stack _ _ _ => true
  | .suspect _ _ _ | .fault _ _ _ _ | .jobStart _ _ | .jobEnd _ _ _ _ => false

/-- Records of the queue that are not STACK records. -/
def otherRecords (q : List Record) : Nat := q.countP fun r => !r.isStack

/-- STACK records of the queue. -/
def stackRecords (q : List Record) : Nat := q.countP fun r => r.isStack

/-- A record is handed over: a STACK record always joins; another joins when the queue holds fewer than
4 that are not STACK records, and is dropped and counted otherwise (R177). -/
def queueRecord (r : Record) (s : State) : State :=
  if r.isStack || decide (otherRecords s.rpw.queue < Config.otherRecordCapacity) then
    updateReportRequest (s.setRpw { s.rpw with queue := s.rpw.queue ++ [r] })
  else
    s.setRpw { s.rpw with
      droppedCount := riseTo 65535 s.rpw.droppedCount, dropPending := true }

/-! ### Views of the track -/

/-- The lane entry is OPEN. -/
def LaneEntry.isOpen : LaneEntry → Bool
  | .undecided _ => true
  | .good _ | .reject _ => false

/-- The row has an OPEN entry for the lane. -/
def openIn (l : Lane) (r : Row) : Bool :=
  match r.entries.get l with
  | some e => e.isOpen
  | none => false

/-- Every lane entry of the row is DECIDED (R47). -/
def fullyDecided (r : Row) : Bool :=
  !openIn .l0 r && !openIn .l1 r && !openIn .l2 r && !openIn .l3 r

/-- The undecided count: the rows of the track with at least one OPEN lane entry (chapter 3). -/
def undecidedCount (s : State) : Nat := s.rot.track.countP fun r => !fullyDecided r

/-- The newest row of the track. -/
def newestRow (s : State) : Option Row := s.rot.track.getLast?

/-- The number of the newest row, 0 when the track is empty (R57, R164). -/
def newestNumber (s : State) : RowNum :=
  match newestRow s with
  | some r => r.number
  | none => 0#32

/-- The number of the oldest row, 0 when the track is empty (R57). -/
def oldestNumber (s : State) : RowNum :=
  match s.rot.track.head? with
  | some r => r.number
  | none => 0#32

/-- The row of the track with a number. -/
def findRow (n : RowNum) (s : State) : Option Row := s.rot.track.find? fun r => r.number == n

/-- The row of the track with a number, changed. -/
def mapRow (n : RowNum) (f : Row → Row) (track : List Row) : List Row :=
  track.map fun r => if r.number = n then f r else r

/-- The track replaced. -/
def setTrack (t : List Row) (s : State) : State := s.setRot { s.rot with track := t }

/-- The trail cut is PENDING. -/
def TrailCut.isPending : TrailCut → Bool
  | .pending => true
  | .firing _ | .done _ _ | .stalled _ => false

/-- A complete trail cut, DONE or STALLED, as the lead cut of the row after it (R42, R43). -/
def TrailCut.asLead : TrailCut → Option LeadCut
  | .pending | .firing _ => none
  | .done f bad => some ⟨f, bad⟩
  | .stalled f => some ⟨f, true⟩

/-- The next cut: the oldest row whose trail cut is PENDING (R59). -/
def nextCut (s : State) : Option Row := s.rot.track.find? fun r => r.trail.isPending

/-- The next row of a lane: the oldest row with an OPEN entry for it (R102). -/
def nextRow (l : Lane) (s : State) : Option Row := s.rot.track.find? fun r => openIn l r

/-- Standings of a row number (R52). -/
inductive Standing where
  | none | notYetCreated | present (r : Row) | gone
  deriving DecidableEq, Repr

/-- The standing of a row number against the last issued number (R52). -/
def standing (n : RowNum) (s : State) : Standing :=
  if n = 0#32 then .none
  else if s.rot.lastNumber = 0#32 then .notYetCreated
  else if 2147483648 ≤ rowSteps n s.rot.lastNumber then .notYetCreated
  else match findRow n s with
    | some r => .present r
    | none => .gone

/-- The web is at the front: W equals F (R6). -/
def atFront (s : State) : Bool := s.trc.web == s.trc.front

/-! ### Contexts -/

/-- The context a row's tag names; an ENDED row takes no settings (R40). -/
def contextOf (t : JobTag) (s : State) : Option JobContext :=
  match t with
  | .current => s.jbc.current
  | .previous => s.jbc.previous
  | .ended => none

/-- A context with one tally raised. -/
def JobContext.raise (c : JobContext) (r : Reason) : JobContext :=
  { c with tallies := raiseTally c.tallies r }

/-- The tally of a reason raised in the context a tag names (R108). -/
def tallyReject (t : JobTag) (r : Reason) (s : State) : State :=
  match t with
  | .current => s.setJbc { s.jbc with current := s.jbc.current.map fun c => c.raise r }
  | .previous => s.setJbc { s.jbc with previous := s.jbc.previous.map fun c => c.raise r }
  | .ended => s

/-! ### The run state and faults -/

/-- A flap at REJECT. -/
def Lnd.rejectFlap (x : Lnd) : Lnd := { x with flap := .reject }

/-- Every flap returns to REJECT (R111). -/
def flapsToReject (s : State) : State := s.setLnd (s.lnd.map Lnd.rejectFlap)

/-- The run state becomes `r`: ATTENTION.STATE is set when it differs from before, and the flaps rest at
REJECT in OFF and READY (R111, R155). -/
def setRunState (r : RunState) (s : State) : State :=
  let s1 := s.setRnc { s.rnc with runState := r }
  let s2 := if s.rnc.runState = r then s1 else flagState s1
  match r with
  | .off | .ready => flapsToReject s2
  | .run | .drain | .halted => s2

/-- The run state is one in which halting faults are raised: RUN, DRAIN or HALTED. -/
def running (s : State) : Bool :=
  match s.rnc.runState with
  | .run | .drain | .halted => true
  | .off | .ready => false

/-- The stop rows dropped and the stop pending set emptied. -/
def Rnc.noStops (r : Rnc) : Rnc :=
  { r with stopRows := Lanes.fill none, stopPending := Lanes.fill false }

/-- The Run Controller takes a halting fault raised with the front `f`: in RUN and DRAIN the part passes
to HALTED (R164); in HALTED it is secondary (R165); the raising blocks raise none in OFF or READY. -/
def raiseHalting (fault : HaltingFault) (f : Count) (s : State) : State :=
  match s.rnc.runState with
  | .off | .ready => s
  | .run | .drain =>
    let s1 := setRunState .halted (s.setRnc { s.rnc.noStops with faultCode := some fault })
    queueRecord (.fault (.halting fault) false f (newestNumber s)) (flagFault s1)
  | .halted =>
    queueRecord (.fault (.halting fault) true f (newestNumber s)) (flagFault s)

/-- The Run Controller takes a CONVEYOR_TIMEOUT (R165). -/
def raiseTimeout (c : Conveyor) (f : Count) (s : State) : State :=
  queueRecord (.fault (.conveyorTimeout c) (s.rnc.runState == .halted) f (newestNumber s))
    (flagFault s)

/-- A CONTROL write is recorded: the last command and the result, and ATTENTION.CMD (R156). -/
def recordCommand (code : Byte) (r : CommandResult) (s : State) : State :=
  flagCmd (s.setRnc { s.rnc with lastCommand := some code, result := r })

/-! ### Acts that one event makes due together (log entry 2) -/

/-- The acts of a list in the order a number names: each digit, in the falling base of what remains,
picks the next act. Every order of the list is named by some number. -/
def permute {α : Type} (code : Nat) : Nat → List α → List α
  | 0, l => l
  | _ + 1, [] => []
  | n + 1, x :: xs =>
    let len := xs.length + 1
    let i := code % len
    let picked := (x :: xs).getD i x
    picked :: permute (code / len) n ((x :: xs).eraseIdx i)

/-- Acts taken one after another. -/
def takeAll {α : Type} (act : α → State → State) : List α → State → State
  | [], s => s
  | t :: ts, s => takeAll act ts (act t s)

/-- The due acts of a list are taken: none or one as it is, more in a free order. -/
def takeDue {α : Type} (due : α → State → Bool) (act : α → State → State) (ts : List α)
    (s : State) : State :=
  match ts.filter (fun t => due t s) with
  | [] => s
  | [t] => act t s
  | t :: u :: rest =>
    takeAll act (permute (Config.order s.choices) (rest.length + 2) (t :: u :: rest))
      (s.setChoices (s.choices + 1))

end Sys2Proof.Machine
end

