-- ==== Sys2Proof/Machine/Access.lean ====
section
/-! DEFINITION. Press-controller accesses to exchange memory as they meet the part's bursts: the watched
words and what they are delivered to (R78, R169, R178), the tear latch (R171), the half state accesses,
which no command of the table stands for (R178, R180), and the access that WAIT holds while a burst is in
progress (R170, R176). -/

namespace Sys2Proof.Machine

/-! ### What a watched word does -/

/-- The Note Processor sets out to take the expected page: its page taking is requested, once. -/
def takePage (s : State) : State :=
  if NoteBurst.pageTaking ∈ s.ntp.work then s
  else setNoteWork (s.ntp.work ++ [.pageTaking]) s

/-- A press-controller write into a page's state word as the Note Processor acts on it: POSTED, into the
expected page, with no page in work, outside OFF (R78). -/
def pagePostedAct (p : Page) (w : Word) (s : State) : State :=
  if w = pagePosted ∧ p = s.ntp.expectedPage ∧ s.ntp.inWork = none ∧ s.rnc.runState ≠ .off then
    takePage s
  else s

/-- The writer takes a half: the fill index is 0 and the age timer stopped, and FILLING is the half state
access it needs next (R178). -/
def takeHalf (h : Half) (s : State) : State :=
  updateReportRequest (s.setRpw { s.rpw with
    writer := .filling h, fillIndex := 0, ageTimer := none, halfWork := [.writeFilling h] })

/-- A press-controller write into a half's state word as the Report Writer acts on it: EMPTY, into the
half it is WAITING for (R178). -/
def halfFreedAct (h : Half) (w : Word) (s : State) : State :=
  if w = halfEmpty ∧ s.rpw.writer = .waiting h then takeHalf h s else s

/-! ### Serving an access -/

/-- The byte address of a port word address (R169). -/
def byteAddress (a : BitVec 12) : Nat := 2 * a.toNat

/-- What a watched word is delivered to (R169). -/
inductive Watcher where
  | page (p : Page)
  | half (h : Half)
  | nobody
  deriving DecidableEq, Repr

/-- The watcher of a byte address (R169). -/
def watcherOf (a : Nat) : Watcher :=
  if a = pageBase .a then .page .a
  else if a = pageBase .b then .page .b
  else if a = halfBase .a then .half .a
  else if a = halfBase .b then .half .b
  else .nobody

/-- A press-controller write of a word of exchange memory, served: the word is stored, and the value of a
watched word is delivered to its block within the event (R169). -/
def pressWrite (a : Nat) (w : Word) (s : State) : State :=
  let s1 := storeWord a w s
  match watcherOf a with
  | .page p => pagePostedAct p w s1
  | .half h => halfFreedAct h w s1
  | .nobody => s1

/-- The 32-bit field of live status a word address belongs to, and whether it is the field's low word
(R171, R183). -/
def tearFieldOf (a : BitVec 12) : Option (TearField × Bool) :=
  match a.toNat with
  | 0 => some (.web, true)
  | 1 => some (.web, false)
  | 2 => some (.front, true)
  | 3 => some (.front, false)
  | 4 => some (.stretch, true)
  | 5 => some (.stretch, false)
  | 6 => some (.newest, true)
  | 7 => some (.newest, false)
  | 8 => some (.oldest, true)
  | 9 => some (.oldest, false)
  | 10 => some (.horizon, true)
  | 11 => some (.horizon, false)
  | 12 => some (.guardPoint, true)
  | 13 => some (.guardPoint, false)
  | _ => none

/-- The latch's value when it is loaded for a field. -/
def latchedFor (x : Option (TearField × Word)) (f : TearField) : Option Word :=
  match x with
  | some (g, w) => if g = f then some w else none
  | none => none

/-- The word a read returns, and the tear latch it leaves (R171). -/
def readThrough (p : Pxm) (a : BitVec 12) : Word × Option (TearField × Word) :=
  let w := Memory.readWord p.memory (byteAddress a)
  match tearFieldOf a with
  | some (f, true) => (w, some (f, Memory.readWord p.memory (byteAddress a + 2)))
  | some (f, false) => ((latchedFor p.tearLatch f).getD w, p.tearLatch)
  | none => (w, p.tearLatch)

/-- A press-controller access served: a read drives the word on D[15:0], a write stores it (R169 to
R171). -/
def serveAccess (x : PressAccess) (s : State) : State :=
  match x with
  | .read a =>
    let r := readThrough s.pxm a
    s.setPxm { s.pxm with dataOut := r.1, tearLatch := r.2 }
  | .write a w => pressWrite (byteAddress a) w s

/-! ### Half state accesses (R178, R180) -/

/-- A half state access, as its burst of one word begins (R178, R180): CLOSED or FILLING is written, or the
other half's state word is read, and that half is taken when it holds EMPTY and awaited when it does
not. -/
def halfAccess (x : HalfAccess) (rest : List HalfAccess) (s : State) : State :=
  let s0 := beginBurst .reports s
  let s1 := s0.setRpw { s0.rpw with halfWork := rest }
  match x with
  | .writeClosed h => burstWrite (halfBase h) [halfClosed] s1
  | .writeFilling h => burstWrite (halfBase h) [halfFilling] s1
  | .look h =>
    if Memory.readWord s1.pxm.memory (halfBase h) = halfEmpty then takeHalf h s1
    else s1.setRpw { s1.rpw with writer := .waiting h }

/-- The memory free for the next burst: a half state access whose request stands first begins by itself;
every other burst's beginning or end is a command of the table (log entry 7). -/
def beginNext (s : State) : State :=
  match s.rpw.halfWork with
  | [] => s
  | x :: rest => if s.pxm.burst.isNone && hasTurn .reports s then halfAccess x rest s else s

/-! ### Bursts and waiting accesses (R170) -/

/-- The accesses that wait are served, in the order in which they came. -/
def serveWaiting (s : State) : State :=
  s.pxm.waiting.foldl (fun a x => serveAccess x a) (s.setPxm { s.pxm with waiting := [] })

/-- A burst has ended: the access that waited for its end is served, and then the next burst may begin
(R170). -/
def afterBurst (s : State) : State := beginNext (serveWaiting s)

/-- The burst that has the memory ends, and its source requests its next one (R170). -/
def endBurst (s : State) : State :=
  match s.pxm.burst with
  | none => s
  | some x =>
    let s1 := s.setPxm { s.pxm with burst := none }
    match x.source with
    | .notes => updateNoteRequest s1
    | .reports => updateReportRequest s1
    | .refresh | .machine => s1

/-- CLK runs on to the end of the burst that has the memory. A burst that only reads ends with the command
that takes its event (log entry 7). -/
def settleMemory (s : State) : State := if readBurst s then s else afterBurst (endBurst s)

/-- CLK runs on, for at most `n` bursts more, until none has the memory. -/
def settleBursts : Nat → State → State
  | 0, s => s
  | n + 1, s => if s.pxm.burst.isSome then settleBursts n (settleMemory s) else s

/-- CLK runs on until no burst has the memory: the burst in progress ends, and so do the half state
accesses whose turn comes after it, at most three, those of a close and the taking after it (R178,
R180). -/
def freeMemory (s : State) : State := settleBursts 3 (settleMemory s)

/-- A press-controller access begins: it is served at once when no burst is in progress, and is held by
WAIT until the burst in progress ends otherwise (R170). The press controller holds its strobe while its
access waits, so a burst that has the memory, and that an access already waits for, has ended when
another access begins (log entry 7). -/
def pressAccess (x : PressAccess) (s : State) : State :=
  let s1 := if s.pxm.waiting.isEmpty then s else settleMemory s
  if memoryHeld s1 then s1.setPxm { s1.pxm with waiting := s1.pxm.waiting ++ [x] }
  else beginNext (serveAccess x s1)

/-- The port word address of a word of exchange memory at a byte address (R169). -/
def portAddress (a : Nat) : BitVec 12 := BitVec.ofNat 12 (a / 2)

end Sys2Proof.Machine
end

