-- ==== Sys2Proof/Machine/Stacks.lean ====
section
/-! DEFINITION. The Stack Controller and the Takeaway Arbiter (07_stack_lines_and_takeaway.md): stack
lines, allotment, closes, the shelf limit, waiting sets, grants, and what a departure does to a line.
The meanings of DELIVERY and REMOVAL, which may end DRAIN, are in Machine/Takeaway.lean. -/

namespace Sys2Proof.Machine

/-! ### Lines and lists of a lane -/

/-- A lane of the Stack Controller replaced. -/
def setLane (l : Lane) (x : SkcLane) (s : State) : State := s.setSkc (s.skc.set l x)

/-- A lane's stack line replaced. -/
def setLine (l : Lane) (q : List Stack) (s : State) : State :=
  setLane l { s.skc.get l with line := q } s

/-- A lane's decider replaced. -/
def setDecider (l : Lane) (x : Lnd) (s : State) : State := s.setLnd (s.lnd.set l x)

/-- A lane's arrival list replaced. -/
def setArrivals (l : Lane) (q : List Arrival) (s : State) : State :=
  setDecider l { s.lnd.get l with arrivals := q } s

/-- The line of a lane with the stack of an id changed. -/
def mapStack (id : Nat) (f : Stack → Stack) (line : List Stack) : List Stack :=
  line.map fun x => if x.id = id then f x else x

/-- The outstanding arrivals of a stack: the entries of the lane's arrival list that name it. -/
def outstanding (l : Lane) (id : Nat) (s : State) : Nat :=
  (s.lnd.get l).arrivals.countP fun a => a.stackId == id

/-- The shelf total: the allotted counts of the stacks behind the FRONT. -/
def shelfTotal (line : List Stack) : Nat := (line.tail.map fun x => x.allotted).sum

/-- The line's FRONT stack is CLOSED. -/
def frontClosed (line : List Stack) : Bool :=
  match line with
  | x :: _ => x.state == .closed
  | [] => false

/-! ### Waiting sets and grants (R129, R133, R135) -/

/-- The waiting set of a conveyor replaced. -/
def setWaiting (c : Conveyor) (w : Lanes (Option Nat)) (s : State) : State :=
  s.setTka { s.tka with waiting := s.tka.waiting.set c w }

/-- The state of a conveyor replaced. -/
def setConveyor (c : Conveyor) (x : ConveyorState) (s : State) : State :=
  s.setTka { s.tka with conveyors := s.tka.conveyors.set c x }

/-- A lane whose FRONT is CLOSED joins the waiting set of its conveyor with age 0, unless it stands there
already (R129). -/
def joinWaiting (l : Lane) (s : State) : State :=
  match s.rnc.record with
  | none => s
  | some m =>
    let c := m.conveyor l
    let w := s.tka.waiting.get c
    if frontClosed (s.skc.get l).line && (w.get l).isNone then
      setWaiting c (w.set l (some 0)) s
    else s

/-- The effective priority of a waiting lane: its lane_priority less its age, and 0 below 0 (R133). -/
def effectivePriority (m : MachineRecord) (w : Lanes (Option Nat)) (l : Lane) : Option Nat :=
  (w.get l).map fun age => m.lanePriority.get l - age

/-- The better of a lane chosen so far and the next lane: the next one wins only with a lower effective
priority, so between equals the lowest lane number wins (R133). -/
def betterLane (best : Option (Lane × Nat)) (l : Lane) (p : Option Nat) : Option (Lane × Nat) :=
  match best, p with
  | none, some q => some (l, q)
  | some (k, b), some q => if q < b then some (l, q) else some (k, b)
  | _, none => best

/-- The waiting lane of a conveyor that a grant pass picks (R133). -/
def winner (m : MachineRecord) (w : Lanes (Option Nat)) : Option Lane :=
  (allLanes.foldl (fun best l => betterLane best l (effectivePriority m w l)) none).map
    fun x => x.1

/-- The FRONT stack of a line granted a conveyor (R135). -/
def pushFront (c : Conveyor) (line : List Stack) : List Stack :=
  match line with
  | x :: rest => { x with state := .pushing, conveyor := some c } :: rest
  | [] => []

/-- A grant to a lane on a conveyor (R135). PUSH of the lane is asserted while the conveyor is PUSHING
it. -/
def grant (m : MachineRecord) (c : Conveyor) (l : Lane) (s : State) : State :=
  let s1 := setWaiting c ((s.tka.waiting.get c).set l none) s
  let s2 := s1.setTka { s1.tka with reservations := s1.tka.reservations + 1 }
  let s3 := setLine l (pushFront c (s2.skc.get l).line) s2
  setConveyor c (.pushing l (m.conveyorTimeout * 100)) s3

/-- A conveyor's turn in a grant pass: it grants one lane when it is AVAILABLE, a lane waits and a
reservation is free (R133). -/
def grantTurn (c : Conveyor) (s : State) : State :=
  match s.rnc.record, s.tka.conveyors.get c with
  | some m, .available =>
    if s.tka.reservations < Config.reservationCapacity then
      match winner m (s.tka.waiting.get c) with
      | some l => grant m c l s
      | none => s
    else s
  | _, _ => s

/-- A grant pass: conveyor 0 first and conveyor 1 second (R133). -/
def grantPass (s : State) : State := grantTurn .c1 (grantTurn .c0 s)

/-! ### The shelf limit (R122) -/

/-- The shelf_max of a lane in a context in which it is active. -/
def shelfMaxIn (x : Option JobContext) (l : Lane) : Option Nat :=
  match x with
  | some c => if c.job.active l then some (c.job.lane.get l).shelfMax else none
  | none => none

/-- The shelf goal of a lane (R122). -/
def shelfGoal (l : Lane) (s : State) : Option Nat :=
  match shelfMaxIn s.jbc.current l with
  | some g => some g
  | none => shelfMaxIn s.jbc.previous l

/-- The shelf limit of a lane set to the larger of the goal and the shelf total; with no goal it is left
as it stands (R122). -/
def setShelfLimit (l : Lane) (s : State) : State :=
  match shelfGoal l s with
  | some g =>
    let x := s.skc.get l
    setLane l { x with shelfLimit := max g (shelfTotal x.line) } s
  | none => s

/-- The shelf limit of every lane set again. -/
def setShelfLimits (s : State) : State :=
  setShelfLimit .l3 (setShelfLimit .l2 (setShelfLimit .l1 (setShelfLimit .l0 s)))

/-! ### Allotment (R120, R123, R124) -/

/-- The target that stacks opened for labels of a tag's job take (R120, R128). -/
def laneTarget (x : SkcLane) : JobTag → Option Nat
  | .current => x.targetCurrent
  | .previous => x.targetPrevious
  | .ended => none

/-- A stack with one label allotted: the count rises, the last row is the label's row, and at its target
the stack closes FULL with the front as its close point and becomes COMPLETING (R123, R124). -/
def allotTo (row : RowNum) (front : Count) (x : Stack) : Stack :=
  let y := { x with allotted := x.allotted + 1, lastRow := row }
  if y.allotted = y.target then
    { y with state := .completing, closeKind := some .full, closePoint := some front }
  else y

/-- A stack as it is opened, before its first label is allotted (R120). -/
def newStack (id jobId target : Nat) (row : RowNum) : Stack :=
  { id := id, jobId := jobId, target := target, allotted := 0, arrived := 0, missing := 0,
    extra := 0, suspect := 0, firstRow := row, lastRow := row, firstSuspect := none,
    state := .filling, closeKind := none, closePoint := none, conveyor := none }

/-- The stack id after an id: from 65535 it moves to 1 (R120). -/
def nextStackId (n : Nat) : Nat := if n = 65535 then 1 else n + 1

/-- The line with a stack opened for a row and its label allotted, and the id it took (lines 4 and 5 of
R123). A lane without a target for the row's job opens none. -/
def openStack (l : Lane) (r : Row) (s : State) : Option (State × Nat) :=
  let x := s.skc.get l
  match laneTarget x r.tag with
  | none => none
  | some t =>
    let st := allotTo r.number s.trc.front (newStack x.nextId r.jobId t r.number)
    some (setLane l { x with line := x.line ++ [st], nextId := nextStackId x.nextId } s, x.nextId)

/-- The line with a label allotted to its last stack, and that stack's id (lines 1 and 2 of R123). -/
def allotLast (l : Lane) (r : Row) (last : Stack) (s : State) : Option (State × Nat) :=
  some (setLine l ((s.skc.get l).line.dropLast ++ [allotTo r.number s.trc.front last]) s, last.id)

/-- The answer to an allotment request: the line with the label allotted and the stack's id, or none for
no room, by the first line of R123 that applies. -/
def allot (l : Lane) (r : Row) (s : State) : Option (State × Nat) :=
  let x := s.skc.get l
  match x.line.getLast? with
  | none => openStack l r s
  | some last =>
    if last.state = .filling then
      if x.line.length = 1 then allotLast l r last s
      else if shelfTotal x.line < x.shelfLimit then allotLast l r last s
      else none
    else if x.line.length < Config.lineCapacity then
      if shelfTotal x.line < x.shelfLimit then openStack l r s else none
    else none

/-! ### Arrivals, closes and suspect marks -/

/-- A stack with one label confirmed or missing (R121). -/
def countArrival (confirmed : Bool) (x : Stack) : Stack :=
  if confirmed then { x with arrived := x.arrived + 1 } else { x with missing := x.missing + 1 }

/-- A COMPLETING stack with no outstanding arrivals becomes CLOSED (R121). -/
def settleStack (left : Nat) (x : Stack) : Stack :=
  if x.state = .completing && left = 0 then { x with state := .closed } else x

/-- A resolution of the lane's oldest arrival entry, which has left the list: the stack it names counts
it and may become CLOSED, and the lane may join its waiting set; the grant pass follows at the end of
the event (R121, R129). -/
def resolve (l : Lane) (id : Nat) (confirmed : Bool) (s : State) : State :=
  let left := outstanding l id s
  joinWaiting l
    (setLine l (mapStack id (fun x => settleStack left (countArrival confirmed x))
      (s.skc.get l).line) s)

/-- A stack with one extra (R121). -/
def countExtra (x : Stack) : Stack := { x with extra := riseTo 65535 x.extra }

/-- A short close of the last stack of a lane's line, when it is FILLING, with the joining it brings;
the grant pass follows at the end of the event (R125, R129). -/
def shortClose (k : CloseKind) (l : Lane) (s : State) : State :=
  let line := (s.skc.get l).line
  match line.getLast? with
  | none => s
  | some x =>
    if x.state = .filling then
      let y := { x with
        closeKind := some k, closePoint := some s.trc.front,
        state := if outstanding l x.id s = 0 then StackState.closed else .completing }
      joinWaiting l (setLine l (line.dropLast ++ [y]) s)
    else s

/-- A stack with one suspect mark of a row (R94). -/
def markSuspect (row : RowNum) (x : Stack) : Stack :=
  { x with suspect := riseTo 65535 x.suspect,
           firstSuspect := match x.firstSuspect with | none => some row | some r => some r }

/-- A suspect mark: the stack of the id in the lane's line counts it, or a SUSPECT record is queued when
the stack has left (R94, R95). -/
def suspectMark (l : Lane) (id : Nat) (row : RowNum) (s : State) : State :=
  let line := (s.skc.get l).line
  if line.any (fun x => x.id == id) then setLine l (mapStack id (markSuspect row) line) s
  else queueRecord (.suspect l id row) s

/-! ### Departures and releases -/

/-- The FRONT stack of a lane leaves its line: the shelf total falls and the shelf limit is set again when
the FRONT's place is taken from the shelf, and a new FRONT that is CLOSED joins, with its grant pass
(R122, R129, R131). -/
def departFront (l : Lane) (s : State) : State :=
  let x := s.skc.get l
  let s1 := setLine l x.line.tail s
  let s2 := if shelfTotal x.line.tail < shelfTotal x.line then setShelfLimit l s1 else s1
  if frontClosed x.line.tail then grantPass (joinWaiting l s2) else s2

/-- The reservation of a written STACK record released, with its grant pass (R130). -/
def releaseReservation (s : State) : State :=
  grantPass (s.setTka { s.tka with reservations := s.tka.reservations - 1 })

/-- Lane targets none in every lane (R128). -/
def clearTargets (s : State) : State :=
  s.setSkc (s.skc.map fun x => { x with targetCurrent := none, targetPrevious := none })

/-- The target of a lane in a job, when the lane is active in it. -/
def JobRecord.targetIn (j : JobRecord) (l : Lane) : Option Nat :=
  if j.active l then some (j.lane.get l).target else none

/-- The age of a waiting lane raised by 1, to at most 7 (R134). -/
def raiseAges (w : Lanes (Option Nat)) : Lanes (Option Nat) :=
  w.map fun a => a.map fun n => riseTo 7 n

/-- AGING_TICK: every waiting lane's age rises and a grant pass runs (R134). The timer does not run while
RESETn is asserted. -/
def execAgingTick (s : State) : Host.Outcome State Fault Refusal :=
  if s.pxm.resetAsserted then .next s
  else .next (grantPass (s.setTka { s.tka with
    waiting := ⟨raiseAges s.tka.waiting.c0, raiseAges s.tka.waiting.c1⟩ }))

end Sys2Proof.Machine
end

