-- ==== Sys2Proof/Machine/Jobs.lean ====
section
/-! DEFINITION. Job Control (08_jobs_and_changeover.md): the contexts, the SHORT_JOB closes, the freeing
of PREVIOUS, the ending of the contexts, activation and changeover; and the end of DRAIN and the closes
of the Run Controller in DRAIN (R159 to R161), which a decision and a departure may bring. The meaning
of JOB_NOTE, which reads the note and copies the slot, is in Machine/Notes.lean. -/

namespace Sys2Proof.Machine

/-- The grant pass that follows the joinings of an event: run when a lane has joined since `before`
(R129). -/
def passIfJoined (before s : State) : State :=
  if s.tka.waiting = before.tka.waiting then s else grantPass s

/-! ### Ending and freeing contexts -/

/-- The JOB_END record of a context: a job that created no row reports row 0 (R150). -/
def jobEndRecord (c : JobContext) : Record :=
  .jobEnd c.job.jobId (c.firstRow.getD 0#32) (c.lastRow.getD 0#32) c.tallies

/-- The rows of a tag retagged (R40). -/
def retag (old new : JobTag) (track : List Row) : List Row :=
  track.map fun r => if r.tag = old then { r with tag := new } else r

/-- Row L of the PREVIOUS context is fully decided, or absent (R150). A row that has left the track was
fully decided (R50). -/
def lastRowDecided (c : JobContext) (s : State) : Bool :=
  match c.lastRow with
  | none => true
  | some n =>
    match findRow n s with
    | some r => fullyDecided r
    | none => true

/-- No arrival list holds an entry whose row is L or a row before L (R150). -/
def noOldArrivals (c : JobContext) (s : State) : Bool :=
  match c.lastRow with
  | none => true
  | some n => allLanes.all fun l =>
      (s.lnd.get l).arrivals.all fun a => !rowAtOrBefore a.row n

/-- The PREVIOUS targets none in every lane (R128). -/
def clearPreviousTargets (s : State) : State :=
  s.setSkc (s.skc.map fun x => { x with targetPrevious := none })

/-- The PREVIOUS context is freed: its JOB_END is queued, its rows become ENDED, the previous targets
become none and the shelf limits are set again, and the store is FREE (R150). -/
def freePrevious (c : JobContext) (s : State) : State :=
  let s1 := queueRecord (jobEndRecord c) s
  let s2 := setTrack (retag .previous .ended s1.rot.track) s1
  let s3 := setShelfLimits (clearPreviousTargets s2)
  s3.setJbc { s3.jbc with previous := none, closePending := Lanes.fill false }

/-- The freeing test (R150). -/
def freeingTest (s : State) : State :=
  match s.jbc.previous with
  | none => s
  | some c => if lastRowDecided c s && noOldArrivals c s then freePrevious c s else s

/-- A held context's JOB_END is queued. -/
def queueJobEnd (x : Option JobContext) (s : State) : State :=
  match x with
  | none => s
  | some c => queueRecord (jobEndRecord c) s

/-- The contexts end, PREVIOUS first and then CURRENT, each held one with its JOB_END; the close pending
set is emptied and the lane targets become none (R128, R151). -/
def endContexts (s : State) : State :=
  let s1 := queueJobEnd s.jbc.current (queueJobEnd s.jbc.previous s)
  clearTargets (s1.setJbc
    { current := none, previous := none, closePending := Lanes.fill false })

/-! ### SHORT_JOB closes (R149) -/

/-- The entry of a row for a lane is no longer OPEN. -/
def decidedIn (l : Lane) (n : RowNum) (s : State) : Bool :=
  match findRow n s with
  | some r => !openIn l r
  | none => true

/-- The close pending set with one lane removed. -/
def dropClosePending (l : Lane) (s : State) : State :=
  s.setJbc { s.jbc with closePending := s.jbc.closePending.set l false }

/-- A lane of the close pending set whose entry of row L is decided is closed SHORT_JOB and leaves the
set (R149). -/
def closeIfDecided (n : RowNum) (s : State) (l : Lane) : State :=
  if s.jbc.closePending.get l && decidedIn l n s then
    dropClosePending l (shortClose .shortJob l s)
  else s

/-- The closes already due at a changeover, with their grant pass (R148 step 6, R149). -/
def dueJobCloses (last : Option RowNum) (s : State) : State :=
  match last with
  | none => s
  | some n => passIfJoined s (allLanes.foldl (closeIfDecided n) s)

/-- The lane decided event at Job Control: it names row L and a lane of the set (R149). -/
def jobCloseDue (l : Lane) (n : RowNum) (s : State) : Bool :=
  s.jbc.closePending.get l &&
    (match s.jbc.previous with
     | some c => c.lastRow == some n
     | none => false)

/-- The SHORT_JOB close at the lane decided event (R149). -/
def jobClose (l : Lane) (s : State) : State := dropClosePending l (shortClose .shortJob l s)

/-! ### Activation and changeover -/

/-- A context as it begins (R147, R148). -/
def newContext (j : JobRecord) : JobContext :=
  { job := j, firstRow := none, lastRow := none, tallies := zeroTallies }

/-- The lane targets of a new CURRENT job, the PREVIOUS targets being none (R128). -/
def activationTargets (j : JobRecord) (x : Lanes SkcLane) : Lanes SkcLane :=
  Lanes.ofFn fun l => { x.get l with targetCurrent := j.targetIn l, targetPrevious := none }

/-- The lane targets at a changeover: the CURRENT targets move to PREVIOUS (R128). -/
def changeoverTargets (j : JobRecord) (x : Lanes SkcLane) : Lanes SkcLane :=
  Lanes.ofFn fun l =>
    { x.get l with targetCurrent := j.targetIn l, targetPrevious := (x.get l).targetCurrent }

/-- The tracker enters ACQUIRE with s = 65536 at a job's activation (R36). -/
def Mkt.activate (m : Mkt) : Mkt :=
  { m with state := .acquire, stretch := Config.unitStretch, coastCount := 0, expected := none }

/-- The tracker enters ACQUIRE, keeping s, its newest row and a deglitch in progress (R23, R37). -/
def Mkt.reenter (m : Mkt) : Mkt :=
  { m with state := .acquire, coastCount := 0, expected := none }

/-- Activation of a valid job in READY (R147). -/
def activateJob (j : JobRecord) (s : State) : State :=
  let s0 := s.setJbc { s.jbc with current := some (newContext j) }
  let s1 := setRunState .run s0
  let s2 := s1.setMkt s1.mkt.activate
  let s3 := setShelfLimits (s2.setSkc (activationTargets j s2.skc))
  queueRecord (.jobStart j.jobId (rowSucc s3.rot.lastNumber)) s3

/-- The close pending set formed at a changeover: the old job's lanes, when row L is present (R149). -/
def formClosePending (old : Option JobContext) : LaneSet :=
  match old with
  | some c => Lanes.ofFn fun l => c.lastRow.isSome && c.job.active l
  | none => Lanes.fill false

/-- The last row of a held context. -/
def lastRowOf (x : Option JobContext) : Option RowNum :=
  match x with
  | some c => c.lastRow
  | none => none

/-- Changeover to a valid job in RUN, in the order of R148. -/
def changeover (j : JobRecord) (s : State) : State :=
  let old := s.jbc.current
  let s2 := s.setJbc
    { current := some (newContext j), previous := old, closePending := Lanes.fill false }
  let s3 := setTrack (retag .current .previous s2.rot.track) s2
  let s4 := s3.setMkt s3.mkt.reenter
  let s5 := setShelfLimits (s4.setSkc (changeoverTargets j s4.skc))
  let s6 := dueJobCloses (lastRowOf old)
    (s5.setJbc { s5.jbc with closePending := formClosePending old })
  let s7 := queueRecord (.jobStart j.jobId (rowSucc s6.rot.lastNumber)) s6
  freeingTest s7

/-! ### Emptying the track, and the end of DRAIN -/

/-- The tracker passes to IDLE: a deglitch is dropped, the expected point is none and the coast count 0
(R22). -/
def Mkt.toIdle (m : Mkt) : Mkt :=
  { m with state := .idle, deglitch := none, expected := none, coastCount := 0 }

/-- The tracker's newest row becomes absent, the track being empty (R22). -/
def Mkt.noNewest (m : Mkt) : Mkt := { m with newest := none }

/-- A stroke in flight no longer finds a row (R54, R74; log entry 15). -/
def Knt.untrack (k : Knt) : Knt :=
  { k with cycle := k.cycle.map fun c => { c with tracked := false } }

/-- The track is emptied, N kept, the overflow detector armed, and the newest row absent (R22, R54,
R55). -/
def emptyTrack (s : State) : State :=
  let s1 := s.setRot { s.rot with track := [], overflowDetector := .armed }
  let s2 := s1.setMkt s1.mkt.noNewest
  s2.setKnt s2.knt.untrack

/-- The tracker passes to IDLE. -/
def trackerToIdle (s : State) : State := s.setMkt s.mkt.toIdle

/-- The stop rows dropped and the stop pending set emptied. -/
def clearStops (s : State) : State := s.setRnc s.rnc.noStops

/-- Every lane's stack line is empty. -/
def linesEmpty (s : State) : Bool := allLanes.all fun l => (s.skc.get l).line.isEmpty

/-- DRAIN ends (R161). -/
def drainOver (s : State) : Bool :=
  s.rnc.runState == .drain && undecidedCount s == 0 && !LaneSet.nonempty s.rnc.stopPending &&
    linesEmpty s

/-- The end of DRAIN, in the order of R161. -/
def endDrain (s : State) : State :=
  setRunState .ready (clearStops (trackerToIdle (endContexts (emptyTrack s))))

/-- The end test of R161. -/
def endTest (s : State) : State := if drainOver s then endDrain s else s

/-- The lane decided event at the Run Controller: it names a lane of the stop pending set and its stop
row (R160). -/
def stopCloseDue (l : Lane) (n : RowNum) (s : State) : Bool :=
  s.rnc.stopPending.get l && s.rnc.stopRows.get l == some n

/-- The SHORT_STOP close of a lane, which leaves the stop pending set (R160). -/
def stopClose (l : Lane) (s : State) : State :=
  let s1 := shortClose .shortStop l s
  s1.setRnc { s1.rnc with stopPending := s1.rnc.stopPending.set l false }

end Sys2Proof.Machine
end

