-- ==== Sys2Proof/Machine/Deciders.lean ====
section
/-! DEFINITION. The Lane Deciders (06_lane_decisions_flaps_and_count_eyes.md): decision targets, the
decision, the flap, the arrival list and count-eye matching. -/

namespace Sys2Proof.Machine

/-! ### Targets -/

/-- The lead reference of a row (R44). -/
def leadReference (m : MachineRecord) (r : Row) : Count :=
  match r.origin with
  | .leadIn => advance r.mark m.dKnife
  | .sensed | .coasted =>
    match r.leadCut with
    | some c => c.fireCount
    | none => advance r.lead m.dKnife

/-- The decision target of a row in a lane: its lead reference + k_flap - flap lead (R104). -/
def decisionTarget (m : MachineRecord) (l : Lane) (r : Row) (s : State) : Count :=
  retreat (advance (leadReference m r) (m.kFlap.get l)) (s.lnd.get l).flapLead

/-- The next row of a lane when its decision is due: F is at or beyond its decision target, and the web
is at the front (R104). -/
def dueRow (l : Lane) (s : State) : Option Row :=
  match s.rnc.record, nextRow l s with
  | some m, some r =>
    if atOrBeyond s.trc.front (decisionTarget m l r s) && atFront s then some r else none
  | _, _ => none

/-! ### The decision (R105 to R107) -/

/-- KNIFE is found at a decision: the trail cut is not DONE, or is bad, or the lead cut is bad, or it is
absent and the row is not LEAD_IN (R105). -/
def knifeFound (r : Row) : Bool :=
  (match r.trail with
   | .done _ bad => bad
   | .pending | .firing _ | .stalled _ => true) ||
  (match r.leadCut with
   | some c => c.bad
   | none => r.origin != .leadIn)

/-- The row is inspected: H is a web point at or beyond its cut point (R99). -/
def inspected (r : Row) (s : State) : Bool :=
  match s.ntp.horizon with
  | some h => atOrBeyond h r.cut
  | none => false

/-- The zone in effect is CRAWL or OVER (R105). -/
def offSpeed (s : State) : Bool :=
  match s.trc.zone with
  | .crawl | .over => true
  | .run => false

/-- A reason set with the reasons the decision finds added (R105). -/
def foundReasons (l : Lane) (r : Row) (s : State) (x : Reasons) : Reasons :=
  addReasonIf (s.rnc.runState == .halted) .stopped
    (addReasonIf (knifeFound r) .knife
      (addReasonIf (offSpeed s) .speed
        (addReasonIf (!inspected r s) .uninspected
          (addReasonIf (s.skc.get l).hold .held x))))

/-- A place for a label to be passed good: an entry of the arrival list and an allotment; the Stack
Controller is not asked when the list is full (R106). -/
def placeFor (l : Lane) (r : Row) (s : State) : Option (State × Nat) :=
  if (s.lnd.get l).arrivals.length < Config.arrivalCapacity then allot l r s else none

/-- A lane's entry of a row frozen (R47). -/
def freezeEntry (l : Lane) (n : RowNum) (e : LaneEntry) (s : State) : State :=
  setTrack (mapRow n (fun r => { r with entries := r.entries.set l (some e) }) s.rot.track) s

/-- The arrival entry of a good label (R112). -/
def arrivalOf (m : MachineRecord) (l : Lane) (r : Row) (id : Nat) : Arrival :=
  let eye := advance (leadReference m r) (m.kEye.get l)
  { row := r.number, stackId := id, low := retreat eye m.eyeTol, high := advance eye m.eyeTol }

/-- The fire count of a row's trail cut, present from the fire onward (R42). -/
def trailFire (r : Row) : Count :=
  match r.trail with
  | .pending => r.fireBase
  | .firing f | .done f _ | .stalled f => f

/-- Steps 1 to 3 of R107 for a GOOD verdict: the entry is frozen with the stack id, the flap is PASS, and
the arrival entry joins. -/
def passGood (m : MachineRecord) (l : Lane) (r : Row) (id : Nat) (s : State) : State :=
  let s1 := freezeEntry l r.number (.good id) s
  let x := s1.lnd.get l
  setDecider l { x with flap := .pass (trailFire r),
                        arrivals := x.arrivals ++ [arrivalOf m l r id] } s1

/-- Steps 1, 2 and 4 of R107 for a REJECT verdict: the entry is frozen with its reason set, the flap is
REJECT, and the primary reason is tallied (R108). -/
def passReject (l : Lane) (r : Row) (x : Reasons) (s : State) : State :=
  let s1 := freezeEntry l r.number (.reject x) s
  let s2 := setDecider l (s1.lnd.get l).rejectFlap s1
  match primaryReason x with
  | some p => tallyReject r.tag p s2
  | none => s2

/-- The verdict on a row whose OPEN entry holds the reasons `x` (R105, R106). -/
def judge (m : MachineRecord) (l : Lane) (r : Row) (x : Reasons) (s : State) : State :=
  let found := foundReasons l r s x
  match primaryReason found with
  | some _ => passReject l r found s
  | none =>
    match placeFor l r s with
    | some (s1, id) => passGood m l r id s1
    | none => passReject l r (addReason found .held) s

/-- The closes a lane decided event may bring (R149, R160). -/
inductive LaneClose where
  | job | stop
  deriving DecidableEq, Repr

/-- A close is due at the lane decided event of a row. -/
def laneCloseDue (l : Lane) (n : RowNum) (k : LaneClose) (s : State) : Bool :=
  match k with
  | .job => jobCloseDue l n s
  | .stop => stopCloseDue l n s

/-- A close is taken. -/
def laneCloseAct (l : Lane) (k : LaneClose) (s : State) : State :=
  match k with
  | .job => jobClose l s
  | .stop => stopClose l s

/-- Step 5 of R107, the lane decided event: the closes due at it, in either order (R160), and the grant
pass of the joinings they bring. -/
def laneDecided (l : Lane) (n : RowNum) (s : State) : State :=
  passIfJoined s (takeDue (laneCloseDue l n) (laneCloseAct l) [.job, .stop] s)

/-- The row of a number is fully decided now. -/
def rowDecided (n : RowNum) (s : State) : Bool :=
  match findRow n s with
  | some r => fullyDecided r
  | none => false

/-- The tests that follow a decision: the freeing test at a row decided event (R150), and the end test at
a row decided event and at a lane decided event that empties the stop pending set (R161). They come
after the arrival entry, the tally and the closes of the decision: log entry 11. -/
def afterDecision (n : RowNum) (stopsBefore : Bool) (s : State) : State :=
  let done := rowDecided n s
  let s1 := if done then freeingTest s else s
  if done || (stopsBefore && !LaneSet.nonempty s.rnc.stopPending) then endTest s1 else s1

/-- The decision of a row in a lane, one event (R105 to R107). -/
def decideRow (l : Lane) (r : Row) (s : State) : State :=
  match s.rnc.record, r.entries.get l with
  | some m, some (.undecided x) =>
    let s1 := laneDecided l r.number (judge m l r x s)
    afterDecision r.number (LaneSet.nonempty s.rnc.stopPending) s1
  | _, _ => s

/-- The decider decides its next rows while their targets stand reached, at most `n` of them (R104, step
6 of R107). -/
def decideWhileDue (l : Lane) : Nat → State → State
  | 0, s => s
  | n + 1, s =>
    match dueRow l s with
    | some r => decideWhileDue l n (decideRow l r s)
    | none => s

/-- The test of R104: every row of the lane whose target stands reached is decided, in row order. -/
def decideTest (l : Lane) (s : State) : State := decideWhileDue l s.rot.track.length s

/-- A decision of the lane is due. -/
def decisionDue (l : Lane) (s : State) : Bool := (dueRow l s).isSome

/-! ### The flap (R110) -/

/-- The pass end of a PASS setting: the row's trail cut fire count + k_flap - flap lead (R110). -/
def passEndPoint (m : MachineRecord) (l : Lane) (cutCount : Count) (s : State) : Count :=
  retreat (advance cutCount (m.kFlap.get l)) (s.lnd.get l).flapLead

/-- The flap is PASS and F is at or beyond its pass end. -/
def passEndDue (l : Lane) (s : State) : Bool :=
  match s.rnc.record, (s.lnd.get l).flap with
  | some m, .pass c => atOrBeyond s.trc.front (passEndPoint m l c s)
  | _, _ => false

/-- A PASS flap whose pass end is reached returns to REJECT (R110). -/
def passEndTest (l : Lane) (s : State) : State :=
  if passEndDue l s then setDecider l (s.lnd.get l).rejectFlap s else s

/-- The decider at a front advance or a speed sample: the pass end first and the decisions after it
(R110). A pass end that the decision itself forms at or behind F is not acted on within the decision,
since R110 names only a front advance and a sample: the flap is PASS until the next of these, or
PASS_END. The model's reading: log entry 22. -/
def laneTest (l : Lane) (s : State) : State := decideTest l (passEndTest l s)

/-- The decider has something to do at a front advance or a speed sample. -/
def laneDue (l : Lane) (s : State) : Bool := passEndDue l s || decisionDue l s

/-! ### The arrival list (R113, R114) -/

/-- What follows a resolution: the grant pass of a lane that joined and the freeing test (R129, R150). -/
def afterResolution (before s : State) : State := freeingTest (passIfJoined before s)

/-- The oldest arrival entry of a lane leaves the list and is resolved (R113, R114). -/
def resolveOldest (l : Lane) (confirmed : Bool) (s : State) : State :=
  match (s.lnd.get l).arrivals with
  | [] => s
  | a :: rest =>
    afterResolution s (resolve l a.stackId confirmed (setArrivals l rest s))

/-- The oldest window of a lane is passed: F is beyond its high (R113).  DESIGN CHOICE, log entry 24: R113 names only
the advance of the front to F = high + 1; an entry whose window lies behind F already when it is added (a row decided
together with a late LEAD_IN row) is passed too, and is counted missing at the next front advance or WINDOW_PASSED. -/
def windowDue (l : Lane) (s : State) : Bool :=
  match (s.lnd.get l).arrivals with
  | [] => false
  | a :: _ => beyond s.trc.front a.high

/-- The oldest entry whose window the front has passed is missing (R113). -/
def windowTest (l : Lane) (s : State) : State :=
  if windowDue l s then resolveOldest l false s else s

/-- The last stack of a line with one extra (R114). -/
def extraLast (line : List Stack) : List Stack :=
  match line.getLast? with
  | some x => line.dropLast ++ [countExtra x]
  | none => line

/-- An edge of EYE matched against the lane's arrival list (R114).  DESIGN CHOICE, log entry 24: the entry R114's note
excludes, one whose high is already behind F, can be reached by an entry added late; no edge is in its window then,
so the edge is an extra of the oldest entry's stack. -/
def matchEye (l : Lane) (s : State) : State :=
  match (s.lnd.get l).arrivals with
  | [] => setLine l (extraLast (s.skc.get l).line) s
  | a :: _ =>
    if withinRange s.trc.front a.low a.high then resolveOldest l true s
    else setLine l (mapStack a.stackId countExtra (s.skc.get l).line) s

/-! ### The meanings -/

/-- DECISION of a lane (R105): taken when the next row's target stands reached at the front. -/
def execDecision (l : Lane) (s : State) : Host.Outcome State Fault Refusal :=
  .next (decideTest l s)

/-- PASS_END of a lane (R110). -/
def execPassEnd (l : Lane) (s : State) : Host.Outcome State Fault Refusal :=
  .next (passEndTest l s)

/-- WINDOW_PASSED of a lane (R113). -/
def execWindowPassed (l : Lane) (s : State) : Host.Outcome State Fault Refusal :=
  .next (windowTest l s)

/-- EYE of a lane (R114): matched in RUN, DRAIN and HALTED with the web at the front. -/
def execEye (l : Lane) (s : State) : Host.Outcome State Fault Refusal :=
  if running s && atFront s then .next (matchEye l s) else .next s

end Sys2Proof.Machine
end

