-- ==== Sys2Proof/Machine/Knife.lean ====
section
/-! DEFINITION. The Knife Timer (04_cut_timing_and_the_knife.md): the fire target, the firing conditions,
the fire, the ends of a stroke, and the stall count. -/

namespace Sys2Proof.Machine

/-- The fire target of a row: its fire base minus the lead (R61). -/
def fireTarget (r : Row) (s : State) : Count := retreat r.fireBase s.knt.lead

/-- The last fire count is none, or F is beyond it (R62). -/
def beyondLastFire (s : State) : Bool :=
  match s.knt.lastFire with
  | none => true
  | some f => beyond s.trc.front f

/-- The next cut when all six conditions of R62 hold together. -/
def fireableCut (s : State) : Option Row :=
  match nextCut s with
  | none => none
  | some r =>
    if atOrBeyond s.trc.front (fireTarget r s) && s.knt.cycle.isNone && !s.knt.inhibit &&
       running s && atFront s && beyondLastFire s
    then some r else none

/-- The lateness of a row's cut fired now: F minus the fire target (R64). -/
def latenessOf (r : Row) (s : State) : Nat := distance (fireTarget r s) s.trc.front

/-- A cut of a lateness is judged bad: it is greater than the knife_tol of the context the row's tag
names; the cut of an ENDED row is not bad (R64). -/
def judgedBad (r : Row) (late : Nat) (s : State) : Bool :=
  match contextOf r.tag s with
  | some c => decide (c.job.knifeTol < late)
  | none => false

/-- The stroke timer's time, knife_timeout_ms of the machine record in use (R63, R68). -/
def strokeTime (s : State) : Nat :=
  match s.rnc.record with
  | some m => m.knifeTimeout
  | none => 0

/-- The fire of a row's cut, one event (R63). `gap`: a stroke has ended at this same event, so KNIFE_FIRE
stays released for 10 µs before it is asserted (R65). -/
def fireCut (gap : Bool) (r : Row) (s : State) : State :=
  let late := latenessOf r s
  let s1 := s.setKnt { s.knt with
    cycle := some { row := r.number, fireCount := s.trc.front, lateness := late,
                    bad := judgedBad r late s, timer := strokeTime s, tracked := true },
    lastFire := some s.trc.front,
    output := if gap then .gap else .asserted }
  setTrack (mapRow r.number (fun x => { x with trail := .firing s.trc.front }) s1.rot.track) s1

/-- The test of R62: the next cut fires when all its conditions hold. -/
def fireTest (gap : Bool) (s : State) : State :=
  match fireableCut s with
  | some r => fireCut gap r s
  | none => s

/-- A halting fault is raised, and the knife tests its next cut when the run state has changed with it
(R62, R164, R165). -/
def haltPart (fault : HaltingFault) (f : Count) (s : State) : State :=
  let s1 := raiseHalting fault f s
  if s1.rnc.runState = s.rnc.runState then s1 else fireTest false s1

/-- The acts of the knife and the lane deciders that a change of a target, a lead cut or the track can
make due (R62, R104). -/
inductive TargetAct where
  | fire
  | lane (l : Lane)
  deriving DecidableEq, Repr

/-- The acts of R62 and R104 in their listed order. -/
def targetActs : List TargetAct := [.fire, .lane .l0, .lane .l1, .lane .l2, .lane .l3]

/-- An act is due: the knife fires, or a lane decides. -/
def targetDue (t : TargetAct) (s : State) : Bool :=
  match t with
  | .fire => (fireableCut s).isSome
  | .lane l => decisionDue l s

/-- An act is taken. -/
def targetAct (gap : Bool) (t : TargetAct) (s : State) : State :=
  match t with
  | .fire => fireTest gap s
  | .lane l => decideTest l s

/-- What a lane's decision target is formed from: its next row, and that row's lead reference (R104). -/
def laneAim (l : Lane) (s : State) : Option (RowNum × Count) :=
  match s.rnc.record, nextRow l s with
  | some m, some r => some (r.number, leadReference m r)
  | _, _ => none

/-- The acts an event tests: the knife's where R62 names the event, and the decisions of the lanes whose
next row, or its lead reference, the event changed (R104). -/
def testedActs (knife : Bool) (before s : State) : List TargetAct :=
  targetActs.filter fun t =>
    match t with
    | .fire => knife
    | .lane l => laneAim l s != laneAim l before

/-- The knife and the deciders test their targets after an event: `knife` says whether it is one of
those of R62, and `before` is the state it found (R62, R104). -/
def testTargets (gap knife : Bool) (before s : State) : State :=
  takeDue targetDue (targetAct gap) (testedActs knife before s) s

/-! ### The end of a stroke -/

/-- KNIFE joins an OPEN lane entry (R42, R46). -/
def knifeEntry (e : LaneEntry) : LaneEntry :=
  match e with
  | .undecided x => .undecided (addReason x .knife)
  | .good id => .good id
  | .reject x => .reject x

/-- A row with its trail cut complete; a bad cut adds KNIFE to its OPEN lane entries (R42). -/
def completeTrail (t : TrailCut) (bad : Bool) (r : Row) : Row :=
  let r1 := { r with trail := t }
  if bad then { r1 with entries := r1.entries.map fun e => e.map knifeEntry } else r1

/-- A row with its lead cut made present; a LEAD_IN row has none (R43). -/
def giveLead (c : LeadCut) (r : Row) : Row :=
  match r.origin with
  | .leadIn => r
  | .sensed | .coasted => { r with leadCut := some c }

/-- The track with a stroke's cut completed: in the row it ends, when that row is tracked, and in the row
it begins (R42, R43). -/
def completeCut (c : Cycle) (t : TrailCut) (bad : Bool) (track : List Row) : List Row :=
  if c.tracked then
    mapRow (rowSucc c.row) (giveLead ⟨c.fireCount, bad⟩)
      (mapRow c.row (completeTrail t bad) track)
  else track

/-- The knife after a stroke has ended: IDLE with KNIFE_FIRE released, and the stall count (R66, R68). -/
def Knt.idle (k : Knt) (stalls : Nat) : Knt :=
  { k with cycle := none, stallCount := stalls, output := .released }

/-- A stroke ends: the Row Track takes its result and the knife is IDLE (R66, R68). -/
def endStroke (c : Cycle) (t : TrailCut) (bad : Bool) (stalls : Nat) (s : State) : State :=
  let s1 := setTrack (completeCut c t bad s.rot.track) s
  s1.setKnt (s1.knt.idle stalls)

/-- A stall that leaves the stall count at 3 sets the inhibit and raises KNIFE_STALL in RUN, DRAIN and
HALTED (R71). The stall's own test of the next cut follows (R62). -/
def stallFault (s : State) : State :=
  if s.knt.stallCount = 3 && running s then
    raiseHalting .knifeStall s.trc.front (s.setKnt { s.knt with inhibit := true })
  else s

/-! ### The meanings -/

/-- FIRE (R62, R63): taken when all the firing conditions hold. -/
def execFire (s : State) : Host.Outcome State Fault Refusal := .next (fireTest false s)

/-- KNIFE_FIRE_REASSERT (R65): the 10 µs for which KNIFE_FIRE is held released for a new stroke are
over. -/
def execKnifeFireReassert (s : State) : Host.Outcome State Fault Refusal :=
  match s.knt.output with
  | .gap => .next (s.setKnt { s.knt with output := .asserted })
  | .released | .asserted => .next s

/-- HOME (R66, R67): completes the stroke in flight DONE; ignored while the knife is IDLE. -/
def execHome (s : State) : Host.Outcome State Fault Refusal :=
  match s.knt.cycle with
  | none => .next s
  | some c =>
    .next (testTargets true true s (endStroke c (.done c.fireCount c.bad) c.bad 0 s))

/-- STALL (R68): the stroke timer expires with the knife FIRING; it expires on nothing otherwise (R69). The
fault of a third stall is taken before the decisions that the moved lead reference makes due, so that
they find the part HALTED: the model's choice between the two orders R68 and R109 allow, log entry 22. -/
def execStall (s : State) : Host.Outcome State Fault Refusal :=
  match s.knt.cycle with
  | none => .next s
  | some c =>
    .next (testTargets true true s
      (stallFault (endStroke c (.stalled c.fireCount) true (riseTo 3 s.knt.stallCount) s)))

end Sys2Proof.Machine
end

