-- ==== Sys2Proof/Machine/Tracker.lean ====
section
/-! DEFINITION. The Mark Tracker (02_registration_tracking.md) and the creation, refusal and retirement of
rows at the Row Track (03_the_row_track.md, R39 to R51), with what a creation does at the Note Processor
(R90, R92), Job Control (R143), the Knife Timer and the Lane Deciders. -/

namespace Sys2Proof.Machine

/-! ### The new row -/

/-- The reasons a row takes from its origin and the CURRENT context (R45). -/
def originReasons (o : Origin) (j : JobRecord) : Reasons :=
  match o with
  | .leadIn => addReason noReasons .leadIn
  | .coasted => addReasonIf (!j.coastAccept) .register noReasons
  | .sensed => noReasons

/-- A pending span adds its reason to a lane of a row whose label span it overlaps (R90). -/
def spanReason (l : Lane) (lead cut : Count) (x : Reasons) (p : PendingSpan) : Reasons :=
  addReasonIf (overlaps p.start p.stop lead cut && p.lanes.get l) p.reason.reason x

/-- The new row lies behind the guard: G is a web point and the lead point is before it (R92). -/
def behindGuard (g : Option Count) (lead : Count) : Bool :=
  match g with
  | some c => before lead c
  | none => false

/-- The lane entry of a new row: OPEN, with the reasons of its origin, of the pending spans in the list's
order, and of the guard; a lane beyond the job has none (R45, R90, R92). -/
def newEntry (j : JobRecord) (o : Origin) (n : Ntp) (lead cut : Count) (l : Lane) :
    Option LaneEntry :=
  if j.active l then
    some (.undecided (addReasonIf (behindGuard n.guardPoint lead) .guard
      (n.spans.foldl (spanReason l lead cut) (originReasons o j))))
  else none

/-- The pending spans left by a new row: those whose end is at or before its cut point, that is not beyond
it (R1), are removed (R90). -/
def spansBeyond (cut : Count) (spans : List PendingSpan) : List PendingSpan :=
  spans.filter fun p => beyond p.stop cut

/-- The guard after a row creation: it is dropped when the new row's lead point is at or beyond it
(R92). -/
def guardAfter (g : Option Count) (lead : Count) : Option Count :=
  if behindGuard g lead then g else none

/-- What the tracker asks the Row Track for (R29). -/
structure RowRequest where
  origin : Origin
  cls : RowClass
  mark : Count
  deriving DecidableEq, Repr

/-- The stretch estimate at a request: updated for a sensed row taken in LOCKED after a SENSED row
(R19). -/
def requestStretch (j : JobRecord) (q : RowRequest) (k : Mkt) : Nat :=
  match q.origin, k.state, k.newest with
  | .sensed, .locked, some n =>
    if n.origin = .sensed then
      stretchUpdate k.stretch (distance n.mark q.mark) (j.pitch n.cls)
    else k.stretch
  | _, _, _ => k.stretch

/-- The cut point of a requested row at a stretch estimate (R29). -/
def requestCut (j : JobRecord) (q : RowRequest) (stretch : Nat) : Count :=
  advance q.mark (effective stretch (j.offset q.cls))

/-- The lead point of a requested row: the cut point of the newest row of the track, and for a LEAD_IN row
its own cut point less the effective pitch_a (R41). -/
def requestLead (j : JobRecord) (q : RowRequest) (stretch : Nat) (newest : Option Row) : Count :=
  match q.origin, newest with
  | .sensed, some r => r.cut
  | .coasted, some r => r.cut
  | _, _ => retreat (requestCut j q stretch) (effective stretch j.pitchA)

/-- The lead cut of a requested row at its creation: the newest row's trail cut when it is complete; a
LEAD_IN row has none (R43). -/
def requestLeadCut (q : RowRequest) (newest : Option Row) : Option LeadCut :=
  match q.origin, newest with
  | .sensed, some r => r.trail.asLead
  | .coasted, some r => r.trail.asLead
  | _, _ => none

/-- The row a request makes (R49). -/
def makeRow (c : JobContext) (m : MachineRecord) (q : RowRequest) (stretch : Nat) (s : State) :
    Row :=
  let cut := requestCut c.job q stretch
  let lead := requestLead c.job q stretch (newestRow s)
  { number := rowSucc s.rot.lastNumber, tag := .current, jobId := c.job.jobId,
    origin := q.origin, mark := q.mark, lead := lead, cut := cut,
    fireBase := advance cut m.dKnife, trail := .pending,
    leadCut := requestLeadCut q (newestRow s),
    entries := Lanes.ofFn (newEntry c.job q.origin s.ntp lead cut) }

/-! ### Room in the track -/

/-- The rows left when the oldest row retires; a PENDING cut is withdrawn, and the following row's lead
cut becomes present and bad with the retired row's fire base (R50). -/
def retireOldest (track : List Row) : List Row :=
  match track with
  | [] => []
  | r :: rest =>
    if r.trail.isPending then
      match rest with
      | n :: more => giveLead ⟨r.fireBase, true⟩ n :: more
      | [] => []
    else rest

/-- The track with room for one more row: as it is below 64 rows, with its oldest row retired at 64 rows
when that row is fully decided, and none when it is not (R50). -/
def roomFor (track : List Row) : Option (List Row) :=
  if track.length < Config.trackCapacity then some track
  else
    match track with
    | r :: _ => if fullyDecided r then some (retireOldest track) else none
    | [] => some track

/-- The context with a new row as its last row, and as its first when it had none (R143). -/
def JobContext.addRow (c : JobContext) (n : RowNum) : JobContext :=
  { c with lastRow := some n,
           firstRow := match c.firstRow with | some f => some f | none => some n }

/-- The exemption span ends at a row created from a sensed mark at or beyond the span's end (R33). -/
def exemptionAfter (q : RowRequest) (x : Option WebSpan) : Option WebSpan :=
  match q.origin, x with
  | .coasted, x => x
  | _, some w => if atOrBeyond q.mark w.stop then none else some w
  | _, none => none

/-- The tracker after its row is appended: the newest row, the next expected point, and the state that the
rule which asked names; a sensed mark sets the coast count to 0 (R25, R26, R29). -/
def trackerAfter (j : JobRecord) (q : RowRequest) (r : Row) (stretch : Nat) (next : TrackerState)
    (k : Mkt) : Mkt :=
  { k with
    state := next,
    newest := some ⟨q.mark, q.cls, q.origin, r.cut, r.fireBase⟩,
    expected := some (advance q.mark (effective stretch (j.pitch q.cls))),
    stretch := stretch,
    coastCount := match q.origin with | .coasted => k.coastCount | .sensed | .leadIn => 0,
    exemption := exemptionAfter q k.exemption }

/-- The number of the next cut's row (R59). -/
def nextCutNumber (s : State) : Option RowNum := (nextCut s).map fun r => r.number

/-- The creation of a row in a track that has room (R49). The knife then tests when the next cut has
changed (R59, R62), and a decider when its next row or that row's lead reference has (R102, R104). -/
def createRow (c : JobContext) (m : MachineRecord) (q : RowRequest) (next : TrackerState)
    (room : List Row) (s : State) : State :=
  let stretch := requestStretch c.job q s.mkt
  let r := makeRow c m q stretch s
  let s1 := s.setRot
    { track := room ++ [r], lastNumber := r.number, overflowDetector := .armed }
  let s2 := s1.setNtp { s1.ntp with
    spans := spansBeyond r.cut s1.ntp.spans, guardPoint := guardAfter s1.ntp.guardPoint r.lead }
  let s3 := s2.setJbc { s2.jbc with current := some (c.addRow r.number) }
  let s4 := s3.setMkt (trackerAfter c.job q r stretch next s3.mkt)
  testTargets false (nextCutNumber s4 != nextCutNumber s) s s4

/-- A creation refused for room: the tracker passes to ACQUIRE with s as before the request, and the
detector, when ARMED, raises TRACK_OVERFLOW and is SPENT (R29, R51). -/
def refuseRow (s : State) : State :=
  let s1 := s.setMkt s.mkt.reenter
  match s.rot.overflowDetector with
  | .armed =>
    haltPart .trackOverflow s.trc.front
      (s1.setRot { s1.rot with overflowDetector := .spent })
  | .spent => s1

/-- The tracker asks the Row Track for a row; the answer says whether the row was created (R29, R49 to
R51). -/
def requestRow (q : RowRequest) (next : TrackerState) (s : State) : State × Bool :=
  match s.jbc.current, s.rnc.record with
  | some c, some m =>
    match roomFor s.rot.track with
    | some room => (createRow c m q next room s, true)
    | none => (refuseRow s, false)
  | _, _ => (s, false)

/-! ### Coasting (R27, R28) -/

/-- The reacquire distance (R32). -/
def reacquireDistance (j : JobRecord) (k : Mkt) : Nat := effective k.stretch j.pitchMin / 2

/-- A mark point at or beyond the newest row's mark point plus the reacquire distance (R32). -/
def beyondReacquire (j : JobRecord) (k : Mkt) (e : Count) : Bool :=
  match k.newest with
  | some n => atOrBeyond e (advance n.mark (reacquireDistance j k))
  | none => true

/-- A point within the window around an expected point (R25). -/
def inWindow (j : JobRecord) (x e : Count) : Bool :=
  withinRange e (retreat x j.markWindow) (advance x j.markWindow)

/-- A deglitch in progress whose edge point would let the mark be accepted if it were kept (R27). -/
def deferring (j : JobRecord) (k : Mkt) (x : Count) : Bool :=
  match k.deglitch with
  | none => false
  | some d =>
    match k.state with
    | .locked | .coasting => inWindow j x d.edge
    | .reacquire => beyondReacquire j k d.edge
    | .idle | .acquire => false

/-- The expected point whose coast is due: F is at or beyond the coast point, expected point + w + 1, in
LOCKED, COASTING or REACQUIRE, with no deferring deglitch (R25, R27). -/
def coastPoint (s : State) : Option Count :=
  match s.jbc.current, s.mkt.expected with
  | some c, some x =>
    match s.mkt.state with
    | .locked | .coasting | .reacquire =>
      if atOrBeyond s.trc.front (advance x (c.job.markWindow + 1)) && !deferring c.job s.mkt x
      then some x else none
    | .idle | .acquire => none
  | _, _ => none

/-- The class of the next row (R25). -/
def nextClass (j : JobRecord) (k : Mkt) : RowClass :=
  match k.newest with
  | some n => j.nextClass n.cls
  | none => .a

/-- The expected point lies within the exemption span (R27, R33). -/
def exempt (k : Mkt) (x : Count) : Bool :=
  match k.exemption with
  | some w => withinSpan x w.start w.stop
  | none => false

/-- A coast at an expected point counted, unless exempt; the count that passes from coast_limit raises
MARK_LOST (R27, R28). -/
def countCoast (j : JobRecord) (x : Count) (s : State) : State :=
  if exempt s.mkt x then s
  else
    let s1 := s.setMkt { s.mkt with coastCount := riseTo 255 s.mkt.coastCount }
    if s.mkt.coastCount = j.coastLimit then haltPart .markLost s.trc.front s1 else s1

/-- The state a coast leaves the tracker in: COASTING from LOCKED, and as it was otherwise (R27). -/
def coastState : TrackerState → TrackerState
  | .locked => .coasting
  | .coasting => .coasting
  | .reacquire => .reacquire
  | .idle => .idle
  | .acquire => .acquire

/-- The coast at an expected point (R27). -/
def takeCoast (x : Count) (s : State) : State :=
  match s.jbc.current with
  | none => s
  | some c =>
    match requestRow ⟨.coasted, nextClass c.job s.mkt, x⟩ (coastState s.mkt.state) s with
    | (s1, true) => countCoast c.job x s1
    | (s1, false) => s1

/-- The coast event: taken when it is due (R27). -/
def coastTest (s : State) : State :=
  match coastPoint s with
  | some x => takeCoast x s
  | none => s

/-! ### Kept marks (R21, R24, R26, R32) -/

/-- A stray: the stray count rises and a coast that waited is taken (R26, R27, R34). -/
def takeStray (s : State) : State :=
  coastTest (s.setMkt { s.mkt with strayCount := riseTo 65535 s.mkt.strayCount })

/-- A candidate's cut point is beyond the newest row's (R26, R32). -/
def inFireOrder (j : JobRecord) (k : Mkt) (e : Count) : Bool :=
  match k.newest with
  | some n => beyond (advance e (effective k.stretch (j.offset (nextClass j k)))) n.cut
  | none => true

/-- A candidate for a LEAD_IN row is accepted: the newest row is absent, or the candidate fire base is
beyond its fire base (R24). -/
def leadInAccepted (j : JobRecord) (m : MachineRecord) (k : Mkt) (e : Count) : Bool :=
  match k.newest with
  | some n => beyond (advance (advance e (effective k.stretch j.offsetA)) m.dKnife) n.fireBase
  | none => true

/-- A mark kept within the window of LOCKED or COASTING (R26). -/
def windowAccepted (j : JobRecord) (k : Mkt) (e : Count) : Bool :=
  match k.expected with
  | some x => inWindow j x e && inFireOrder j k e
  | none => false

/-- The row request a kept mark makes in the state in effect, none for a mark that is not accepted (R24,
R26, R32). -/
def markRequest (j : JobRecord) (m : MachineRecord) (k : Mkt) (e : Count) : Option RowRequest :=
  match k.state with
  | .idle => none
  | .acquire => if leadInAccepted j m k e then some ⟨.leadIn, .a, e⟩ else none
  | .locked | .coasting =>
    if windowAccepted j k e then some ⟨.sensed, nextClass j k, e⟩ else none
  | .reacquire =>
    if beyondReacquire j k e && inFireOrder j k e then some ⟨.sensed, nextClass j k, e⟩ else none

/-- A kept mark judged in the tracker state in effect: it makes a row and leaves the tracker LOCKED, or is
a stray (R21). -/
def judgeMark (e : Count) (s : State) : State :=
  match s.jbc.current, s.rnc.record with
  | some c, some m =>
    match markRequest c.job m s.mkt e with
    | some q => (requestRow q .locked s).1
    | none => takeStray s
  | _, _ => s

/-- The deglitch whose end is reached with MARK active (R21). -/
def keptMark (s : State) : Option Deglitch :=
  match s.mkt.deglitch with
  | some d =>
    if s.mkt.markActive && atOrBeyond s.trc.front (advance d.edge d.hold) then some d else none
  | none => none

/-- The end of a deglitch by the front: the mark is kept and judged (R21). -/
def keptTest (s : State) : State :=
  match keptMark s with
  | some d => judgeMark d.edge (s.setMkt { s.mkt with deglitch := none })
  | none => s

/-! ### Splice points (R30, R31) -/

/-- The reacquire point is reached (R31). -/
def reacquireDue (s : State) : Bool :=
  match s.mkt.reacquirePoint with
  | some q => atOrBeyond s.trc.front q
  | none => false

/-- The state the reacquire point leaves the tracker in (R31). -/
def reacquireState : TrackerState → TrackerState
  | .locked => .reacquire
  | .coasting => .reacquire
  | .reacquire => .reacquire
  | .acquire => .acquire
  | .idle => .idle

/-- The reacquire point, when reached, is cleared and acts by the tracker's state (R31). -/
def reacquireTest (s : State) : State :=
  if reacquireDue s then
    s.setMkt { s.mkt with reacquirePoint := none, state := reacquireState s.mkt.state }
  else s

/-- The tracker takes a splice's web point with its margin (R30). -/
def takePoint (q : Count) (margin : Nat) (k : Mkt) : Mkt :=
  match k.reacquirePoint with
  | none => { k with reacquirePoint := some q,
                     exemption := some ⟨retreat q margin, advance q margin⟩ }
  | some p =>
    if beyond q p then
      { k with
        reacquirePoint := some q,
        exemption := match k.exemption with
          | some w => some { w with stop := advance q margin }
          | none => some ⟨retreat q margin, advance q margin⟩ }
    else k

/-- A splice point handed over: a point at or behind F is reached at once (R30, R31). -/
def handPoint (q : Count) (margin : Nat) (s : State) : State :=
  reacquireTest (s.setMkt (takePoint q margin s.mkt))

/-! ### The meanings -/

/-- The tracker state starts a deglitch at an edge (R20). -/
def deglitches (t : TrackerState) : Bool :=
  match t with
  | .idle => false
  | .acquire | .locked | .coasting | .reacquire => true

/-- MARK_EDGE (R20): at the front, in a tracking state, it starts a deglitch with edge point F. An edge
within a deglitch in progress cannot come, since MARK falls between two rising edges. -/
def execMarkEdge (s : State) : Host.Outcome State Fault Refusal :=
  let s1 := s.setMkt { s.mkt with markActive := true }
  match s.jbc.current, s.mkt.deglitch with
  | some c, none =>
    if deglitches s.mkt.state && atFront s then
      .next (s1.setMkt { s1.mkt with deglitch := some ⟨s.trc.front, c.job.markMin⟩ })
    else .next s1
  | _, _ => .next s1

/-- MARK_FALL (R21): ends any deglitch in progress as a glitch, and a coast that waited for it is taken
(R27). -/
def execMarkFall (s : State) : Host.Outcome State Fault Refusal :=
  let s1 := s.setMkt { s.mkt with markActive := false }
  match s.mkt.deglitch with
  | none => .next s1
  | some _ =>
    .next (coastTest (s1.setMkt { s1.mkt with
      deglitch := none, glitchCount := riseTo 65535 s1.mkt.glitchCount }))

/-- MARK_KEPT (R21). -/
def execMarkKept (s : State) : Host.Outcome State Fault Refusal := .next (keptTest s)

/-- COAST (R27). -/
def execCoast (s : State) : Host.Outcome State Fault Refusal := .next (coastTest s)

/-- REACQUIRE_POINT_REACHED (R31). -/
def execReacquirePointReached (s : State) : Host.Outcome State Fault Refusal :=
  .next (reacquireTest s)

end Sys2Proof.Machine
end

