-- ==== Sys2Proof/Machine/Notes.lean ====
section
/-! DEFINITION. The Note Processor (05_inspection_notes_and_the_horizon.md): the application of each kind
of note with its fate, spans and the pending span list, the guard, splices, and the taking and
finishing of note pages. -/

namespace Sys2Proof.Machine

/-! ### Spans (R85 to R92, R97) -/

/-- What a span reaches across the web: the stretch of a SPAN note, or every lane for a splice span. -/
inductive SpanReach where
  | across (x0 width : Nat)
  | everyLane
  deriving DecidableEq, Repr

/-- The lanes of a row that a span reaches across the web, by the lane windows of the job the row's tag
names (R85, R97). -/
def reachIn (x : SpanReach) (t : JobTag) (s : State) : LaneSet :=
  match x with
  | .everyLane => Lanes.fill true
  | .across x0 width =>
    match contextOf t s with
    | some c => c.job.lanesHit x0 width
    | none => Lanes.fill false

/-- What the visits of a span or a ROW note have collected: the state, whether a lane entry was applied,
and the late lane mask (R87). -/
structure Collected where
  state : State
  applied : Bool
  late : LaneSet
  deriving DecidableEq, Repr

/-- A request to add a reason to a lane entry, and the answer collected: OPEN takes the reason; DECIDED is
late, and GOOD is made suspect; an absent entry is not hit (R46, R87, R94). -/
def visitLane (n : RowNum) (reason : Reason) (a : Collected) (l : Lane) : Collected :=
  match findRow n a.state with
  | none => a
  | some r =>
    match r.entries.get l with
    | none => a
    | some (.undecided x) =>
      { a with
        state := setTrack (mapRow n
          (fun r => { r with entries := r.entries.set l (some (.undecided (addReason x reason))) })
          a.state.rot.track) a.state,
        applied := true }
    | some (.good id) =>
      { a with state := suspectMark l id n a.state, late := a.late.set l true }
    | some (.reject _) => { a with late := a.late.set l true }

/-- The lanes of a set in ascending order. -/
def lanesOf (x : LaneSet) : List Lane := allLanes.filter fun l => x.get l

/-- The lanes of a row visited in ascending order (R87). -/
def visitRow (n : RowNum) (reason : Reason) (lanes : LaneSet) (a : Collected) : Collected :=
  (lanesOf lanes).foldl (visitLane n reason) a

/-- The row is tagged CURRENT or PREVIOUS and is hit along the web (R85, R86). -/
def hitAlong (start stop : Count) (r : Row) : Bool :=
  r.tag != .ended && overlaps start stop r.lead r.cut

/-- The tracked part: the hit rows visited in ascending order (R86, R87). -/
def applyTracked (start stop : Count) (x : SpanReach) (reason : Reason) (s : State) : Collected :=
  (s.rot.track.filter (hitAlong start stop)).foldl
    (fun a r => visitRow r.number reason (reachIn x r.tag s) a)
    ⟨s, false, Lanes.fill false⟩

/-- The gone part is not empty: a part before the oldest row's lead point, or on an ENDED row (R86). -/
def gonePart (start stop : Count) (track : List Row) : Bool :=
  match track with
  | [] => false
  | r :: _ => before start r.lead ||
      track.any fun x => x.tag == .ended && overlaps start stop x.lead x.cut

/-- The remainder of a span at or beyond the newest row's cut point; the whole span when the track is
empty (R86, R88). -/
def remainderOf (start stop : Count) (newest : Option Row) : Option WebSpan :=
  match newest with
  | none => some ⟨start, stop⟩
  | some r =>
    if beyond stop r.cut then some ⟨if atOrBeyond start r.cut then start else r.cut, stop⟩
    else none

/-- A span joins the pending span list before the first span whose start is beyond its own, and so after
every span whose start is at or before it (R90). -/
def insertSpan (p : PendingSpan) : List PendingSpan → List PendingSpan
  | [] => [p]
  | q :: qs => if beyond q.start p.start then p :: q :: qs else q :: insertSpan p qs

/-- The guard raised to the end of a span that could not be held (R91). -/
def raiseGuard (stop : Count) (g : Option Count) : Option Count :=
  match g with
  | none => some stop
  | some c => if beyond stop c then some stop else some c

/-- What became of a remainder. -/
inductive Remainder where
  | none | held | guarded
  deriving DecidableEq, Repr

/-- A remainder with a lane mask joins the pending span list, or raises the guard when the list is full
(R88, R91). -/
def holdRemainder (w : Option WebSpan) (mask : LaneSet) (reason : SpanReason) (s : State) :
    State × Remainder :=
  match w with
  | none => (s, .none)
  | some w =>
    if !LaneSet.nonempty mask then (s, .none)
    else if s.ntp.spans.length < Config.spanCapacity then
      (s.setNtp { s.ntp with spans := insertSpan ⟨w.start, w.stop, mask, reason⟩ s.ntp.spans }, .held)
    else (s.setNtp { s.ntp with guardPoint := raiseGuard w.stop s.ntp.guardPoint }, .guarded)

/-! ### Fates of SPAN and ROW notes (R89, R93) -/

/-- The fate of a SPAN note with a CURRENT context: the first line of R89 whose condition holds, with its
detail. -/
def spanFate (rem : Remainder) (gone applied : Bool) (late : LaneSet) : Fate × Nat :=
  if rem = .guarded then (.guarded, 0)
  else if gone then (.gone, laneMask late)
  else if LaneSet.nonempty late && !applied && rem != .held then (.late, laneMask late)
  else if LaneSet.nonempty late then (.partLate, laneMask late)
  else if rem = .held then (.pending, 0)
  else if applied then (.applied, 0)
  else (.gutter, 0)

/-- The fate of a ROW note on a present row (R93). -/
def rowFate (applied : Bool) (late : LaneSet) : Fate × Nat :=
  if LaneSet.nonempty late then
    if applied then (.partLate, laneMask late) else (.late, laneMask late)
  else if applied then (.applied, 0) else (.gutter, 0)

/-- A SPAN note that passes its checks applied with a CURRENT context (R85 to R89). -/
def applySpanNote (c : JobContext) (m : MachineRecord) (wc : Count) (len x0 width : Nat)
    (s : State) : State × Fate × Nat :=
  let start := advance wc m.dCam
  let stop := advance start len
  let a := applyTracked start stop (.across x0 width) .defect s
  let h := holdRemainder (remainderOf start stop (newestRow s)) (c.job.lanesHit x0 width) .defect
    a.state
  (h.1, spanFate h.2 (gonePart start stop s.rot.track) a.applied a.late)

/-- A ROW note that passes its checks applied with a CURRENT context (R93). -/
def applyRowNote (n : RowNum) (lanes : LaneSet) (s : State) : State × Fate × Nat :=
  match standing n s with
  | .none => (s, .future, 0)
  | .notYetCreated => (s, .future, 0)
  | .gone => (s, .gone, 0)
  | .present r =>
    if r.tag = .ended then (s, .gone, 0)
    else
      let a := visitRow n .defect lanes ⟨s, false, Lanes.fill false⟩
      (a.state, rowFate a.applied a.late)

/-! ### LANE and CONVEYOR notes (R127, R138) -/

/-- The target fails for a lane of the note that is active in the CURRENT job: it is at or below its
shelf_max (R127). -/
def targetFails (j : JobRecord) (lanes : LaneSet) (target : Nat) (l : Lane) : Bool :=
  lanes.get l && j.active l && decide (target ≤ (j.lane.get l).shelfMax)

/-- The hold flags of the note's lanes set to a value (R126). -/
def setHolds (lanes : LaneSet) (v : Bool) (s : State) : State :=
  s.setSkc (Lanes.ofFn fun l =>
    if lanes.get l then { s.skc.get l with hold := v } else s.skc.get l)

/-- The note's lanes short-closed SHORT_CMD, with the grant pass of the joinings (R125, R127, R129). -/
def closeLanes (lanes : LaneSet) (s : State) : State :=
  passIfJoined s ((lanesOf lanes).foldl (fun a l => shortClose .shortCmd l a) s)

/-- The CURRENT targets of the note's lanes that are active in the CURRENT job (R127). -/
def setTargets (j : JobRecord) (lanes : LaneSet) (target : Nat) (s : State) : State :=
  s.setSkc (Lanes.ofFn fun l =>
    if lanes.get l && j.active l then { s.skc.get l with targetCurrent := some target }
    else s.skc.get l)

/-- The actions of a LANE note in the order HOLD, RELEASE, CLOSE_SHORT, TARGET (R127). -/
def applyActions (j : JobRecord) (lanes : LaneSet) (x : LaneActions) (target : Nat) (s : State) :
    State :=
  let s1 := if x.hold then setHolds lanes true s else s
  let s2 := if x.release then setHolds lanes false s1 else s1
  let s3 := if x.closeShort then closeLanes lanes s2 else s2
  if x.target then setTargets j lanes target s3 else s3

/-- A LANE note handed to the Stack Controller, with its fate (R127). -/
def applyLaneNote (lanes : LaneSet) (x : LaneActions) (target : Nat) (s : State) :
    State × Fate × Nat :=
  match s.jbc.current with
  | none => (s, .noJob, 0)
  | some c =>
    if x.target && allLanes.any (targetFails c.job lanes target) then (s, .bad, 3)
    else (applyActions c.job lanes x target s, .done, 0)

/-- A CONVEYOR note with RESET: an OUT conveyor returns to AVAILABLE and a grant pass runs (R138). -/
def applyConveyorNote (c : Conveyor) (s : State) : State × Fate × Nat :=
  match s.tka.conveyors.get c with
  | .out => (grantPass (setConveyor c .available s), .done, 0)
  | .available | .pushing _ _ => (s, .done, 0)

/-! ### The turn of a note -/

/-- A burst of the Note Processor that only reads is over, and the work that follows is requested
(R170). -/
def serveRead (work : List NoteBurst) (s : State) : State := setNoteWork work (popRequest s)

/-- The byte address of the next note of a page in work. -/
def PageInWork.noteBase (p : PageInWork) : Nat := noteAddress p.page p.next

/-- A request of the two that a note's event can bring together: the fate write and a report write. -/
def requestDue (b : BurstSource) (s : State) : Bool := !s.pxm.requests.contains b

/-- The Note Processor's request, and a request of the Report Writer that the same event brought, in
either order (R170). -/
def requestTogether (before s : State) : State :=
  if s.pxm.requests.contains .reports && !before.pxm.requests.contains .reports then
    takeDue requestDue requestBurst [.notes, .reports] (withdrawBurst .reports s)
  else requestBurst .notes s

/-- A note's event is over: its fate write is requested, and the rest of the work waits (R80). -/
def giveFate (before : State) (page : Page) (i : Nat) (work : List NoteBurst)
    (out : State × Fate × Nat) : State :=
  let s := popRequest out.1
  requestTogether before
    (s.setNtp { s.ntp with work := .fateWrite page i out.2.1 out.2.2 :: work })

/-- The work after the fate write of a page's next note: the next note read, or the page's finishing (R80,
R81). -/
def workAfterNote (p : PageInWork) (work : List NoteBurst) : List NoteBurst :=
  (if p.count ≤ p.next + 1 then .finishing else .noteRead) :: work.tail

/-- The end of a note's event: the next note index rises and the fate write is requested (R80). -/
def finishNote (before : State) (p : PageInWork) (out : State × Fate × Nat) : State :=
  let s := out.1
  let s1 := s.setNtp { s.ntp with inWork := some { p with next := p.next + 1 } }
  giveFate before p.page p.next (workAfterNote p s.ntp.work) (s1, out.2)

/-- A decoded note's event: a field out of range gives BAD with its index and no effect (R83). -/
def noteEvent (s : State) (p : PageInWork) (apply : Note → State × Fate × Nat) : State :=
  match decodeNote s.pxm.memory p.noteBase with
  | .inr i => finishNote s p (s, .bad, i)
  | .inl n => finishNote s p (apply n)

/-- The end of the event of a note whose burst START found requested: its page is cut short, and its fate
write is requested before the writes that cut the page short (R82, R166; log entry 16). -/
def finishLate (before : State) (page : Page) (i : Nat) (out : State × Fate × Nat) : State :=
  giveFate before page i out.1.ntp.work.tail out

/-- A note of a kind at the end of its note read burst, when the burst has its turn: it is applied against
the state that stands there, and a press-controller access that met the burst comes after it (R80,
R170). A note that START cut short gets UNAPPLIED when it is no JOB note (R82; log entry 16). A command
for another kind finds no note of its own. -/
def noteStep (k : NoteKind) (apply : State → Note → State × Fate × Nat) (s : State) : State :=
  let s1 := freeMemory s
  match noteTurn s1, s1.ntp.inWork with
  | some .noteRead, some p =>
    if noteKind s1.pxm.memory p.noteBase = k then afterBurst (noteEvent s1 p (apply s1)) else s
  | some (.lateRead page i), _ =>
    if noteKind s1.pxm.memory (noteAddress page i) = k then
      afterBurst (finishLate s1 page i (s1, .unapplied, 0))
    else s
  | _, _ => s

/-- What a SPAN note does: without a CURRENT context it gets NO_JOB (R83, R89). -/
def spanOutcome (s : State) (n : Note) : State × Fate × Nat :=
  match n, s.jbc.current, s.rnc.record with
  | .span wc len x0 width, some c, some m => applySpanNote c m wc len x0 width s
  | _, _, _ => (s, .noJob, 0)

/-- What a ROW note does: without a CURRENT context it gets NO_JOB (R83, R93). -/
def rowOutcome (s : State) (n : Note) : State × Fate × Nat :=
  match n, s.jbc.current with
  | .row number lanes, some _ => applyRowNote number lanes s
  | _, _ => (s, .noJob, 0)

/-- What a LANE note does (R84, R127). -/
def laneOutcome (s : State) (n : Note) : State × Fate × Nat :=
  match n with
  | .lane lanes x target => applyLaneNote lanes x target s
  | _ => (s, .noJob, 0)

/-- What a CONVEYOR note does (R84, R138). -/
def conveyorOutcome (s : State) (n : Note) : State × Fate × Nat :=
  match n with
  | .conveyor c => applyConveyorNote c s
  | _ => (s, .done, 0)

/-- A kind that is none of the five gives BAD with detail 0 (R83). -/
def badOutcome (s : State) (_ : Note) : State × Fate × Nat := (s, .bad, 0)

/-! ### JOB notes (R142, R146) -/

/-- What a JOB note meets in the run state and contexts standing (R146). -/
inductive JobStanding where
  | activates | changes | busy
  deriving DecidableEq, Repr

/-- The run-state test of R146. -/
def jobStanding (s : State) : JobStanding :=
  match s.rnc.runState with
  | .ready => if s.jbc.current.isNone && s.jbc.previous.isNone then .activates else .busy
  | .run => if s.jbc.previous.isNone then .changes else .busy
  | .off | .drain | .halted => .busy

/-- The event of a JOB note at the end of its job copy: the copy is validated, and a valid job is
activated or makes a changeover (R142, R144 to R148). -/
def jobOutcome (slot : Nat) (s : State) : State × Fate × Nat :=
  match jobStanding s, s.rnc.record with
  | .activates, some m =>
    let j := readJobRecord s.pxm.memory slot
    match jobIndex j m with
    | none => (activateJob j s, .done, 0)
    | some i => (s, .refused, i)
  | .changes, some m =>
    let j := readJobRecord s.pxm.memory slot
    match jobIndex j m with
    | none => (changeover j s, .done, 0)
    | some i => (s, .refused, i)
  | _, _ => (s, .busy, 0)

/-- The end of the note read of a JOB note: out of range is BAD; met busy is BUSY, with nothing read from
the job table; otherwise the job copy is requested, and accesses and bursts may come before it (R142,
R146, R170; log entry 10). `finish` ends the note's event with a fate, and `copy` is the job copy of a
slot. -/
def jobNoteRead (base : Nat) (finish : State × Fate × Nat → State) (copy : Nat → NoteBurst)
    (s : State) : State :=
  match decodeNote s.pxm.memory base with
  | .inl (.job slot) =>
    match jobStanding s with
    | .busy => finish (s, .busy, 0)
    | .activates | .changes => serveRead (copy slot :: s.ntp.work.tail) s
  | .inl _ => s
  | .inr i => finish (s, .bad, i)

/-- A JOB note at the end of its note read or of its job copy, whichever has its turn (R142). START does
not drop the note whose burst it finds requested: the note meets the emptied state, and activates its
job there (R166; log entry 16). -/
def jobNoteStep (s : State) : State :=
  let s1 := freeMemory s
  match noteTurn s1, s1.ntp.inWork with
  | some .noteRead, some p =>
    if noteKind s1.pxm.memory p.noteBase = .job then
      afterBurst (jobNoteRead p.noteBase (finishNote s1 p) .jobCopy s1)
    else s
  | some (.jobCopy slot), some p => afterBurst (finishNote s1 p (jobOutcome slot s1))
  | some (.lateRead page i), _ =>
    if noteKind s1.pxm.memory (noteAddress page i) = .job then
      afterBurst (jobNoteRead (noteAddress page i) (finishLate s1 page i) (.lateCopy page i) s1)
    else s
  | some (.lateCopy page i slot), _ => afterBurst (finishLate s1 page i (jobOutcome slot s1))
  | _, _ => s

/-! ### Pages (R78 to R82) -/

/-- The note count a page is taken with: above 48 it is held as 48 (R79). -/
def heldCount (n : Nat) : Nat := min n Config.pageCapacity

/-- The flags word written at the taking: 1 for TRUNCATED and 0 otherwise (R79, R186). -/
def truncatedWord (n : Nat) : Word := if Config.pageCapacity < n then 1#16 else 0#16

/-- The taking of the expected page, at the beginning of its burst (R79). -/
def takeExpected (s : State) : State :=
  let page := s.ntp.expectedPage
  let base := pageBase page
  let n := Memory.natWord s.pxm.memory (base + 2)
  let hc := Memory.readCount s.pxm.memory (base + 8)
  let s1 := burstWrite base [pageInUse] (beginBurst .notes s)
  let s2 := burstWrite (base + 4) [truncatedWord n] s1
  let s3 := s2.setNtp { s2.ntp with inWork := some ⟨page, heldCount n, hc, 0⟩ }
  setNoteWork ((if heldCount n = 0 then .finishing else .noteRead) :: s3.ntp.work.tail) s3

/-- The horizon after a page's held Hc: 0 leaves it, and a candidate before it is not taken (R98). -/
def horizonAfter (m : Option MachineRecord) (hc : Count) (h : Option Count) : Option Count :=
  match m with
  | none => h
  | some r =>
    if hc = 0#32 then h
    else
      match h with
      | none => some (advance hc r.dCam)
      | some x => if atOrBeyond (advance hc r.dCam) x then some (advance hc r.dCam) else some x

/-- The finishing of the page in work, at the beginning of its burst (R81). -/
def finishPage (p : PageInWork) (s : State) : State :=
  let s1 := flagPageDone (burstWrite (pageBase p.page) [pageDone] (beginBurst .notes s))
  let s2 := s1.setNtp { s1.ntp with
    inWork := none, expectedPage := otherPage p.page,
    horizon := horizonAfter s1.rnc.record p.hc s1.ntp.horizon }
  setNoteWork (.stateCheck :: s2.ntp.work.tail) s2

/-- The DONE write of a page that START cut short (R82, R158). -/
def finishCutShort (page : Page) (s : State) : State :=
  setNoteWork s.ntp.work.tail
    (flagPageDone (burstWrite (pageBase page) [pageDone] (beginBurst .notes s)))

/-- The expected page's state word holds POSTED in a run state that allows the page, with no page in work
(R81, R82). -/
def checkFinds (s : State) : Bool :=
  Memory.readWord s.pxm.memory (pageBase s.ntp.expectedPage) == pagePosted &&
    s.rnc.runState != .off && s.ntp.inWork.isNone

/-- A page state check, at the end of its burst: the page is taken when it is found POSTED (R81). -/
def checkPage (s : State) : State :=
  let s1 := serveRead s.ntp.work.tail s
  if checkFinds s then takePage s1 else s1

/-- A fate write burst: fate and detail in one word of the note (R80, R186). -/
def writeFate (p : Page) (i : Nat) (fate : Fate) (detail : Nat) (s : State) : State :=
  setNoteWork s.ntp.work.tail
    (burstWrite (noteAddress p i + 14) [bytePair (fateCode fate) detail] (beginBurst .notes s))

/-! ### Splices (R96, R97) -/

/-- A splice span applied as a SPAN note's span, in every lane; an empty span marks nothing and is not
held (R96, R97). -/
def applySplice (start stop : Count) (s : State) : State :=
  if start = stop then s
  else
    let a := applyTracked start stop .everyLane .splice s
    (holdRemainder (remainderOf start stop (newestRow s)) (Lanes.fill true) .splice a.state).1

/-! ### The meanings -/

/-- SPAN_NOTE (R80, R83, R85 to R91, R94). -/
def execSpanNote (s : State) : Host.Outcome State Fault Refusal :=
  .next (noteStep .span spanOutcome s)

/-- ROW_NOTE (R93, R94). -/
def execRowNote (s : State) : Host.Outcome State Fault Refusal :=
  .next (noteStep .row rowOutcome s)

/-- LANE_NOTE (R127). -/
def execLaneNote (s : State) : Host.Outcome State Fault Refusal :=
  .next (noteStep .lane laneOutcome s)

/-- CONVEYOR_NOTE (R138). -/
def execConveyorNote (s : State) : Host.Outcome State Fault Refusal :=
  .next (noteStep .conveyor conveyorOutcome s)

/-- BAD_NOTE (R83): a kind that is none of the five gives BAD with detail 0. -/
def execBadNote (s : State) : Host.Outcome State Fault Refusal :=
  .next (noteStep .unknown badOutcome s)

/-- JOB_NOTE (R142, R146, R166): the note read when its turn has come, and the job copy, with the note's
event, when its turn has. -/
def execJobNote (s : State) : Host.Outcome State Fault Refusal := .next (jobNoteStep s)

/-- FATE_WRITE (R80, R186): fate and detail are written as one word. -/
def execFateWrite (s : State) : Host.Outcome State Fault Refusal :=
  let s1 := freeMemory s
  match noteTurn s1 with
  | some (.fateWrite p i fate detail) => .next (writeFate p i fate detail s1)
  | _ => .next s

/-- PAGE_TAKING (R79). -/
def execPageTaking (s : State) : Host.Outcome State Fault Refusal :=
  let s1 := freeMemory s
  match noteTurn s1 with
  | some .pageTaking => .next (takeExpected s1)
  | _ => .next s

/-- PAGE_FINISHING (R81, R82). -/
def execPageFinishing (s : State) : Host.Outcome State Fault Refusal :=
  let s1 := freeMemory s
  match noteTurn s1, s1.ntp.inWork with
  | some .finishing, some p => .next (finishPage p s1)
  | some (.cutShortDone page), _ => .next (finishCutShort page s1)
  | _, _ => .next s

/-- PAGE_STATE_CHECK (R81, R82). -/
def execPageStateCheck (s : State) : Host.Outcome State Fault Refusal :=
  let s1 := freeMemory s
  match noteTurn s1 with
  | some .stateCheck => .next (afterBurst (checkPage s1))
  | _ => .next s

/-- SPLICE (R96): a rising edge outside OFF places a splice span and hands the tracker the splice
point. -/
def execSplice (s : State) : Host.Outcome State Fault Refusal :=
  match s.rnc.runState, s.rnc.record with
  | .off, _ => .next s
  | _, none => .next s
  | _, some m =>
    let q := advance s.trc.front m.dSplice
    .next (handPoint q m.spliceMargin
      (applySplice (retreat q m.spliceMargin) (advance q m.spliceMargin) s))

end Sys2Proof.Machine
end

