-- ==== Sys2Proof/Machine/Reports.lean ====
section
/-! DEFINITION. The Report Writer (11_reports.md): the layout of each record (R181, R183, R186), the
writing of records into the FILLING half, and the closing, taking and freeing of halves. -/

namespace Sys2Proof.Machine

/-! ### Records as words -/

/-- The record kind of a header word (R183). -/
def recordKind : Record → Nat
  | .stack _ _ _ => 1
  | .suspect _ _ _ => 2
  | .fault _ _ _ _ => 3
  | .jobStart _ _ => 4
  | .jobEnd _ _ _ _ => 5

/-- The close kind of a stack as encoded; a stack leaves its line with its close kind present. -/
def closeCode (k : Option CloseKind) : Nat :=
  match k with
  | some c => closeKindCode c
  | none => 0

/-- The conveyor of a stack as encoded. -/
def stackConveyorCode (c : Option Conveyor) : Nat :=
  match c with
  | some x => conveyorCode x
  | none => 0

/-- The bits of a header word that the record's kind uses, beside the kind and DROPPED (R183). -/
def recordBits : Record → Nat
  | .stack l x notCleared =>
    256 * laneIndex l + 1024 * stackConveyorCode x.conveyor + 2048 * notCleared.toNat +
      4096 * closeCode x.closeKind
  | .suspect l _ _ => 256 * laneIndex l
  | .fault _ secondary _ _ => 16 * secondary.toNat
  | .jobStart _ _ => 0
  | .jobEnd _ _ _ _ => 0

/-- A record's header word: bits 0 to 2 the kind, 3 DROPPED, 4 SECONDARY, 8 and 9 the lane, 10 the
conveyor, 11 the delivery, 12 to 14 the close kind (R183). -/
def headerWord (r : Record) (dropped : Bool) : Word :=
  wordOf (recordKind r + 8 * dropped.toNat + recordBits r)

/-- The detail byte of a FAULT record: the conveyor of a CONVEYOR_TIMEOUT, 0xFF for none (R183, R186). -/
def causeDetail : FaultCause → Nat
  | .halting _ => 0xFF
  | .conveyorTimeout c => conveyorCode c

/-- The ten tallies as words in precedence order (R183). -/
def tallyWords (t : Tallies) : List Word := allReasons.map fun r => wordOf (t.get r)

/-- The fields of a record after its header word, without the zeros that fill it (R183). -/
def recordFields : Record → List Word
  | .stack _ x _ =>
    [wordOf x.id, wordOf x.jobId, wordOf x.target, wordOf x.allotted, wordOf x.arrived,
     wordOf x.extra, wordOf x.suspect] ++ countWords x.firstRow ++ countWords x.lastRow ++
    countWords (x.firstSuspect.getD 0#32) ++ countWords (x.closePoint.getD 0#32)
  | .suspect _ id row => wordOf id :: countWords row
  | .fault cause _ f newest =>
    bytePair (causeCode cause) (causeDetail cause) :: (countWords f ++ countWords newest)
  | .jobStart id first => wordOf id :: countWords first
  | .jobEnd id first last t => wordOf id :: (countWords first ++ countWords last ++ tallyWords t)

/-- A record's 16 words, bytes after its last field being 0 (R186). -/
def recordWords (r : Record) (dropped : Bool) : List Word :=
  let ws := headerWord r dropped :: recordFields r
  ws ++ List.replicate (16 - ws.length) 0#16

/-! ### Halves -/

/-- The writer closes its FILLING half (R180): the age timer is stopped and ATTENTION.REPORTS set at once,
and the half state accesses of the close, the write of CLOSED and the look at the other half, follow in
the arbiter's order. A record still in the queue waits for the next half; the place that a request for
its write had among the requests now serves the write of CLOSED, the model's choice, log entry 22. -/
def closeHalf (h : Half) (s : State) : State :=
  flagReports (updateReportRequest (s.setRpw { s.rpw with
    ageTimer := none, halfWork := [.writeClosed h, .look (otherHalf h)] }))

/-! ### Writing (R179) -/

/-- The age timer at the write of a half's first record: it starts with the age in use (R179, R180). -/
def ageStarted (s : State) : Option Nat := s.rnc.record.map fun m => m.reportAge

/-- The Report Writer after a record is written: it has left the queue, drop pending is clear, the fill
index has risen, and the first record of the half starts the age timer (R179). -/
def Rpw.written (rest : List Record) (age : Option Nat) (x : Rpw) : Rpw :=
  { x with queue := rest, dropPending := false, fillIndex := x.fillIndex + 1,
           ageTimer := if x.fillIndex = 0 then age else x.ageTimer }

/-- A STACK record's reservation is released at its write (R179). -/
def releaseFor (r : Record) (s : State) : State :=
  if r.isStack then releaseReservation s else s

/-- The write of the oldest record into the FILLING half, in the order of R179. -/
def writeRecord (h : Half) (r : Record) (rest : List Record) (s : State) : State :=
  let i := s.rpw.fillIndex
  let s1 := burstWrite (slotAddress h i) (recordWords r s.rpw.dropPending) s
  let s2 := burstWrite (halfBase h + 2) [wordOf (i + 1)] s1
  let s3 := releaseFor r (s2.setRpw (s2.rpw.written rest (ageStarted s2)))
  if i + 1 = Config.pageCapacity then closeHalf h s3 else s3

/-! ### The meanings -/

/-- REPORT_WRITE (R179): when the writer's burst has its turn, and is for a record. -/
def execReportWrite (s : State) : Host.Outcome State Fault Refusal :=
  let s1 := freeMemory s
  match s1.rpw.halfWork, s1.rpw.writer, s1.rpw.queue with
  | [], .filling h, r :: rest =>
    if hasTurn .reports s1 then .next (writeRecord h r rest (beginBurst .reports s1)) else .next s
  | _, _, _ => .next s

/-- AGE_TIMER_EXPIRY (R180): the FILLING half is closed, and the write of CLOSED begins at once when no
burst is in progress or requested. A stopped timer expires on nothing. -/
def execAgeTimerExpiry (s : State) : Host.Outcome State Fault Refusal :=
  match s.rpw.writer, s.rpw.ageTimer with
  | .filling h, some _ => .next (beginNext (closeHalf h s))
  | _, _ => .next s

end Sys2Proof.Machine
end

