-- ==== Sys2Proof/Machine/Port.lean ====
section
/-! DEFINITION. The Port and Exchange Memory block
(10_exchange_memory_and_the_press_controller_port.md): the meanings of press-controller accesses (R169 to
R171), the register window's writes (R172 to R174), and the live status refresh (R175, R183, R186). -/

namespace Sys2Proof.Machine

/-! ### Live status (R183, R186) -/

/-- A position or row as its two words, 0 for none (R186). -/
def optionalWords (x : Option Count) : List Word := countWords (x.getD 0#32)

/-- The presence byte: bit 0 for H, bit 1 for G (R183). -/
def presenceByte (n : Ntp) : Nat := n.horizon.isSome.toNat + 2 * n.guardPoint.isSome.toNat

/-- The allotted count of the FRONT stack; 0 for an empty line (R141). -/
def frontAllotted (line : List Stack) : Nat :=
  match line with
  | x :: _ => x.allotted
  | [] => 0

/-- The last stack state as encoded; EMPTY, 0, for an empty line (R141, R183). -/
def lastStackCode (line : List Stack) : Nat :=
  match line.getLast? with
  | some x => stackStateCode x.state
  | none => 0

/-- A lane's byte: bits 0 to 2 the last stack state, bit 7 the hold flag (R183). -/
def laneByte (x : SkcLane) : Nat := lastStackCode x.line + 128 * x.hold.toNat

/-- A lane's two words: FRONT allotted and shelf total (R183). -/
def laneWords (x : SkcLane) : List Word :=
  [wordOf (frontAllotted x.line), wordOf (shelfTotal x.line)]

/-- The 32 words of live status from the owning blocks' values as they stand (R175, R183, R186). -/
def liveStatusWords (s : State) : List Word :=
  countWords s.trc.web ++ countWords s.trc.front ++
  countWords (BitVec.ofNat 32 s.mkt.stretch) ++
  countWords (newestNumber s) ++ countWords (oldestNumber s) ++
  optionalWords s.ntp.horizon ++ optionalWords s.ntp.guardPoint ++
  [wordOf s.trc.speed,
   bytePair (zoneCode s.trc.zone) (runStateCode s.rnc.runState),
   bytePair (faultCodeNat s.rnc.faultCode) (pageCode s.ntp.expectedPage),
   bytePair s.rot.track.length (undecidedCount s),
   bytePair s.ntp.spans.length (presenceByte s.ntp),
   wordOf s.mkt.strayCount, wordOf s.mkt.glitchCount, wordOf s.rpw.droppedCount] ++
  laneWords s.skc.l0 ++ laneWords s.skc.l1 ++ laneWords s.skc.l2 ++ laneWords s.skc.l3 ++
  [bytePair (laneByte s.skc.l0) (laneByte s.skc.l1),
   bytePair (laneByte s.skc.l2) (laneByte s.skc.l3)]

/-! ### The meanings -/

/-- ATTENTION_WRITE (R173): clears each flag written as 1. -/
def execAttentionWrite (w : Word) (s : State) : Host.Outcome State Fault Refusal :=
  .next (setAttention (attentionMinus s.pxm.attention (attentionOf w)) s)

/-- ATTN_MASK_WRITE (R172, R174): sets the five enables to the values written. -/
def execAttnMaskWrite (w : Word) (s : State) : Host.Outcome State Fault Refusal :=
  .next (s.setPxm { s.pxm with mask := attentionOf w })

/-- REGISTER_WRITE_IGNORED (R172). -/
def execRegisterWriteIgnored (_r : IgnoredRegister) (_w : Word) (s : State) :
    Host.Outcome State Fault Refusal :=
  .next s

/-- MEMORY_READ (R169 to R171): the word read is driven on D[15:0] when the access is served. -/
def execMemoryRead (a : BitVec 12) (s : State) : Host.Outcome State Fault Refusal :=
  .next (pressAccess (.read a) s)

/-- MEMORY_WRITE (R169, R170). -/
def execMemoryWrite (a : BitVec 12) (w : Word) (s : State) : Host.Outcome State Fault Refusal :=
  .next (pressAccess (.write a w) s)

/-- NOTE_PAGE_POSTING (R78, R169): a press-controller write into a page's state word. -/
def execNotePagePosting (p : Page) (w : Word) (s : State) : Host.Outcome State Fault Refusal :=
  .next (pressAccess (.write (portAddress (pageBase p)) w) s)

/-- HALF_FREEING (R169, R178): a press-controller write into a half's state word. -/
def execHalfFreeing (h : Half) (w : Word) (s : State) : Host.Outcome State Fault Refusal :=
  .next (pressAccess (.write (portAddress (halfBase h)) w) s)

/-- REFRESH_TIMER_EXPIRY (R175): requests the live status burst, unless it is requested already; a refresh
burst in progress, begun at most a millisecond ago and 1.6 µs long, has ended (log entry 7). The timer
does not run while RESETn is asserted. -/
def execRefreshTimerExpiry (s : State) : Host.Outcome State Fault Refusal :=
  if s.pxm.resetAsserted then .next s
  else .next (requestBurst .refresh (if inProgress .refresh s then settleMemory s else s))

/-- LIVE_STATUS_REFRESH (R175): when the burst has its turn, the 32 words are written. -/
def execLiveStatusRefresh (s : State) : Host.Outcome State Fault Refusal :=
  let s1 := freeMemory s
  if hasTurn .refresh s1 then .next (burstWrite 0 (liveStatusWords s1) (beginBurst .refresh s1))
  else .next s

end Sys2Proof.Machine
end

