-- ==== Sys2Proof/Machine/Travel.lean ====
section
/-! DEFINITION. The Travel Counter (01_web_travel_and_speed.md): quadrature counts, the front advance and
what it reaches in every block (R7), the two detectors, the speed sample and the zones. -/

namespace Sys2Proof.Machine

/-! ### The front advance (R7) -/

/-- The acts a front advance can make due in the blocks that wait on web positions (R7). -/
inductive FrontAct where
  | reacquire | kept | coast | fire
  | lane (l : Lane)
  | window (l : Lane)
  deriving DecidableEq, Repr

/-- The acts of the Mark Tracker, the Knife Timer and the Lane Deciders (R7). -/
def frontActs : List FrontAct :=
  [.reacquire, .kept, .coast, .fire, .lane .l0, .lane .l1, .lane .l2, .lane .l3,
   .window .l0, .window .l1, .window .l2, .window .l3]

/-- An act is due at the front as it stands. -/
def frontDue (t : FrontAct) (s : State) : Bool :=
  match t with
  | .reacquire => reacquireDue s
  | .kept => (keptMark s).isSome
  | .coast => (coastPoint s).isSome
  | .fire => (fireableCut s).isSome
  | .lane l => laneDue l s
  | .window l => windowDue l s

/-- An act is taken, if it is still due. -/
def frontAct (t : FrontAct) (s : State) : State :=
  match t with
  | .reacquire => reacquireTest s
  | .kept => keptTest s
  | .coast => coastTest s
  | .fire => fireTest false s
  | .lane l => laneTest l s
  | .window l => windowTest l s

/-- The front advance is delivered: every block acts on its own targets, blocks needing no order among
them (R7; log entry 2). -/
def frontAdvance (s : State) : State := takeDue frontDue frontAct frontActs s

/-! ### Counts (R3 to R9) -/

/-- The Travel Counter after a forward count: W rises by 1, and when it stood at F, F rises with it and
both detectors are armed (R4, R5, R6, R9). -/
def Trc.forward (t : Trc) : Trc :=
  let p := t.pins.forward
  if t.web = t.front then
    { t with pins := p, reference := p, web := t.web + 1#32, front := t.web + 1#32,
             reverseDetector := .armed, encoderDetector := .armed }
  else { t with pins := p, reference := p, web := t.web + 1#32 }

/-- The Travel Counter after a reverse count (R4, R6). -/
def Trc.backward (t : Trc) : Trc :=
  let p := t.pins.backward
  { t with pins := p, reference := p, web := t.web - 1#32 }

/-- The reverse distance, (F - W) mod 2^32 (R8). -/
def reverseDistance (t : Trc) : Nat := distance t.web t.front

/-- The channel levels change while the decoder does not run. -/
def movePins (p : EncoderPair) (s : State) : State := s.setTrc { s.trc with pins := p }

/-- The reverse distance has passed reverse_limit: with the detector ARMED in RUN, DRAIN or HALTED,
REVERSE_LIMIT is raised and the detector is SPENT (R9). W is behind F, so that the knife's test at the
change of run state fires nothing (R62). -/
def reverseTest (s : State) : State :=
  match s.rnc.record, s.trc.reverseDetector with
  | some m, .armed =>
    if reverseDistance s.trc = m.reverseLimit + 1 && running s then
      raiseHalting .reverseLimit s.trc.front
        (s.setTrc { s.trc with reverseDetector := .spent })
    else s
  | _, _ => s

/-- An encoder error: with the detector ARMED in RUN, DRAIN or HALTED, ENCODER is raised and the detector
is SPENT (R5). -/
def encoderError (s : State) : State :=
  match s.trc.encoderDetector with
  | .armed =>
    if running s then
      haltPart .encoder s.trc.front (s.setTrc { s.trc with encoderDetector := .spent })
    else s
  | .spent => s

/-- FORWARD_COUNT (R4, R6, R7). -/
def execForwardCount (s : State) : Host.Outcome State Fault Refusal :=
  if s.pxm.resetAsserted then .next (movePins s.trc.pins.forward s)
  else if s.trc.web = s.trc.front then .next (frontAdvance (s.setTrc s.trc.forward))
  else .next (s.setTrc s.trc.forward)

/-- REVERSE_COUNT (R4, R8, R9). -/
def execReverseCount (s : State) : Host.Outcome State Fault Refusal :=
  if s.pxm.resetAsserted then .next (movePins s.trc.pins.backward s)
  else .next (reverseTest (s.setTrc s.trc.backward))

/-- ILLEGAL_TRANSITION (R5): the counts are lost and the present pair is the new reference. -/
def execIllegalTransition (s : State) : Host.Outcome State Fault Refusal :=
  if s.pxm.resetAsserted then .next (movePins s.trc.pins.opposite s)
  else
    let p := s.trc.pins.opposite
    .next (encoderError (s.setTrc { s.trc with pins := p, reference := p }))

/-! ### The speed sample (R10 to R14) -/

/-- The sampled speed: delta, read as a signed number, clamped to 0 to 4095 (R10). -/
def sampledSpeed (t : Trc) : Nat :=
  let delta := (t.web - t.previousSample).toInt
  if delta < 0 then 0 else min 4095 delta.toNat

/-- The standstill count after a sample (R12). -/
def standstillAfter (v n : Nat) : Nat := if v = 0 then riseTo 200 n else 0

/-- The change out of a zone whose condition a sample meets (R13). -/
def zoneMet (m : MachineRecord) (z : Zone) (v : Nat) : Option ZoneChange :=
  match z with
  | .crawl => if m.vCrawl + m.zoneHyst ≤ v then some .crawlToRun else none
  | .run =>
    if v < m.vCrawl then some .runToCrawl
    else if m.vOver ≤ v then some .runToOver else none
  | .over => if v + m.zoneHyst < m.vOver then some .overToRun else none

/-- The zone a change leads to (R13). -/
def ZoneChange.destination : ZoneChange → Zone
  | .crawlToRun => .run
  | .runToCrawl => .crawl
  | .runToOver => .over
  | .overToRun => .run

/-- The zone logic at a sample of speed `v` (R14). -/
def Trc.zoneSample (m : MachineRecord) (v : Nat) (t : Trc) : Trc :=
  match zoneMet m t.zone v with
  | none => { t with pendingChange := none, deglitchCount := 0 }
  | some c =>
    if t.pendingChange = some c then
      if t.deglitchCount < 7 then { t with deglitchCount := t.deglitchCount + 1 }
      else { t with zone := c.destination, pendingChange := none, deglitchCount := 0 }
    else { t with pendingChange := some c, deglitchCount := 1 }

/-- The Travel Counter after a speed sample; with no machine record values the zone stays as it is (R10,
R12, R14). -/
def Trc.sample (m : Option MachineRecord) (t : Trc) : Trc :=
  let v := sampledSpeed t
  let t1 := { t with
    speed := v, previousSample := t.web, standstill := standstillAfter v t.standstill }
  match m with
  | some r => t1.zoneSample r v
  | none => t1

/-- The knife lead at a speed; 0 with no machine values (R60). -/
def knifeLeadAt (m : Option MachineRecord) (v : Nat) : Nat :=
  match m with
  | some r => leadOf v r.knifeLatency r.leadMax
  | none => 0

/-- The flap lead at a speed; 0 with no machine values (R103). -/
def flapLeadAt (m : Option MachineRecord) (v : Nat) : Nat :=
  match m with
  | some r => leadOf v r.flapLatency r.leadMax
  | none => 0

/-- The leads of the knife and of every flap formed from the speed in effect (R60, R103). -/
def formLeads (s : State) : State :=
  let s1 := s.setKnt { s.knt with lead := knifeLeadAt s.rnc.record s.trc.speed }
  s1.setLnd (s1.lnd.map fun x => { x with flapLead := flapLeadAt s.rnc.record s.trc.speed })

/-- An act is due at a speed sample: the knife fires, or a lane reaches its pass end or decides. -/
def sampleDue (t : TargetAct) (s : State) : Bool :=
  match t with
  | .fire => (fireableCut s).isSome
  | .lane l => laneDue l s

/-- An act is taken at a speed sample, if it is still due. -/
def sampleAct (t : TargetAct) (s : State) : State :=
  match t with
  | .fire => fireTest false s
  | .lane l => laneTest l s

/-- SPEED_SAMPLE (R10 to R14): the Travel Counter's values first, then the leads, and the targets formed
from them are tested (R62, R104, R110). The sampler does not run while RESETn is asserted. -/
def execSpeedSample (s : State) : Host.Outcome State Fault Refusal :=
  if s.pxm.resetAsserted then .next s
  else .next (takeDue sampleDue sampleAct targetActs
    (formLeads (s.setTrc (s.trc.sample s.rnc.record))))

end Sys2Proof.Machine
end

