-- ==== Sys2Proof/Machine/RunControl.lean ====
section
/-! DEFINITION. The Run Controller (09_run_control_and_faults.md): the commands START, STOP, ABORT,
ACK_FAULT and RESTART, the writes that are no command, and the resets. -/

namespace Sys2Proof.Machine

/-! ### START (R156 to R158) -/

/-- What START leaves of a burst it finds in the Note Processor's work (R82, R158): a fate write already
due and the DONE write of a page cut short before are kept; the burst of a note that an earlier START
left is kept when this START leaves READY, and turns into the note's UNAPPLIED otherwise; every other
burst is dropped. -/
def keptAtStart (ready : Bool) : NoteBurst → Option NoteBurst
  | .fateWrite p i f d => some (.fateWrite p i f d)
  | .cutShortDone p => some (.cutShortDone p)
  | .lateRead p i => some (if ready then .lateRead p i else .fateWrite p i .unapplied 0)
  | .lateCopy p i slot => some (if ready then .lateCopy p i slot else .fateWrite p i .unapplied 0)
  | .pageTaking | .noteRead | .jobCopy _ | .finishing | .stateCheck => none

/-- The note whose note read or job copy START finds requested, with a valid machine record: it is still
read, and a JOB note that it is meets the emptied state and activates its job (R166; log entry 16). -/
def lateNote (ready : Bool) (n : Ntp) : Option NoteBurst :=
  match ready, n.inWork, n.work with
  | true, some p, .noteRead :: _ => some (.lateRead p.page p.next)
  | true, some p, .jobCopy slot :: _ => some (.lateCopy p.page p.next slot)
  | _, _, _ => none

/-- The writes that cut a page in work short, from note `i` on: UNAPPLIED into each note not yet applied,
and DONE (R82). -/
def cutShortFrom (i : Nat) (p : PageInWork) : List NoteBurst :=
  (List.range (p.count - i)).map (fun k => .fateWrite p.page (i + k) .unapplied 0) ++
    [.cutShortDone p.page]

/-- The writes that cut a page in work short, from its next note on, or, when that one is still read, from
the one after it. -/
def cutShort (late : Bool) (x : Option PageInWork) : List NoteBurst :=
  match x with
  | none => []
  | some p => cutShortFrom (p.next + late.toNat) p

/-- The Note Processor's bursts after START: the note it still reads, those that START leaves to be served,
the writes that cut the page in work short, and the check of page A when START leaves READY (R82, R158,
R166). START keeps burst requests (R176), so a request that is left without a burst of its own becomes
such a check, which takes nothing in OFF. -/
def workAfterStart (ready requested : Bool) (n : Ntp) : List NoteBurst :=
  let late := lateNote ready n
  let work := late.toList ++ n.work.filterMap (keptAtStart ready) ++ cutShort late.isSome n.inWork
  if ready || (requested && work.isEmpty) then work ++ [.stateCheck] else work

/-- The Note Processor at START (R82, R98, R100, R166). The burst it now needs first stands in the place of
the request that the Note Processor had waiting, if it had one: R158 does not say where, and this is the
model's choice, log entry 16. -/
def startNotes (ready : Bool) (s : State) : State :=
  setNoteWork (workAfterStart ready (s.pxm.requests.contains .notes) s.ntp) (s.setNtp
    { inWork := none, expectedPage := .a, horizon := none, guardPoint := none, spans := [],
      work := s.ntp.work })

/-- The Travel Counter at START (R16). -/
def Trc.start (t : Trc) : Trc :=
  { t with front := t.web, reverseDetector := .armed, encoderDetector := .armed, zone := .crawl,
           pendingChange := none, deglitchCount := 0 }

/-- The Mark Tracker at START (R38). -/
def Mkt.start (k : Mkt) : Mkt := { Mkt.reset with markActive := k.markActive }

/-- The Knife Timer at START, before its lead is formed (R74, R76). -/
def Knt.start (k : Knt) : Knt :=
  { k.untrack with lastFire := none, stallCount := 0, inhibit := false }

/-- A conveyor is PUSHING. -/
def ConveyorState.isPushing : ConveyorState → Bool
  | .pushing _ _ => true
  | .available | .out => false

/-- The stacks PUSHING. -/
def pushingCount (t : Tka) : Nat :=
  t.conveyors.c0.isPushing.toNat + t.conveyors.c1.isPushing.toNat

/-- The Takeaway Arbiter at START: pushes end and their reservations are released (R139, R140). -/
def Tka.start (t : Tka) : Tka :=
  { Tka.reset with reservations := t.reservations - pushingCount t }

/-- The Run Controller at START (R157, R158). -/
def Rnc.start (r : MachineRecord) (x : Rnc) : Rnc :=
  { x.noStops with
    faultCode := none, configIndex := machineIndex r,
    record := if machineIndex r = 0 then some r else x.record }

/-- The run state START leads to (R155). -/
def startState (r : MachineRecord) : RunState := if machineIndex r = 0 then .ready else .off

/-- An accepted START with the machine record read, valid or not (R158). -/
def startPart (r : MachineRecord) (s : State) : State :=
  let s1 := s.setTrc s.trc.start
  let s2 := startNotes (machineIndex r == 0) s1
  let s3 := s2.setRot .reset
  let s4 := s3.setMkt s3.mkt.start
  let s5 := s4.setKnt s4.knt.start
  let s6 := s5.setLnd (s5.lnd.map fun x => { x with arrivals := [] })
  let s7 := (s6.setSkc (Lanes.fill .reset)).setTka s6.tka.start
  let s8 := s7.setJbc .reset
  formLeads (setRunState (startState r) (s8.setRnc (s8.rnc.start r)))

/-- START at the end of its machine record burst: accepted in OFF and READY, and refused elsewhere (R156 to
R158). -/
def startEvent (s : State) : State :=
  match s.rnc.runState with
  | .off | .ready => startPart (readMachineRecord s.pxm.memory) (recordCommand 1#8 .accepted s)
  | .run | .drain | .halted => recordCommand 1#8 .refused s

/-- A write of START to CONTROL requests the machine record burst, in whatever run state, and START is taken
at the end of that burst, when it has its turn (R157, R170). While other bursts wait before it the write
has only requested it, and a later START takes the event (log entry 10). An access kept over a reset is
served before the burst begins (R176). -/
def commandStart (s : State) : State :=
  let s1 := requestBurst .machine (if s.pxm.burst.isSome then s else settleMemory s)
  let s2 := freeMemory s1
  if hasTurn .machine s2 then afterBurst (startEvent (popRequest s2)) else s1

/-- START (R156 to R158). -/
def execStart (s : State) : Host.Outcome State Fault Refusal := .next (commandStart s)

/-! ### STOP (R159) -/

/-- A lane's stop row: the newest row of the track that holds an entry for it (R159). -/
def stopRow (l : Lane) (track : List Row) : Option RowNum :=
  (track.reverse.find? fun r => (r.entries.get l).isSome).map fun r => r.number

/-- The lane's stop row is fixed with its entry still OPEN: the lane enters the stop pending set
(R159). -/
def stopWaits (l : Lane) (s : State) : Bool :=
  match stopRow l s.rot.track with
  | none => false
  | some n => !decidedIn l n s

/-- The lanes STOP closes at once, with the grant pass of the joinings (R129, R159). -/
def stopCloses (s : State) : State :=
  passIfJoined s (allLanes.foldl
    (fun a l => if stopWaits l s then a else shortClose .shortStop l a) s)

/-- An accepted STOP (R159). The knife tests its next cut at the change to DRAIN (R62): before the closes
and the end test, the model's choice, log entry 23. -/
def stopPart (s : State) : State :=
  let s1 := trackerToIdle (fireTest false (setRunState .drain s))
  let s2 := s1.setRnc { s1.rnc with
    stopRows := Lanes.ofFn fun l => stopRow l s1.rot.track,
    stopPending := Lanes.ofFn fun l => stopWaits l s1 }
  endTest (stopCloses s2)

/-- A write of STOP to CONTROL: accepted in RUN (R156, R159). -/
def commandStop (s : State) : State :=
  match s.rnc.runState with
  | .run => stopPart (recordCommand 2#8 .accepted s)
  | .off | .ready | .drain | .halted => recordCommand 2#8 .refused s

/-- STOP (R156, R159). -/
def execStop (s : State) : Host.Outcome State Fault Refusal := .next (commandStop s)

/-! ### ABORT and ACK_FAULT (R162, R163) -/

/-- A lane's arrival entries counted missing in list order, with the freeing test at each; the joinings'
grant pass comes later (step 1 of R162, R116). -/
def missAll (l : Lane) : List Arrival → State → State
  | [], s => s
  | a :: rest, s => missAll l rest (freeingTest (resolve l a.stackId false (setArrivals l rest s)))

/-- Step 1 of R162 for one lane. -/
def missLane (s : State) (l : Lane) : State := missAll l (s.lnd.get l).arrivals s

/-- The STOPPED tally of one row's OPEN entry for a lane, in the context its tag names (R54). -/
def tallyOpen (r : Row) (s : State) (l : Lane) : State :=
  if openIn l r then tallyReject r.tag .stopped s else s

/-- The STOPPED tallies of every OPEN lane entry (R54). -/
def tallyStopped (s : State) : State :=
  s.rot.track.foldl (fun a r => allLanes.foldl (tallyOpen r) a) s

/-- The short closes of every lane's last stack (step 3 of R162). -/
def closeAll (k : CloseKind) (s : State) : State :=
  allLanes.foldl (fun a l => shortClose k l a) s

/-- Steps 1 to 5 of R162: arrivals counted missing, OPEN entries tallied and the track emptied, the last
stacks closed and one grant pass run, the contexts ended, and the tracker IDLE. -/
def abandonRun (k : CloseKind) (s : State) : State :=
  let s1 := allLanes.foldl missLane s
  let s2 := emptyTrack (tallyStopped s1)
  let s3 := passIfJoined s (closeAll k s2)
  trackerToIdle (endContexts (clearStops s3))

/-- A write of ABORT to CONTROL: accepted in RUN and DRAIN (R156, R162). -/
def commandAbort (s : State) : State :=
  match s.rnc.runState with
  | .run | .drain => setRunState .ready (abandonRun .shortAbort (recordCommand 3#8 .accepted s))
  | .off | .ready | .halted => recordCommand 3#8 .refused s

/-- ABORT (R156, R162). -/
def execAbort (s : State) : Host.Outcome State Fault Refusal := .next (commandAbort s)

/-- The knife at ACK_FAULT: the stall count is 0 and the inhibit clear (R74, R163). -/
def Knt.acknowledge (k : Knt) : Knt := { k with stallCount := 0, inhibit := false }

/-- An accepted ACK_FAULT (R163). -/
def acknowledge (s : State) : State :=
  let s1 := abandonRun .shortFault s
  let s2 := s1.setKnt s1.knt.acknowledge
  setRunState .ready (s2.setRnc { s2.rnc with faultCode := none })

/-- A write of ACK_FAULT to CONTROL: accepted in HALTED with the standstill count at 200 (R156, R163). -/
def commandAckFault (s : State) : State :=
  match s.rnc.runState with
  | .halted =>
    if s.trc.standstill = 200 then acknowledge (recordCommand 4#8 .accepted s)
    else recordCommand 4#8 .refused s
  | .off | .ready | .run | .drain => recordCommand 4#8 .refused s

/-- ACK_FAULT (R156, R163). -/
def execAckFault (s : State) : Host.Outcome State Fault Refusal := .next (commandAckFault s)

/-! ### RESTART and power-on reset (R167) -/

/-- The part with every block reset, exchange memory as given, the input pins, the data word, a waiting
press-controller access (R176) and the queue as they stand. -/
def resetPart (m : Memory) (asserted : Bool) (s : State) : State :=
  { State.reset with
    trc := { Trc.reset with pins := s.trc.pins, reference := s.trc.pins },
    mkt := { Mkt.reset with markActive := s.mkt.markActive },
    pxm := { Pxm.reset with
      memory := m, waiting := s.pxm.waiting, dataOut := s.pxm.dataOut, resetAsserted := asserted },
    choices := s.choices, pending := s.pending }

/-- POWER_ON_RESET (R167): RESETn is asserted. Exchange memory is then undefined: log entry 4. -/
def execPowerOnReset (s : State) : Host.Outcome State Fault Refusal :=
  .next (resetPart [] true s)

/-- A burst in progress is cut off: the words it had written stay, and the rest stand as before it (R176).
How many it had written is a free value: log entry 7. -/
def cutOffBurst (s : State) : State :=
  match s.pxm.burst with
  | none => s
  | some x =>
    setMemory (restoreWords (x.words.drop (Config.cutOff s.choices)) s.pxm.memory)
      (s.setChoices (s.choices + 1))

/-- RESTART (R167): as power-on reset, but exchange memory is kept, and the last command is 5 with result
ACCEPTED. The decoder takes the pair present at its completion as its reference (R4). -/
def commandRestart (s : State) : State :=
  let s0 := cutOffBurst s
  let s1 := resetPart s0.pxm.memory s0.pxm.resetAsserted s0
  s1.setRnc { s1.rnc with lastCommand := some 5#8, result := .accepted }

/-- RESTART (R167). -/
def execRestart (s : State) : Host.Outcome State Fault Refusal := .next (commandRestart s)

/-! ### Writes to CONTROL (R156) -/

/-- A write of a word to CONTROL: its low byte is the command code, and its high byte is ignored (R156). -/
def controlWrite (w : Word) (s : State) : State :=
  match (w.extractLsb' 0 8).toNat with
  | 1 => commandStart s
  | 2 => commandStop s
  | 3 => commandAbort s
  | 4 => commandAckFault s
  | 5 => commandRestart s
  | _ => recordCommand (w.extractLsb' 0 8) .badCode s

/-- BAD_CODE (R156): a CONTROL write, recorded with result BAD_CODE when its low byte is no command code. A
word whose low byte is a command code is the write of that command (log entry 19). -/
def execBadCode (w : Word) (s : State) : Host.Outcome State Fault Refusal := .next (controlWrite w s)

/-- RESETN_RELEASE (R4): the decoder takes the pair then present as its reference without counting, and
the sampler and the free-running timers begin to run (R10, R134, R175). -/
def execResetnRelease (s : State) : Host.Outcome State Fault Refusal :=
  let s1 := s.setTrc { s.trc with reference := s.trc.pins }
  .next (s1.setPxm { s1.pxm with resetAsserted := false })

end Sys2Proof.Machine
end

