-- ==== Sys2Proof/Machine/Takeaway.lean ====
section
/-! DEFINITION. The ends of a push at the Takeaway Arbiter (R132, R136, R137): delivery at CLEAR and
removal at the conveyor's timeout. A departure may end DRAIN (R161). -/

namespace Sys2Proof.Machine

/-- The pushed stack's STACK record is handed over, in place of its reservation (R136, R137, R177). -/
def handOver (l : Lane) (notCleared : Bool) (s : State) : State :=
  match (s.skc.get l).line with
  | x :: _ => queueRecord (.stack l x notCleared) s
  | [] => s

/-- The delivery of the stack of the lane that a conveyor is PUSHING, in the order of R136. PUSH of the
lane is released with the conveyor's state. -/
def deliver (c : Conveyor) (l : Lane) (s : State) : State :=
  let s1 := departFront l (handOver l false s)
  endTest (grantPass (setConveyor c .available s1))

/-- The removal of the stack of the lane that a conveyor is PUSHING, in the order of R137. -/
def remove (c : Conveyor) (l : Lane) (s : State) : State :=
  let s1 := departFront l (handOver l true s)
  endTest (raiseTimeout c s.trc.front (setConveyor c .out s1))

/-- DELIVERY: a rising edge of CLEAR of a conveyor; ignored unless it is PUSHING (R132, R136). -/
def execDelivery (c : Conveyor) (s : State) : Host.Outcome State Fault Refusal :=
  match s.tka.conveyors.get c with
  | .pushing l _ => .next (deliver c l s)
  | .available | .out => .next s

/-- REMOVAL: the conveyor timer of a conveyor expires; it runs while the conveyor is PUSHING, and expires
on nothing otherwise (R137). -/
def execRemoval (c : Conveyor) (s : State) : Host.Outcome State Fault Refusal :=
  match s.tka.conveyors.get c with
  | .pushing l _ => .next (remove c l s)
  | .available | .out => .next s

end Sys2Proof.Machine
end

