-- ==== Sys2Proof/Machine/Dispatch.lean ====
section
/-! DEFINITION. Which meaning each command has: one arm per constructor of `Instr`, each one direct call. -/

namespace Sys2Proof.Machine

/-- The effect of a command on everything but the queue of waiting commands. -/
def exec (i : Instr) (s : State) : Host.Outcome State Fault Refusal :=
  match i with
  | .powerOnReset => Sys2Proof.Machine.execPowerOnReset s
  | .restart => Sys2Proof.Machine.execRestart s
  | .start => Sys2Proof.Machine.execStart s
  | .stop => Sys2Proof.Machine.execStop s
  | .abort => Sys2Proof.Machine.execAbort s
  | .ackFault => Sys2Proof.Machine.execAckFault s
  | .badCode w => Sys2Proof.Machine.execBadCode w s
  | .attentionWrite w => Sys2Proof.Machine.execAttentionWrite w s
  | .attnMaskWrite w => Sys2Proof.Machine.execAttnMaskWrite w s
  | .registerWriteIgnored r w => Sys2Proof.Machine.execRegisterWriteIgnored r w s
  | .memoryRead a => Sys2Proof.Machine.execMemoryRead a s
  | .memoryWrite a w => Sys2Proof.Machine.execMemoryWrite a w s
  | .notePagePosting p w => Sys2Proof.Machine.execNotePagePosting p w s
  | .halfFreeing h w => Sys2Proof.Machine.execHalfFreeing h w s
  | .forwardCount => Sys2Proof.Machine.execForwardCount s
  | .reverseCount => Sys2Proof.Machine.execReverseCount s
  | .illegalTransition => Sys2Proof.Machine.execIllegalTransition s
  | .speedSample => Sys2Proof.Machine.execSpeedSample s
  | .markEdge => Sys2Proof.Machine.execMarkEdge s
  | .markFall => Sys2Proof.Machine.execMarkFall s
  | .markKept => Sys2Proof.Machine.execMarkKept s
  | .coast => Sys2Proof.Machine.execCoast s
  | .reacquirePointReached => Sys2Proof.Machine.execReacquirePointReached s
  | .splice => Sys2Proof.Machine.execSplice s
  | .fire => Sys2Proof.Machine.execFire s
  | .knifeFireReassert => Sys2Proof.Machine.execKnifeFireReassert s
  | .home => Sys2Proof.Machine.execHome s
  | .stall => Sys2Proof.Machine.execStall s
  | .pageTaking => Sys2Proof.Machine.execPageTaking s
  | .spanNote => Sys2Proof.Machine.execSpanNote s
  | .rowNote => Sys2Proof.Machine.execRowNote s
  | .laneNote => Sys2Proof.Machine.execLaneNote s
  | .conveyorNote => Sys2Proof.Machine.execConveyorNote s
  | .jobNote => Sys2Proof.Machine.execJobNote s
  | .badNote => Sys2Proof.Machine.execBadNote s
  | .fateWrite => Sys2Proof.Machine.execFateWrite s
  | .pageFinishing => Sys2Proof.Machine.execPageFinishing s
  | .pageStateCheck => Sys2Proof.Machine.execPageStateCheck s
  | .decision l => Sys2Proof.Machine.execDecision l s
  | .passEnd l => Sys2Proof.Machine.execPassEnd l s
  | .windowPassed l => Sys2Proof.Machine.execWindowPassed l s
  | .eye l => Sys2Proof.Machine.execEye l s
  | .delivery c => Sys2Proof.Machine.execDelivery c s
  | .removal c => Sys2Proof.Machine.execRemoval c s
  | .agingTick => Sys2Proof.Machine.execAgingTick s
  | .reportWrite => Sys2Proof.Machine.execReportWrite s
  | .ageTimerExpiry => Sys2Proof.Machine.execAgeTimerExpiry s
  | .refreshTimerExpiry => Sys2Proof.Machine.execRefreshTimerExpiry s
  | .liveStatusRefresh => Sys2Proof.Machine.execLiveStatusRefresh s
  | .resetnRelease => Sys2Proof.Machine.execResetnRelease s

end Sys2Proof.Machine
end

