-- ==== Sys2Proof/Machine/Step.lean ====
section
/-! DEFINITION. One step: the command at the front of the queue is taken and run on the state with the
queue's rest. Commands run one after another, each whole (95_what_each_step_holds.md). -/

namespace Sys2Proof.Machine

/-- One step of the part. With no command waiting the block idles, and CLK runs on: a burst that has the
memory ends, the access that waited for it is served and a half state access whose turn has come begins
(R170); nothing else is driven by a clock that is not a command of the table (log entries 5 to 7). -/
def step (s : State) : Host.Outcome State Fault Refusal :=
  match s.pending with
  | [] => .next (settleMemory s)
  | c :: rest => exec c (s.setPending rest)

/-- The state with the command that a word spells by the table put at the front of its queue; the table
gives no row bits, so no word spells one (log entry 8). -/
def State.withFetchWord (s : State) (nbits w : Nat) : State :=
  match decodeTableWord nbits w with
  | some c => s.setPending (c :: s.pending)
  | none => s

end Sys2Proof.Machine
end

