-- ==== Sys2Proof/Safety.lean ====
section
/-! DEFINITION. What counts as a safe state of the part, in the terms the statements use: the invariants
that every step keeps, each with the rules it comes from; and the part of the state that the reactions
of a run (rows, cuts, decisions, arrivals, takeaways, faults and the ends of jobs) leave alone. -/

namespace Sys2Proof.Machine

/-! ### Frames -/

/-- What no reaction of the run changes: the Travel Counter, the waiting commands, exchange memory and
what the press controller set or read at the port, the page work and the horizon, the leads, the hold
flags, the level of MARK, the machine record in use and what the last command left, and the report
half being filled. -/
structure ReactionFrame (s t : State) : Prop where
  trc : t.trc = s.trc
  pending : t.pending = s.pending
  memory : t.pxm.memory = s.pxm.memory
  burst : t.pxm.burst = s.pxm.burst
  waiting : t.pxm.waiting = s.pxm.waiting
  mask : t.pxm.mask = s.pxm.mask
  tearLatch : t.pxm.tearLatch = s.pxm.tearLatch
  dataOut : t.pxm.dataOut = s.pxm.dataOut
  resetAsserted : t.pxm.resetAsserted = s.pxm.resetAsserted
  inWork : t.ntp.inWork = s.ntp.inWork
  expectedPage : t.ntp.expectedPage = s.ntp.expectedPage
  horizon : t.ntp.horizon = s.ntp.horizon
  work : t.ntp.work = s.ntp.work
  lead : t.knt.lead = s.knt.lead
  flapLead : ∀ l, (t.lnd.get l).flapLead = (s.lnd.get l).flapLead
  hold : ∀ l, (t.skc.get l).hold = (s.skc.get l).hold
  markActive : t.mkt.markActive = s.mkt.markActive
  record : t.rnc.record = s.rnc.record
  configIndex : t.rnc.configIndex = s.rnc.configIndex
  lastCommand : t.rnc.lastCommand = s.rnc.lastCommand
  result : t.rnc.result = s.rnc.result
  writer : t.rpw.writer = s.rpw.writer
  fillIndex : t.rpw.fillIndex = s.rpw.fillIndex
  ageTimer : t.rpw.ageTimer = s.rpw.ageTimer
  halfWork : t.rpw.halfWork = s.rpw.halfWork

/-- Every byte of exchange memory outside the `n` bytes from `a` on reads as before. -/
def SameOutside (a n : Nat) (m m' : Memory) : Prop :=
  ∀ k, k < a ∨ a + n ≤ k → Memory.readByte m' k = Memory.readByte m k

/-! ### What resets and START leave (R17, R38, R53, R76, R100, R117, R140, R154, R167, R176, R182) -/

/-- The value the manual gives every item that power-on reset and RESTART both set: the first column of
the reset table of each chapter. -/
structure ResetValues (t : State) : Prop where
  reference : t.trc.reference = t.trc.pins
  counts : t.trc.web = 0#32 ∧ t.trc.front = 0#32 ∧ t.trc.previousSample = 0#32
  detectors : t.trc.reverseDetector = .armed ∧ t.trc.encoderDetector = .armed
  speed : t.trc.speed = 0 ∧ t.trc.standstill = 0
  zone : t.trc.zone = .crawl ∧ t.trc.pendingChange = none ∧ t.trc.deglitchCount = 0
  tracker : t.mkt.state = .idle ∧ t.mkt.deglitch = none ∧ t.mkt.newest = none ∧
    t.mkt.expected = none ∧ t.mkt.stretch = 65536
  tallies : t.mkt.coastCount = 0 ∧ t.mkt.strayCount = 0 ∧ t.mkt.glitchCount = 0
  splice : t.mkt.reacquirePoint = none ∧ t.mkt.exemption = none
  track : t.rot.track = [] ∧ t.rot.lastNumber = 0#32 ∧ t.rot.overflowDetector = .armed
  knife : t.knt.cycle = none ∧ t.knt.output = .released ∧ t.knt.lead = 0 ∧
    t.knt.lastFire = none ∧ t.knt.stallCount = 0 ∧ t.knt.inhibit = false
  notes : t.ntp.inWork = none ∧ t.ntp.expectedPage = .a ∧ t.ntp.horizon = none ∧
    t.ntp.guardPoint = none ∧ t.ntp.spans = []
  deciders : ∀ l, (t.lnd.get l).flapLead = 0 ∧ (t.lnd.get l).flap = .reject ∧
    (t.lnd.get l).arrivals = []
  lines : ∀ l, (t.skc.get l).line = [] ∧ (t.skc.get l).nextId = 1 ∧ (t.skc.get l).hold = false ∧
    (t.skc.get l).targetCurrent = none ∧ (t.skc.get l).targetPrevious = none ∧
    (t.skc.get l).shelfLimit = 0
  takeaway : ∀ c, t.tka.conveyors.get c = .available ∧
    ∀ l, (t.tka.waiting.get c).get l = none
  reservations : t.tka.reservations = 0
  jobs : t.jbc.current = none ∧ t.jbc.previous = none ∧ t.jbc.closePending = Lanes.fill false
  runState : t.rnc.runState = .off ∧ t.rnc.faultCode = none ∧ t.rnc.configIndex = 0 ∧
    t.rnc.record = none ∧ halt t = true
  stops : t.rnc.stopRows = Lanes.fill none ∧ t.rnc.stopPending = Lanes.fill false
  port : t.pxm.requests = [] ∧ t.pxm.burst = none ∧ wait t = false ∧ t.pxm.tearLatch = none ∧
    attentionWord t.pxm.attention = 0#16 ∧ attentionWord t.pxm.mask = 0#16 ∧ irq t = false
  work : t.ntp.work = [] ∧ t.rpw.halfWork = []
  reports : t.rpw.queue = [] ∧ t.rpw.writer = .waiting .a ∧ t.rpw.fillIndex = 0 ∧
    t.rpw.ageTimer = none ∧ t.rpw.droppedCount = 0 ∧ t.rpw.dropPending = false

/-- What every accepted START leaves, its machine record valid or not: the START column of the table of
each chapter, with what is kept. Of the burst requests the one of START itself has been served, and the
Note Processor's is kept, or joins when it has writes to make. -/
structure StartValues (s t : State) : Prop where
  front : t.trc.web = s.trc.web ∧ t.trc.front = s.trc.web
  detectors : t.trc.reverseDetector = .armed ∧ t.trc.encoderDetector = .armed
  zone : t.trc.zone = .crawl ∧ t.trc.pendingChange = none ∧ t.trc.deglitchCount = 0
  travelKept : t.trc.reference = s.trc.reference ∧ t.trc.previousSample = s.trc.previousSample ∧
    t.trc.speed = s.trc.speed ∧ t.trc.standstill = s.trc.standstill
  tracker : t.mkt.state = .idle ∧ t.mkt.deglitch = none ∧ t.mkt.newest = none ∧
    t.mkt.expected = none ∧ t.mkt.stretch = 65536
  tallies : t.mkt.coastCount = 0 ∧ t.mkt.strayCount = 0 ∧ t.mkt.glitchCount = 0
  splice : t.mkt.reacquirePoint = none ∧ t.mkt.exemption = none
  track : t.rot.track = [] ∧ t.rot.lastNumber = 0#32 ∧ t.rot.overflowDetector = .armed
  knife : t.knt.lastFire = none ∧ t.knt.stallCount = 0 ∧ t.knt.inhibit = false
  stroke : t.knt.output = s.knt.output ∧
    t.knt.cycle.map (fun c => (c.row, c.fireCount, c.lateness, c.bad, c.timer)) =
      s.knt.cycle.map (fun c => (c.row, c.fireCount, c.lateness, c.bad, c.timer))
  notes : t.ntp.inWork = none ∧ t.ntp.expectedPage = .a ∧ t.ntp.horizon = none ∧
    t.ntp.guardPoint = none ∧ t.ntp.spans = []
  deciders : ∀ l, (t.lnd.get l).flap = .reject ∧ (t.lnd.get l).arrivals = []
  lines : ∀ l, (t.skc.get l).line = [] ∧ (t.skc.get l).nextId = 1 ∧ (t.skc.get l).hold = false ∧
    (t.skc.get l).targetCurrent = none ∧ (t.skc.get l).targetPrevious = none ∧
    (t.skc.get l).shelfLimit = 0
  takeaway : ∀ c, t.tka.conveyors.get c = .available ∧
    ∀ l, (t.tka.waiting.get c).get l = none
  reservations : t.tka.reservations = s.tka.reservations - pushingCount s.tka
  jobs : t.jbc.current = none ∧ t.jbc.previous = none ∧ t.jbc.closePending = Lanes.fill false
  faultCode : t.rnc.faultCode = none
  stops : t.rnc.stopRows = Lanes.fill none ∧ t.rnc.stopPending = Lanes.fill false
  reports : t.rpw = s.rpw
  port : t.pxm.memory = s.pxm.memory ∧ t.pxm.mask = s.pxm.mask ∧
    t.pxm.tearLatch = s.pxm.tearLatch
  requests : t.pxm.requests =
    if BurstSource.notes ∈ s.pxm.requests.tail ∨ t.ntp.work = [] then s.pxm.requests.tail
    else s.pxm.requests.tail ++ [.notes]

/-- The burst of the note that an accepted START leaves to be read, with a valid machine record: the note
read or the job copy of a page in work that the Note Processor has requested (R166; log entry 16). -/
def lateBurst (ready : Bool) (p : PageInWork) (first : Option NoteBurst) : List NoteBurst :=
  match ready, first with
  | true, some .noteRead => [.lateRead p.page p.next]
  | true, some (.jobCopy slot) => [.lateCopy p.page p.next slot]
  | _, _ => []

/-- The Note Processor's bursts after START: the note that is still read, and the fate writes and DONE
writes already due, come first; a page in work is cut short, with UNAPPLIED into each other of its notes
not yet applied, in order, and then DONE (R82); and page A is checked when START leaves READY, and, so
that a kept request has a burst, when the Note Processor had one requested and nothing else is left (log
entry 16). -/
structure StartNotes (s t : State) : Prop where
  cut : ∀ p, s.ntp.inWork = some p → ∃ ready late unapplied check,
    (ready = true ↔ t.rnc.runState = .ready) ∧
    t.ntp.work = late ++ s.ntp.work.filterMap (keptAtStart ready) ++ unapplied ++
      [.cutShortDone p.page] ++ check ∧
    late = lateBurst ready p s.ntp.work.head? ∧
    unapplied.length = p.count - (p.next + late.length) ∧
    (∀ i, i < p.count - (p.next + late.length) →
      unapplied[i]? = some (.fateWrite p.page (p.next + late.length + i) .unapplied 0)) ∧
    check = if ready = true then [.stateCheck] else []
  none : s.ntp.inWork = none → ∃ ready kept check,
    (ready = true ↔ t.rnc.runState = .ready) ∧
    t.ntp.work = kept ++ check ∧ kept = s.ntp.work.filterMap (keptAtStart ready) ∧
    check = if ready = true ∨ (BurstSource.notes ∈ s.pxm.requests ∧ kept = [])
      then [.stateCheck] else []

/-! ### Exchange memory and bursts (R79, R80, R168, R170, R179) -/

/-- The memory is idle: no burst has it, no press-controller access waits for it and no half state access is
due. -/
structure MemoryIdle (s : State) : Prop where
  burst : s.pxm.burst = none
  waiting : s.pxm.waiting = []
  halfWork : s.rpw.halfWork = []

/-- A burst by which the page work goes on from one note or page to the next. -/
def NoteBurst.isPageStep : NoteBurst → Bool
  | .pageTaking | .noteRead | .jobCopy _ | .finishing => true
  | .lateRead _ _ | .lateCopy _ _ _ | .fateWrite _ _ _ _ | .cutShortDone _ | .stateCheck => false

/-- The note of a page that a burst is for, where the burst names it. -/
def NoteBurst.index : NoteBurst → Option Nat
  | .lateRead _ i | .lateCopy _ i _ | .fateWrite _ i _ _ => some i
  | .pageTaking | .noteRead | .jobCopy _ | .finishing | .cutShortDone _ | .stateCheck => none

/-- The page work in order: every fate write and every read that START left is of a note of a page; with no
page in work at most a taking is waiting; with a page in work its next note is one of its at most 48, and
at most one burst that moves the page on is waiting, a read only while a note is left. -/
def PageWork (n : Ntp) : Prop :=
  (∀ b ∈ n.work, ∀ i ∈ b.index, i < 48) ∧
  n.work.countP NoteBurst.isPageStep ≤ 1 ∧
  match n.inWork with
  | none => ∀ b ∈ n.work, b.isPageStep = true → b = .pageTaking
  | some p => p.next ≤ p.count ∧ p.count ≤ 48 ∧
      ∀ b ∈ n.work, b.isPageStep = true → b ≠ .pageTaking ∧ (b ≠ .finishing → p.next < p.count)

/-- The half state accesses due are those of one close or of one taking, and the writer's state belongs to
them: it is FILLING, and its age timer is stopped (R178, R180). -/
def HalfWork (x : Rpw) : Prop :=
  match x.halfWork with
  | [] => True
  | [.writeClosed h, .look o] => x.writer = .filling h ∧ o = otherHalf h ∧ x.ageTimer = none
  | [.look o] => x.writer = .filling (otherHalf o) ∧ x.ageTimer = none
  | [.writeFilling h] => x.writer = .filling h ∧ x.fillIndex = 0 ∧ x.ageTimer = none
  | _ => False

/-- Exchange memory has its canonical form, the page work and the half state accesses are in order, a half
being filled has a slot left until it is closed, the age timer runs only in a half that holds a record,
each source of bursts has at most one requested or running, with one requested exactly while it needs one
and its last has ended, a half state access whose turn has come has begun, and the burst in progress
writes words of exchange memory. -/
structure ExchangeInv (s : State) : Prop where
  memory : s.pxm.memory.wf = true
  pageWork : PageWork s.ntp
  halfWork : HalfWork s.rpw
  slot : ∀ h, s.rpw.writer = .filling h →
    s.rpw.fillIndex < 48 ∨ (s.rpw.fillIndex = 48 ∧ s.rpw.halfWork ≠ [])
  aged : s.rpw.ageTimer.isSome = true →
    (∃ h, s.rpw.writer = .filling h) ∧ 0 < s.rpw.fillIndex
  once : s.pxm.requests.Nodup
  single : ∀ b, s.pxm.burst = some b → b.source ∉ s.pxm.requests ∧ b.source ≠ .machine
  notes : (∃ b, s.pxm.burst = some b ∧ b.source = .notes) ∨
    (.notes ∈ s.pxm.requests ↔ s.ntp.work ≠ [])
  reports : (∃ b, s.pxm.burst = some b ∧ b.source = .reports) ∨
    (.reports ∈ s.pxm.requests ↔ s.rpw.needsBurst = true)
  begun : s.pxm.burst = none → s.rpw.halfWork ≠ [] → s.pxm.requests.head? ≠ some .reports
  burst : ∀ b, s.pxm.burst = some b → ∀ x ∈ b.words, x.address + 2 ≤ 8192

/-! ### The track (R39, R50) -/

/-- The row numbers of the track, oldest first. -/
def trackNumbers (s : State) : List RowNum := s.rot.track.map fun r => r.number

/-- The track holds at most 64 rows, each number the successor of the one before it, none of them 0, and
the newest is the last issued number. -/
structure TrackInv (s : State) : Prop where
  capacity : s.rot.track.length ≤ 64
  chain : List.IsChain (fun a b => b = rowSucc a) (trackNumbers s)
  newest : ∀ n ∈ (trackNumbers s).getLast?, n = s.rot.lastNumber
  nonzero : ∀ n ∈ trackNumbers s, n ≠ 0#32

/-! ### The knife (R63, R65, R71 to R73) -/

/-- KNIFE_FIRE is released exactly while no stroke is in flight, the stall count is at most 3, an
inhibited knife has no stroke in flight in a part that is HALTED, and the one row that is FIRING is
the one the cycle record names, with its fire count. -/
structure KnifeInv (s : State) : Prop where
  output : s.knt.cycle = none ↔ s.knt.output = .released
  stalls : s.knt.stallCount ≤ 3
  inhibited : s.knt.inhibit = true → s.knt.cycle = none ∧ s.rnc.runState = .halted
  firing : ∀ r ∈ s.rot.track, ∀ f, r.trail = .firing f →
    ∃ c, s.knt.cycle = some c ∧ c.row = r.number ∧ c.fireCount = f ∧ c.tracked = true

/-! ### The run state (R22, R73, R111, R146, R155, R159, R184) -/

/-- In OFF and READY nothing of a run is left: no row, no context, every flap at REJECT. -/
def AtRest (s : State) : Prop :=
  s.rot.track = [] ∧ s.jbc.current = none ∧ s.jbc.previous = none ∧
    ∀ l, (s.lnd.get l).flap = .reject

/-- The items the run state governs agree with it. -/
structure RunInv (s : State) : Prop where
  faultCode : s.rnc.faultCode.isSome = true ↔ s.rnc.runState = .halted
  configIndex : s.rnc.configIndex ≠ 0 → s.rnc.runState = .off
  indexRange : s.rnc.configIndex ≤ 31
  rest : s.rnc.runState = .off ∨ s.rnc.runState = .ready → AtRest s
  idle : s.rnc.runState = .off ∨ s.rnc.runState = .ready ∨ s.rnc.runState = .drain →
    s.mkt.state = .idle
  record : s.rnc.runState ≠ .off → s.rnc.record.isSome = true
  job : s.rnc.runState = .run ∨ s.rnc.runState = .drain ∨ s.rnc.runState = .halted →
    s.jbc.current.isSome = true
  stops : s.rnc.runState ≠ .drain → s.rnc.stopPending = Lanes.fill false ∧
    s.rnc.stopRows = Lanes.fill none

/-! ### Ranges and capacities -/

/-- Every tally of a held context is at most 65535 (R152). -/
def TalliesInRange (x : Option JobContext) : Prop :=
  ∀ c ∈ x, ∀ r, c.tallies.get r ≤ 65535

/-- The shelf_max of every lane of a held context is at most 9999 (R122). -/
def ShelvesInRange (x : Option JobContext) : Prop :=
  ∀ c ∈ x, ∀ l, (c.job.lane.get l).shelfMax ≤ 9999

/-- A lane target that is held is from 2 to 9999 (chapter 7, state table). -/
def TargetInRange (x : Option Nat) : Prop := ∀ n ∈ x, 2 ≤ n ∧ n ≤ 9999

/-- The track, the pending span list, the arrival lists, the stack lines and the records of the report
queue that are not STACK records are within their capacities; and v, the standstill and deglitch counts,
the stretch estimate, the leads, the coast, stray, glitch and dropped counts, the tallies, the stacks'
extra and suspect counts, the stack ids to come, the lane targets, the shelf totals and limits and the
ages are within the ranges of the state tables, the machine record in use being one that passes its
checks. The other capacities and ranges stand in the other invariants: the STACK records and the
reservations in TakeawayInv, the fill index in ExchangeInv, the stall count in KnifeInv. -/
structure BoundsInv (s : State) : Prop where
  speed : s.trc.speed ≤ 4095
  standstill : s.trc.standstill ≤ 200
  zoneDeglitch : s.trc.deglitchCount ≤ 7
  record : ∀ m, s.rnc.record = some m → machineIndex m = 0
  leads : s.knt.lead ≤ 16383 ∧ ∀ l, (s.lnd.get l).flapLead ≤ 16383
  stretch : 64225 ≤ s.mkt.stretch ∧ s.mkt.stretch ≤ 66847
  coastCount : s.mkt.coastCount ≤ 255
  strayCount : s.mkt.strayCount ≤ 65535
  glitchCount : s.mkt.glitchCount ≤ 65535
  track : s.rot.track.length ≤ 64
  spans : s.ntp.spans.length ≤ 32
  arrivals : ∀ l, (s.lnd.get l).arrivals.length ≤ 16
  lines : ∀ l, (s.skc.get l).line.length ≤ 3
  extras : ∀ l, ∀ x ∈ (s.skc.get l).line, x.extra ≤ 65535 ∧ x.suspect ≤ 65535
  nextId : ∀ l, 1 ≤ (s.skc.get l).nextId ∧ (s.skc.get l).nextId ≤ 65535
  targets : ∀ l, TargetInRange (s.skc.get l).targetCurrent ∧
    TargetInRange (s.skc.get l).targetPrevious
  shelves : ∀ l, shelfTotal (s.skc.get l).line ≤ (s.skc.get l).shelfLimit ∧
    (s.skc.get l).shelfLimit ≤ 9999
  shelfGoals : ShelvesInRange s.jbc.current ∧ ShelvesInRange s.jbc.previous
  ages : ∀ c l, ∀ a ∈ (s.tka.waiting.get c).get l, a ≤ 7
  otherRecords : otherRecords s.rpw.queue ≤ 4
  dropped : s.rpw.droppedCount ≤ 65535
  currentTallies : TalliesInRange s.jbc.current
  previousTallies : TalliesInRange s.jbc.previous

/-! ### Takeaway (R129 to R132, R135) -/

/-- The FRONT stack of a lane. -/
def frontOf (s : State) (l : Lane) : Option Stack := (s.skc.get l).line.head?

/-- The reservation count is the number of stacks PUSHING plus the number of STACK records in the report
queue, and never passes 12; a conveyor that is PUSHING a lane pushes that lane's FRONT; and a lane waits
on its own conveyor only, with its FRONT CLOSED. -/
structure ArbiterInv (s : State) : Prop where
  count : s.tka.reservations = pushingCount s.tka + stackRecords s.rpw.queue
  atMost : s.tka.reservations ≤ 12
  pushing : ∀ c l n, s.tka.conveyors.get c = .pushing l n →
    ∃ x, frontOf s l = some x ∧ x.state = .pushing ∧ x.conveyor = some c
  waiting : ∀ c l, ((s.tka.waiting.get c).get l).isSome = true →
    (∃ x, frontOf s l = some x ∧ x.state = .closed) ∧
    ∃ m, s.rnc.record = some m ∧ m.conveyor l = c

/-- What the arbiter holds is in order, and every lane whose FRONT is CLOSED waits: it stands in the waiting
set of its conveyor (R129, R131). -/
structure TakeawayInv (s : State) : Prop extends ArbiterInv s where
  joined : ∀ m l x, s.rnc.record = some m → frontOf s l = some x → x.state = .closed →
    ((s.tka.waiting.get (m.conveyor l)).get l).isSome = true

/-! ### Stack lines (R119 to R121, R125) -/

/-- A stack accounts for every label allotted to it; one that is CLOSED or PUSHING awaits none, and one
that is COMPLETING awaits at least one. -/
def StackAccounts (s : State) (l : Lane) (x : Stack) : Prop :=
  x.allotted = x.arrived + x.missing + outstanding l x.id s ∧
  (x.state = .closed ∨ x.state = .pushing → outstanding l x.id s = 0) ∧
  (x.state = .completing → outstanding l x.id s ≠ 0)

/-- In a lane's line every stack accounts for its labels, no two stacks have the same id, only the last
one can be FILLING, and every label still expected at the eye belongs to a stack of the line. -/
structure LineInv (s : State) (l : Lane) : Prop where
  capacity : (s.skc.get l).line.length ≤ 3
  accounts : ∀ x ∈ (s.skc.get l).line, StackAccounts s l x
  ids : List.IsChain (fun a b => b = nextStackId a) ((s.skc.get l).line.map fun x => x.id)
  newest : ∀ x ∈ (s.skc.get l).line.getLast?, nextStackId x.id = (s.skc.get l).nextId
  idRange : ∀ x ∈ (s.skc.get l).line, 1 ≤ x.id ∧ x.id ≤ 65535
  filling : ∀ x ∈ (s.skc.get l).line.dropLast, x.state ≠ .filling
  expected : ∀ a ∈ (s.lnd.get l).arrivals, ∃ x ∈ (s.skc.get l).line, x.id = a.stackId

/-- The arbiter and every lane's line are in order, and stack ids run in their range (R120). -/
structure StackInv (s : State) : Prop where
  takeaway : ArbiterInv s
  lines : ∀ l, LineInv s l
  nextId : ∀ l, 1 ≤ (s.skc.get l).nextId ∧ (s.skc.get l).nextId ≤ 65535

end Sys2Proof.Machine
end

