-- ==== Sys2Proof/WellFormed.lean ====
section
/-! DEFINITION. Which commands are spelled by a bus access of their own row. Two rows share their bus
access with other rows: BAD_CODE is a CONTROL write whose low byte is no command code (R156), and
MEMORY_WRITE is a write of a word that is not a watched word (R169). -/

namespace Sys2Proof

/-- The low byte of a CONTROL write is a command code: 1 to 5 (R156). -/
def isCommandCode (w : Word) : Bool :=
  let c := (w.extractLsb' 0 8).toNat
  decide (1 ≤ c) && decide (c ≤ 5)

/-- The port word address is that of a watched word: the state word of note page A or B, or of report
half A or B (R169), at bytes 0x0400, 0x0800, 0x1000 and 0x1800 (R168). -/
def isWatchedWord (a : BitVec 12) : Bool :=
  a == 0x200#12 || a == 0x400#12 || a == 0x800#12 || a == 0xC00#12

/-- The command's operands spell the access of its own row. -/
def Instr.wellFormed : Instr → Bool
  | .badCode w => !isCommandCode w
  | .memoryWrite a _ => !isWatchedWord a
  | .powerOnReset | .restart | .start | .stop | .abort | .ackFault
  | .attentionWrite _ | .attnMaskWrite _ | .registerWriteIgnored _ _
  | .memoryRead _ | .notePagePosting _ _ | .halfFreeing _ _
  | .forwardCount | .reverseCount | .illegalTransition | .speedSample
  | .markEdge | .markFall | .markKept | .coast | .reacquirePointReached | .splice
  | .fire | .knifeFireReassert | .home | .stall
  | .pageTaking | .spanNote | .rowNote | .laneNote | .conveyorNote | .jobNote | .badNote
  | .fateWrite | .pageFinishing | .pageStateCheck
  | .decision _ | .passEnd _ | .windowPassed _ | .eye _
  | .delivery _ | .removal _ | .agingTick
  | .reportWrite | .ageTimerExpiry | .refreshTimerExpiry | .liveStatusRefresh
  | .resetnRelease => true

end Sys2Proof
end

