-- ==== Sys2Proof/Certificates/Slice0/Obligations.lean ====
section
/-! DEFINITION. The statements for the provers. They follow the chapters of spec/: run control and the
port, travel and speed, registration and the track, the knife, notes and the horizon, decisions, flaps
and eyes, takeaway, reports and live status; then the invariants that every step keeps. Each names the
commands it is about, gives the state they leave, and says what else they leave alone. -/

open Sys2Proof Sys2Proof.Machine

/-- Exchange memory stands free for a press-controller access: no burst is in progress, no access waits,
and no half state access has its turn. -/
def MemoryFree (s : State) : Prop :=
  memoryHeld s = false ∧ s.pxm.waiting = [] ∧
    (s.rpw.halfWork = [] ∨ s.pxm.requests.head? ≠ some .reports)

/-- A burst that the source asks for now can begin now: its request stands first, or nothing is requested,
and the memory is idle. -/
def MayBegin (b : BurstSource) (s : State) : Prop :=
  (s.pxm.requests = [] ∨ s.pxm.requests.head? = some b) ∧ MemoryIdle s

/-- One step takes the command at the front of the queue and runs it on the state with the queue's rest.
With no command waiting the part idles: a burst that has the memory ends and the access that waited for
it is served, a burst that only reads goes on until its own command, and nothing changes in a memory
that stands free. This second clause is the model's choice (log entries 5 and 7). -/
def Obligations.StepRunsFrontCommand : Prop :=
  (∀ (c : Instr) (rest : List Instr) (s : State),
    step (s.setPending (c :: rest)) = exec c (s.setPending rest)) ∧
  ∀ s : State, s.pending = [] → step s = .next (settleMemory s) ∧
    (MemoryFree s → settleMemory s = s) ∧ (readBurst s = true → settleMemory s = s) ∧
    (readBurst s = false → (settleMemory s).pxm.waiting = []) ∧
    (s.rpw.halfWork = [] → s.pxm.waiting = [] → (settleMemory s).pxm.burst = none ∧
      (settleMemory s).pxm.memory = s.pxm.memory)

/-- Power-on reset and RESTART leave every item of the reset tables at its value; RESTART keeps exchange
memory, where a burst it cuts off leaves the words it had written and no more of its words, and is
recorded as the last command, ACCEPTED, with ATTENTION.CMD clear. Through both an access that WAIT held is
still to be served. Power-on reset leaves RESETn asserted, and RESTART leaves it as it was. The state the
model starts in has the same values. That the levels of the pins and of MARK stand through a reset is the
model's choice (log entry 3). -/
def Obligations.ResetsLeaveTheTabledValues : Prop :=
  ResetValues State.reset ∧
  (∀ s : State, ∃ t, exec .powerOnReset s = .next t ∧ ResetValues t ∧
    t.rnc.lastCommand = none ∧ t.rnc.result = .none ∧ t.pxm.waiting = s.pxm.waiting ∧
    t.trc.pins = s.trc.pins ∧ t.mkt.markActive = s.mkt.markActive ∧ t.pxm.resetAsserted = true) ∧
  ∀ s : State, ∃ t, exec .restart s = .next t ∧ ResetValues t ∧
    (s.pxm.burst = none → t.pxm.memory = s.pxm.memory) ∧
    (∀ b, s.pxm.burst = some b → ∃ k, k ≤ b.words.length ∧
      t.pxm.memory = restoreWords (b.words.drop k) s.pxm.memory) ∧
    t.rnc.lastCommand = some 5#8 ∧ t.rnc.result = .accepted ∧ t.pxm.waiting = s.pxm.waiting ∧
    t.trc.pins = s.trc.pins ∧ t.mkt.markActive = s.mkt.markActive ∧
    t.pxm.resetAsserted = s.pxm.resetAsserted

/-- RESETN_RELEASE takes the channel pair then present as the decoder's reference without counting, and
changes nothing else but that RESETn is released. While RESETn is asserted a change of the channels moves
the pins alone, and speed samples, aging ticks and refresh timer expiries change nothing: the manual runs
them from the release onward; that other commands act as usual is the model's choice (log entry 17). -/
def Obligations.ReleaseTakesThePresentPair : Prop :=
  (∀ s : State, exec .resetnRelease s =
    .next { s with trc := { s.trc with reference := s.trc.pins },
                   pxm := { s.pxm with resetAsserted := false } }) ∧
  ∀ s : State, s.pxm.resetAsserted = true →
    (∀ c ∈ [Instr.forwardCount, .reverseCount, .illegalTransition], ∃ p, p ≠ s.trc.pins ∧
      exec c s = .next { s with trc := { s.trc with pins := p } }) ∧
    ∀ c ∈ [Instr.speedSample, .agingTick, .refreshTimerExpiry], exec c s = .next s

/-- The state a write to CONTROL leaves that changes nothing else: its low byte is the last command, the
result stands, and ATTENTION.CMD is set. -/
def commandOnly (code : Byte) (r : CommandResult) (s : State) : State :=
  { s with rnc := { s.rnc with lastCommand := some code, result := r },
           pxm := { s.pxm with attention := { s.pxm.attention with cmd := true } } }

/-- A command is answered ACCEPTED, and recorded. -/
def AcceptedAs (code : Byte) (t : State) : Prop :=
  t.rnc.lastCommand = some code ∧ t.rnc.result = .accepted ∧ t.pxm.attention.cmd = true

/-- The command that a write to CONTROL spells by its low byte, its high byte ignored; every other command
is itself. -/
def spelled : Instr → Instr
  | .badCode w =>
    match (w.extractLsb' 0 8).toNat with
    | 1 => .start
    | 2 => .stop
    | 3 => .abort
    | 4 => .ackFault
    | 5 => .restart
    | _ => .badCode w
  | c => c

/-- The state with the first burst request served by a burst that only reads. -/
def readServed (s : State) : State :=
  { s with pxm := { s.pxm with requests := s.pxm.requests.tail } }

/-- The table of the commands: START is accepted in OFF and READY, STOP in RUN, ABORT in RUN and DRAIN,
ACK_FAULT in HALTED with the standstill count at 200, RESTART always; every other write is answered
REFUSED or BAD_CODE and changes nothing but the last command, the result and ATTENTION.CMD. A word
written to CONTROL is the command of its low byte, whatever its high byte. START is answered at the end
of its machine record burst; that START only requests this burst while another one stands before it, and
is answered by a later START at its turn, is the model's form of R157 (log entry 10). -/
def Obligations.CommandsAnswerByTheTable : Prop :=
  ∀ s : State,
    (MayBegin .machine s → s.rnc.runState = .off ∨ s.rnc.runState = .ready →
      ∃ t, exec .start s = .next t ∧ AcceptedAs 1#8 t) ∧
    (MayBegin .machine s → ¬(s.rnc.runState = .off ∨ s.rnc.runState = .ready) →
      exec .start s = .next (commandOnly 1#8 .refused (readServed s))) ∧
    (∀ b q, s.pxm.requests = b :: q → b ≠ .machine → s.pxm.burst = none → s.pxm.waiting = [] →
      (b = .reports → s.rpw.halfWork = []) → exec .start s = .next { s with
        pxm := { s.pxm with requests :=
          if BurstSource.machine ∈ q then b :: q else b :: q ++ [.machine] } }) ∧
    (s.rnc.runState = .run → ∃ t, exec .stop s = .next t ∧ AcceptedAs 2#8 t) ∧
    (s.rnc.runState ≠ .run → exec .stop s = .next (commandOnly 2#8 .refused s)) ∧
    (s.rnc.runState = .run ∨ s.rnc.runState = .drain →
      ∃ t, exec .abort s = .next t ∧ AcceptedAs 3#8 t) ∧
    (¬(s.rnc.runState = .run ∨ s.rnc.runState = .drain) →
      exec .abort s = .next (commandOnly 3#8 .refused s)) ∧
    (s.rnc.runState = .halted ∧ s.trc.standstill = 200 →
      ∃ t, exec .ackFault s = .next t ∧ AcceptedAs 4#8 t) ∧
    (¬(s.rnc.runState = .halted ∧ s.trc.standstill = 200) →
      exec .ackFault s = .next (commandOnly 4#8 .refused s)) ∧
    (∃ t, exec .restart s = .next t ∧ t.rnc.lastCommand = some 5#8 ∧ t.rnc.result = .accepted ∧
      t.pxm.attention.cmd = false) ∧
    (∀ c, exec c s = exec (spelled c) s) ∧
    ∀ w : Word, (w.extractLsb' 0 8).toNat = 0 ∨ 5 < (w.extractLsb' 0 8).toNat →
      exec (.badCode w) s = .next (commandOnly (w.extractLsb' 0 8) .badCode s)

/-- A field of the machine record passes, by its index. -/
def MachineFieldOk (r : MachineRecord) : Nat → Prop
  | 1 => r.dCam ≤ 200000
  | 2 => 256 ≤ r.dKnife ∧ r.dKnife ≤ 400000
  | 3 => 256 ≤ r.kFlap.l0 ∧ r.kFlap.l0 ≤ 200000
  | 4 => 256 ≤ r.kFlap.l1 ∧ r.kFlap.l1 ≤ 200000
  | 5 => 256 ≤ r.kFlap.l2 ∧ r.kFlap.l2 ≤ 200000
  | 6 => 256 ≤ r.kFlap.l3 ∧ r.kFlap.l3 ≤ 200000
  | 7 => r.kFlap.l0 + 256 ≤ r.kEye.l0 ∧ r.kEye.l0 ≤ 400000
  | 8 => r.kFlap.l1 + 256 ≤ r.kEye.l1 ∧ r.kEye.l1 ≤ 400000
  | 9 => r.kFlap.l2 + 256 ≤ r.kEye.l2 ∧ r.kEye.l2 ≤ 400000
  | 10 => r.kFlap.l3 + 256 ≤ r.kEye.l3 ∧ r.kEye.l3 ≤ 400000
  | 11 => 1 ≤ r.eyeTol ∧ r.eyeTol ≤ 4095
  | 12 => r.dSplice ≤ 400000
  | 13 => r.spliceMargin ≤ 65535
  | 14 => r.knifeLatency ≤ 20000
  | 15 => r.flapLatency ≤ 20000
  | 16 => r.leadMax ≤ 16383
  | 17 => 1 ≤ r.knifeTimeout ∧ r.knifeTimeout ≤ 255
  | 18 => r.conveyorOfLane.l0 ≤ 1
  | 19 => r.conveyorOfLane.l1 ≤ 1
  | 20 => r.conveyorOfLane.l2 ≤ 1
  | 21 => r.conveyorOfLane.l3 ≤ 1
  | 22 => 1 ≤ r.conveyorTimeout ∧ r.conveyorTimeout ≤ 255
  | 23 => r.lanePriority.l0 ≤ 7
  | 24 => r.lanePriority.l1 ≤ 7
  | 25 => r.lanePriority.l2 ≤ 7
  | 26 => r.lanePriority.l3 ≤ 7
  | 27 => r.vCrawl ≤ 4094
  | 28 => r.vCrawl + 1 ≤ r.vOver ∧ r.vOver ≤ 4095
  | 29 => r.zoneHyst ≤ 255
  | 30 => r.reverseLimit ≤ 65535
  | 31 => 1 ≤ r.reportAge ∧ r.reportAge ≤ 1000
  | _ => True

/-- The check of the machine record: the config field index is 0 exactly when the 31 fields pass, and
otherwise the index of the first field that fails. -/
def Obligations.MachineRecordCheckNamesTheFirstFailingField : Prop :=
  ∀ r : MachineRecord,
    (machineIndex r = 0 ↔ ∀ i, 1 ≤ i → i ≤ 31 → MachineFieldOk r i) ∧
    ∀ i, 1 ≤ i → (machineIndex r = i ↔
      i ≤ 31 ∧ ¬MachineFieldOk r i ∧ ∀ j, 1 ≤ j → j < i → MachineFieldOk r j)

/-- START in OFF or READY, its machine record burst having its turn, puts the positional state back at its
starting values, and cuts a page in work short: UNAPPLIED into each note not yet applied, then DONE, and
in READY a check of page A. With a machine record that passes the part is READY, with the record in use
and the leads formed from the speed in effect; with one that fails it is OFF, with the failing field's
index and the record in use as it was. The place of these writes among the requests, and that the note
whose burst START finds requested is still read when START leaves READY, are the model's choice (log
entry 16). -/
def Obligations.StartByItsMachineRecord : Prop :=
  ∀ (s : State) (m : MachineRecord), s.rnc.runState = .off ∨ s.rnc.runState = .ready →
    MayBegin .machine s → m = readMachineRecord s.pxm.memory →
    (machineIndex m = 0 → ∃ t, exec .start s = .next t ∧ StartValues s t ∧ StartNotes s t ∧
      t.rnc.runState = .ready ∧ halt t = false ∧ t.rnc.configIndex = 0 ∧
      t.rnc.record = some m ∧ t.rnc.result = .accepted ∧
      t.knt.lead = min m.leadMax ((s.trc.speed * m.knifeLatency + 500) / 1000) ∧
      (∀ l, (t.lnd.get l).flapLead =
        min m.leadMax ((s.trc.speed * m.flapLatency + 500) / 1000)) ∧
      (s.rnc.runState = .off → t.pxm.attention.state = true)) ∧
    (machineIndex m ≠ 0 → ∃ t, exec .start s = .next t ∧ StartValues s t ∧ StartNotes s t ∧
      t.rnc.runState = .off ∧ halt t = true ∧ t.rnc.configIndex = machineIndex m ∧
      t.rnc.record = s.rnc.record ∧ t.rnc.result = .accepted)

/-- A stack of a line when the run is abandoned with close kind `k` at the front `f`: the arrivals that
still named it are counted missing; a FILLING stack is closed, a COMPLETING one is settled, and one that
is CLOSED or PUSHING is kept, but that a CLOSED one may be granted. -/
structure StackAbandoned (k : CloseKind) (f : Count) (arrivals : List Arrival) (x y : Stack) :
    Prop where
  same : y = { x with missing := y.missing, state := y.state, closeKind := y.closeKind,
                      closePoint := y.closePoint, conveyor := y.conveyor }
  missing : y.missing = x.missing + arrivals.countP fun a => a.stackId == x.id
  filling : x.state = .filling → y.closeKind = some k ∧ y.closePoint = some f ∧
    (y.state = .closed ∨ y.state = .pushing)
  closeKept : x.state ≠ .filling → y.closeKind = x.closeKind ∧ y.closePoint = x.closePoint
  settled : x.state = .completing ∨ x.state = .closed → y.state = .closed ∨ y.state = .pushing
  pushing : x.state = .pushing → y = x

/-- The OPEN lane entries of the rows of a tag. -/
def openEntries (tag : JobTag) (track : List Row) : Nat :=
  ((track.filter fun r => r.tag == tag).map fun r => allLanes.countP fun l => openIn l r).sum

/-- A context's JOB_END record when its `n` OPEN entries are tallied STOPPED. -/
def stoppedEnd (c : JobContext) (n : Nat) : Record :=
  .jobEnd c.job.jobId (c.firstRow.getD 0#32) (c.lastRow.getD 0#32)
    { c.tallies with stopped := min 65535 (c.tallies.stopped + n) }

/-- Job Control when the run is abandoned: every OPEN entry is tallied STOPPED in its row's job, and each
held context ends with its JOB_END, PREVIOUS first. -/
structure ContextsEnded (s t : State) : Prop where
  one : ∀ c, s.jbc.current = some c → s.jbc.previous = none → c.tallies.stopped ≤ 65535 →
    otherRecords s.rpw.queue < 4 →
    t.rpw.queue = s.rpw.queue ++ [stoppedEnd c (openEntries .current s.rot.track)]
  two : ∀ c d, s.jbc.current = some c → s.jbc.previous = some d → c.tallies.stopped ≤ 65535 →
    d.tallies.stopped ≤ 65535 → otherRecords s.rpw.queue < 3 →
    openEntries .previous s.rot.track = 0 ∨
      (∃ n r, d.lastRow = some n ∧ findRow n s = some r ∧ fullyDecided r = false) →
    t.rpw.queue = s.rpw.queue ++ [stoppedEnd d (openEntries .previous s.rot.track),
      stoppedEnd c (openEntries .current s.rot.track)]

/-- What ABORT and ACK_FAULT, with the close kind `k`, both leave: READY with nothing of the run left but
the stacks of every line, all CLOSED or PUSHING, the numbering, the stack ids and the notes. -/
structure RunAbandoned (k : CloseKind) (s t : State) : Prop where
  lines : StackInv s → ∀ l, List.Forall₂
    (StackAbandoned k s.trc.front (s.lnd.get l).arrivals) (s.skc.get l).line (t.skc.get l).line
  contexts : ContextsEnded s t
  runState : t.rnc.runState = .ready ∧ halt t = false
  track : t.rot.track = [] ∧ t.rot.lastNumber = s.rot.lastNumber ∧ t.rot.overflowDetector = .armed
  arrivals : ∀ l, (t.lnd.get l).arrivals = [] ∧ (t.lnd.get l).flap = .reject ∧
    (t.lnd.get l).flapLead = (s.lnd.get l).flapLead
  jobs : t.jbc.current = none ∧ t.jbc.previous = none ∧ t.jbc.closePending = Lanes.fill false
  targets : ∀ l, (t.skc.get l).targetCurrent = none ∧ (t.skc.get l).targetPrevious = none
  lanesKept : ∀ l, (t.skc.get l).hold = (s.skc.get l).hold ∧
    (t.skc.get l).nextId = (s.skc.get l).nextId
  stops : t.rnc.stopRows = Lanes.fill none ∧ t.rnc.stopPending = Lanes.fill false
  tracker : t.mkt.state = .idle ∧ t.mkt.deglitch = none ∧ t.mkt.newest = none ∧
    t.mkt.expected = none ∧ t.mkt.coastCount = 0
  trackerKept : t.mkt.stretch = s.mkt.stretch ∧ t.mkt.strayCount = s.mkt.strayCount ∧
    t.mkt.glitchCount = s.mkt.glitchCount ∧ t.mkt.reacquirePoint = s.mkt.reacquirePoint ∧
    t.mkt.exemption = s.mkt.exemption
  knifeKept : t.knt.lead = s.knt.lead ∧ t.knt.lastFire = s.knt.lastFire ∧
    t.knt.output = s.knt.output ∧ t.knt.cycle.isSome = s.knt.cycle.isSome
  notes : t.ntp = s.ntp
  travel : t.trc = s.trc
  record : t.rnc.record = s.rnc.record ∧ t.rnc.configIndex = s.rnc.configIndex
  port : t.pxm.memory = s.pxm.memory ∧ t.pxm.mask = s.pxm.mask ∧ t.pxm.attention.state = true
  pushes : ∀ c l n, s.tka.conveyors.get c = .pushing l n → t.tka.conveyors.get c = .pushing l n

/-- An accepted ABORT abandons the run: the arrivals still expected are missing, each lane's last stack is
closed SHORT_ABORT and the stacks are kept, every OPEN entry is tallied STOPPED and each context ends
with its JOB_END; and it keeps the stall count and the fault code. An accepted ACK_FAULT does the same
with the close kind SHORT_FAULT, and with the stall count at 0, the inhibit clear and the fault code
none. -/
def Obligations.AbortAndAckFaultAbandonTheRun : Prop :=
  (∀ s : State, s.rnc.runState = .run ∨ s.rnc.runState = .drain →
    ∃ t, exec .abort s = .next t ∧ RunAbandoned .shortAbort s t ∧ t.knt.stallCount = s.knt.stallCount ∧
      t.knt.inhibit = s.knt.inhibit ∧ t.rnc.faultCode = s.rnc.faultCode) ∧
  ∀ s : State, s.rnc.runState = .halted → s.trc.standstill = 200 →
    ∃ t, exec .ackFault s = .next t ∧ RunAbandoned .shortFault s t ∧ t.knt.stallCount = 0 ∧
      t.knt.inhibit = false ∧ t.rnc.faultCode = none

/-- The lane's next row is `r`, its entry holds the reasons `x`, and its decision target stands reached
with the web at the front; no other row of the lane stands reached. -/
structure DecisionDue (s : State) (m : MachineRecord) (l : Lane) (r : Row) (x : Reasons) :
    Prop where
  next : nextRow l s = some r
  entry : r.entries.get l = some (.undecided x)
  target : atOrBeyond s.trc.front (retreat (advance (leadReference m r) (m.kFlap.get l))
    (s.lnd.get l).flapLead) = true
  front : s.trc.web = s.trc.front
  only : ∀ q ∈ s.rot.track, openIn l q = true → q.number ≠ r.number →
    atOrBeyond s.trc.front (retreat (advance (leadReference m q) (m.kFlap.get l))
      (s.lnd.get l).flapLead) = false

/-- The trail cut was done and good. -/
def TrailGood (r : Row) : Prop := ∃ f, r.trail = .done f false

/-- The lead cut is present and good, or absent in a LEAD_IN row. -/
def LeadGood (r : Row) : Prop :=
  (∃ f, r.leadCut = some ⟨f, false⟩) ∨ (r.leadCut = none ∧ r.origin = .leadIn)

/-- The horizon has reached the row's cut point. -/
def Inspected (s : State) (r : Row) : Prop :=
  ∃ h, s.ntp.horizon = some h ∧ atOrBeyond h r.cut = true

/-- The reasons of an entry after the decision's findings: STOPPED in HALTED, KNIFE for a cut that is not
DONE and good on both sides, SPEED in CRAWL and OVER, UNINSPECTED, HELD. -/
structure Found (s : State) (l : Lane) (r : Row) (x y : Reasons) : Prop where
  stopped : y.stopped = true ↔ x.stopped = true ∨ s.rnc.runState = .halted
  knife : y.knife = true ↔ x.knife = true ∨ ¬TrailGood r ∨ ¬LeadGood r
  speed : y.speed = true ↔ x.speed = true ∨ s.trc.zone ≠ .run
  uninspected : y.uninspected = true ↔ x.uninspected = true ∨ ¬Inspected s r
  held : y.held = true ↔ x.held = true ∨ (s.skc.get l).hold = true
  rest : y.leadIn = x.leadIn ∧ y.register = x.register ∧ y.splice = x.splice ∧
    y.guard = x.guard ∧ y.defect = x.defect

/-- The reason that stands first in precedence of those a set holds. -/
def Primary (y : Reasons) (p : Reason) : Prop :=
  y.get p = true ∧ ∀ q ∈ allReasons.takeWhile (· != p), y.get q = false

/-- The newest row of the track that holds an entry for the lane is present with that entry OPEN. -/
def StopRowOpen (s : State) (l : Lane) : Prop :=
  ∃ n r, stopRow l s.rot.track = some n ∧ findRow n s = some r ∧ openIn l r = true

/-- Something is left for DRAIN to wait for: some entry is OPEN, or some line holds a stack. -/
def LeftToDrain (s : State) : Prop :=
  (∃ r ∈ s.rot.track, fullyDecided r = false) ∨ ∃ l, (s.skc.get l).line ≠ []

/-- The line's last stack, when it was FILLING, is closed with the kind at the front F; and the line has as
many stacks as before. -/
def LastClosed (k : CloseKind) (f : Count) (line line' : List Stack) : Prop :=
  (∀ x, line.getLast? = some x → x.state = .filling →
    ∃ y, line'.getLast? = some y ∧ y.id = x.id ∧ y.allotted = x.allotted ∧ y.target = x.target ∧
      y.state ≠ .filling ∧ y.closeKind = some k ∧ y.closePoint = some f) ∧
  line'.length = line.length

/-- The stacks are as before, but that a CLOSED one at the FRONT may be PUSHING by a grant. -/
def FrontGranted (line line' : List Stack) : Prop :=
  line' = line ∨ ∃ x rest c, line = x :: rest ∧ x.state = .closed ∧
    line' = { x with state := .pushing, conveyor := some c } :: rest

/-- Nothing of a line changed but what closing its last stack when it was FILLING, and a grant to its FRONT,
change. -/
def RestKept (line line' : List Stack) : Prop :=
  (∀ x, line.getLast? = some x → x.state = .filling →
    FrontGranted line.dropLast line'.dropLast ∧ ∃ y : Stack, line'.getLast? = some { x with
      state := y.state, closeKind := y.closeKind, closePoint := y.closePoint,
      conveyor := y.conveyor }) ∧
  ((∀ x, line.getLast? = some x → x.state ≠ .filling) → FrontGranted line line')

/-- An accepted STOP while some entry is still OPEN or some line holds a stack, whichever of them it is: the
run state is DRAIN, the tracker is IDLE, every lane's stop row is fixed, the lanes whose stop row is decided or none are closed SHORT_STOP
at once and the others wait; the next cut fires if it stands ready at the change of run state; and the
knife and the track otherwise, the deciders, the jobs and the reports are not touched. In DRAIN the
decision of a waiting lane's stop row closes the lane's last stack SHORT_STOP, the decided label in it,
and the lane waits no more. -/
def Obligations.StopFixesStopRows : Prop :=
  (∀ s : State, s.rnc.runState = .run → LeftToDrain s → ArbiterInv s →
    ∃ t u, exec .stop s = .next t ∧ exec .fire s = .next u ∧
      t.rnc.runState = .drain ∧ t.pxm.attention.state = true ∧
      t.mkt.state = .idle ∧ t.mkt.deglitch = none ∧ t.mkt.expected = none ∧
      t.mkt.newest = s.mkt.newest ∧
      (∀ l, t.rnc.stopRows.get l = stopRow l s.rot.track) ∧
      (∀ l, t.rnc.stopPending.get l = true ↔ StopRowOpen s l) ∧
      (∀ l, StopRowOpen s l →
        (t.skc.get l).line.length = (s.skc.get l).line.length ∧
        ∀ x, (s.skc.get l).line.getLast? = some x → x.state = .filling →
          (t.skc.get l).line.getLast? = some x) ∧
      (∀ l, StopRowOpen s l → FrontGranted (s.skc.get l).line (t.skc.get l).line) ∧
      (∀ l, ¬StopRowOpen s l →
        LastClosed .shortStop s.trc.front (s.skc.get l).line (t.skc.get l).line ∧
        RestKept (s.skc.get l).line (t.skc.get l).line) ∧
      ReactionFrame (commandOnly 2#8 .accepted s) t ∧ t.knt = u.knt ∧ t.lnd = s.lnd ∧
      t.rot = u.rot ∧ t.jbc = s.jbc ∧ t.rpw = s.rpw ∧ t.ntp = s.ntp) ∧
  ∀ (s v : State) (m : MachineRecord) (l : Lane) (r : Row) (x : Reasons),
    s.rnc.record = some m → DecisionDue s m l r x → ArbiterInv s → s.rnc.runState = .drain →
    s.rnc.stopPending.get l = true → s.rnc.stopRows.get l = some r.number →
    s.jbc.closePending.get l = false → v = judge m l r x s →
    ∃ t, exec (.decision l) s = .next t ∧ t.rnc.stopPending.get l = false ∧
      LastClosed .shortStop s.trc.front (v.skc.get l).line (t.skc.get l).line ∧
      RestKept (v.skc.get l).line (t.skc.get l).line

/-- DRAIN has ended: READY with the track emptied, its numbering kept, the tracker IDLE, the contexts ended,
the stop rows and the lane targets none, and every flap at REJECT. -/
structure DrainEnded (s t : State) : Prop where
  runState : t.rnc.runState = .ready ∧ halt t = false ∧ t.pxm.attention.state = true
  track : t.rot.track = [] ∧ t.rot.lastNumber = s.rot.lastNumber ∧ t.rot.overflowDetector = .armed
  tracker : t.mkt.state = .idle ∧ t.mkt.deglitch = none ∧ t.mkt.newest = none ∧
    t.mkt.expected = none ∧ t.mkt.coastCount = 0
  jobs : t.jbc.current = none ∧ t.jbc.previous = none ∧ t.jbc.closePending = Lanes.fill false
  stops : t.rnc.stopRows = Lanes.fill none ∧ t.rnc.stopPending = Lanes.fill false
  lanes : ∀ l, (t.lnd.get l).flap = .reject ∧ (t.skc.get l).targetCurrent = none ∧
    (t.skc.get l).targetPrevious = none

/-- A context's JOB_END record as it stands. -/
def endOf (c : JobContext) : Record :=
  .jobEnd c.job.jobId (c.firstRow.getD 0#32) (c.lastRow.getD 0#32) c.tallies

/-- DRAIN waits for nothing but the stacks of the lane: no entry is OPEN, no lane's stop is pending, and
every other lane's line is empty. -/
def DrainWaitsFor (s : State) (l : Lane) : Prop :=
  s.rnc.runState = .drain ∧ (∀ r ∈ s.rot.track, fullyDecided r = true) ∧
  (∀ k, s.rnc.stopPending.get k = false) ∧ ∀ k, k ≠ l → (s.skc.get k).line = []

/-- DRAIN ends within the event that leaves no entry OPEN, no lane's stop pending and no stack in a line:
STOP itself when it finds no entry OPEN, the rows still tracked being decided, and every line empty; and in DRAIN the delivery or the removal of
the last stack, or the decision of the last OPEN entry when no line holds a stack. Each context ends with
its JOB_END; that it follows the decision's tally and the other records of the same event is log entries
11 and 12. -/
def Obligations.StopOfAnEmptyPartEndsDrain : Prop :=
  (∀ s : State, s.rnc.runState = .run →
    (∀ r ∈ s.rot.track, fullyDecided r = true) → (∀ l, (s.skc.get l).line = []) →
    ∃ t, exec .stop s = .next t ∧ DrainEnded s t ∧
      (∀ c, s.jbc.current = some c → s.jbc.previous = none → otherRecords s.rpw.queue < 4 →
        t.rpw.queue = s.rpw.queue ++ [endOf c]) ∧
      ∀ c d, s.jbc.current = some c → s.jbc.previous = some d → otherRecords s.rpw.queue < 3 →
        t.rpw.queue = s.rpw.queue ++ [endOf d, endOf c]) ∧
  (∀ (s : State) (m : MachineRecord) (l : Lane) (r : Row) (x y : Reasons),
    s.rnc.record = some m → DecisionDue s m l r x → s.rnc.runState = .drain →
    (∀ k, (s.skc.get k).line = []) → Found s l r x y → y ≠ noReasons →
    (∀ q ∈ s.rot.track, ∀ k, openIn k q = true → q.number = r.number ∧ k = l) →
    (∀ k, s.rnc.stopPending.get k = true → k = l ∧ s.rnc.stopRows.get l = some r.number) →
    ∃ t, exec (.decision l) s = .next t ∧ DrainEnded s t ∧
      ∀ c p, s.jbc.current = some c → s.jbc.previous = none → r.tag = .current → Primary y p →
        otherRecords s.rpw.queue < 4 → t.rpw.queue = s.rpw.queue ++ [endOf { c with
          tallies := c.tallies.set p (if c.tallies.get p < 65535 then c.tallies.get p + 1
            else 65535) }]) ∧
  ∀ (s : State) (c : Conveyor) (l : Lane) (n : Nat) (x : Stack), DrainWaitsFor s l → ArbiterInv s →
    s.tka.conveyors.get c = .pushing l n → (s.skc.get l).line = [x] →
    (∃ t, exec (.delivery c) s = .next t ∧ DrainEnded s t ∧
      t.tka.conveyors.get c = .available ∧
      ∀ j, s.jbc.current = some j → s.jbc.previous = none → otherRecords s.rpw.queue < 4 →
        t.rpw.queue = s.rpw.queue ++ [.stack l x false, endOf j]) ∧
    ∃ t, exec (.removal c) s = .next t ∧ DrainEnded s t ∧ t.tka.conveyors.get c = .out ∧
      ∀ j, s.jbc.current = some j → s.jbc.previous = none → otherRecords s.rpw.queue < 3 →
        t.rpw.queue = s.rpw.queue ++ [.stack l x true,
          .fault (.conveyorTimeout c) false s.trc.front (newestNumber s), endOf j]

/-- A write to ATTENTION clears each flag written as 1 and leaves the others; a write to IDENT, STATE or
offsets 5 to 7 changes nothing. -/
def Obligations.AttentionWritesClearFlags : Prop :=
  (∀ (w : Word) (s : State), ∃ t, exec (.attentionWrite w) s = .next t ∧
    t.pxm.attention.pageDone = (s.pxm.attention.pageDone && !w.getLsbD 0) ∧
    t.pxm.attention.reports = (s.pxm.attention.reports && !w.getLsbD 1) ∧
    t.pxm.attention.fault = (s.pxm.attention.fault && !w.getLsbD 2) ∧
    t.pxm.attention.state = (s.pxm.attention.state && !w.getLsbD 3) ∧
    t.pxm.attention.cmd = (s.pxm.attention.cmd && !w.getLsbD 4) ∧
    t = { s with pxm := { s.pxm with attention := t.pxm.attention } }) ∧
  ∀ (r : IgnoredRegister) (w : Word) (s : State), exec (.registerWriteIgnored r w) s = .next s

/-- IRQ is asserted exactly while a flag of ATTENTION is set with its enable in ATTN_MASK set. A write to
ATTN_MASK sets the five enables and nothing else, and asserts IRQ at once when it enables a flag already
set. IRQ is released after power-on reset and RESTART. -/
def Obligations.IrqFollowsFlagsAndEnables : Prop :=
  (∀ s : State, irq s = true ↔ ∃ i, i < 5 ∧
    (attentionWord s.pxm.attention).getLsbD i = true ∧ (attentionWord s.pxm.mask).getLsbD i = true) ∧
  (∀ (w : Word) (s : State), ∃ t, exec (.attnMaskWrite w) s = .next t ∧
    (∀ i, i < 5 → (attentionWord t.pxm.mask).getLsbD i = w.getLsbD i) ∧
    (∀ i, i < 5 → (attentionWord s.pxm.attention).getLsbD i = true → w.getLsbD i = true →
      irq t = true) ∧
    t = { s with pxm := { s.pxm with mask := t.pxm.mask } }) ∧
  ∀ s : State, (∃ t, exec .powerOnReset s = .next t ∧ irq t = false) ∧
    ∃ t, exec .restart s = .next t ∧ irq t = false

/-- The seven 32-bit fields of live status, in the order of their word pairs from word address 0 (R183). -/
def tearFields : List TearField :=
  [.web, .front, .stretch, .newest, .oldest, .horizon, .guardPoint]

/-- The tear latch: a read of the low word of a 32-bit field of live status returns it and latches the
field's high word; a read of the high word returns the latched word when the latch is loaded for that
field, and the word in memory otherwise; every other read returns the word in memory. Nothing but the
latch and the data word changes. The fields are, from word address 0 on, W, F, the stretch estimate, the
newest and the oldest row number, the horizon and the guard, each its low word first. The last clause gives what each offset of the register window reads:
IDENT, the last command, result and condition in STATE, the five flags and the five enables, and 0
elsewhere; that a register's read is no command of its own is log entry 20. -/
def Obligations.ReadsGoThroughTheTearLatch : Prop :=
  (∀ (a : BitVec 12) (s : State), MemoryFree s → ∃ t, exec (.memoryRead a) s = .next t ∧
    t = { s with pxm := { s.pxm with dataOut := t.pxm.dataOut, tearLatch := t.pxm.tearLatch } } ∧
    (∀ f, tearFieldOf a = some (f, true) →
      t.pxm.dataOut = Memory.readWord s.pxm.memory (2 * a.toNat) ∧
      t.pxm.tearLatch = some (f, Memory.readWord s.pxm.memory (2 * a.toNat + 2))) ∧
    (∀ f, tearFieldOf a = some (f, false) → t.pxm.tearLatch = s.pxm.tearLatch ∧
      (∀ w, s.pxm.tearLatch = some (f, w) → t.pxm.dataOut = w) ∧
      ((∀ w, s.pxm.tearLatch ≠ some (f, w)) →
        t.pxm.dataOut = Memory.readWord s.pxm.memory (2 * a.toNat))) ∧
    (13 < a.toNat → t.pxm.tearLatch = s.pxm.tearLatch ∧
      t.pxm.dataOut = Memory.readWord s.pxm.memory (2 * a.toNat)) ∧
    tearFieldOf a = (tearFields[a.toNat / 2]?).map fun f => (f, a.toNat % 2 == 0)) ∧
  ∀ s : State,
    registerRead s 0#3 = 0x5A12#16 ∧ registerRead s 1#3 = 0#16 ∧ registerRead s 5#3 = 0#16 ∧
    registerRead s 6#3 = 0#16 ∧ registerRead s 7#3 = 0#16 ∧
    (s.rnc.configIndex ≤ 31 →
      (registerRead s 2#3).extractLsb' 0 8 = s.rnc.lastCommand.getD 0#8 ∧
      ((registerRead s 2#3).extractLsb' 8 2).toNat = resultCode s.rnc.result ∧
      ((registerRead s 2#3).extractLsb' 10 6).toNat =
        match s.rnc.runState with
        | .off => s.rnc.configIndex
        | .ready => 32
        | .run => 33
        | .drain => 34
        | .halted => 40 + faultCodeNat s.rnc.faultCode) ∧
    (∀ n, n ∈ [3#3, 4#3] → ∀ x, x = (if n = 3#3 then s.pxm.attention else s.pxm.mask) →
      (registerRead s n).getLsbD 0 = x.pageDone ∧ (registerRead s n).getLsbD 1 = x.reports ∧
      (registerRead s n).getLsbD 2 = x.fault ∧ (registerRead s n).getLsbD 3 = x.state ∧
      (registerRead s n).getLsbD 4 = x.cmd ∧ ∀ i, 5 ≤ i → (registerRead s n).getLsbD i = false)

/-- A command that is the event of a burst which only reads, taken at its end. -/
def endsRead (c : Instr) : Prop :=
  c ∈ [Instr.spanNote, .rowNote, .laneNote, .conveyorNote, .jobNote, .badNote, .pageStateCheck]

/-- A command that is the event of a burst. -/
def isBurst (c : Instr) : Prop :=
  endsRead c ∨ c ∈ [Instr.pageTaking, .fateWrite, .pageFinishing, .reportWrite, .liveStatusRefresh]

/-- The requests when the burst `b` ends: its source asks for its next one, when it needs one, behind the
requests made in the meantime. -/
def requestsAtEnd (b : Burst) (s : State) : List BurstSource :=
  if b.source ∉ s.pxm.requests ∧ ((b.source = .notes ∧ s.ntp.work ≠ []) ∨
      (b.source = .reports ∧ s.rpw.needsBurst = true))
  then s.pxm.requests ++ [b.source] else s.pxm.requests

/-- The state with other accesses waiting. -/
def withWaiting (q : List PressAccess) (s : State) : State :=
  { s with pxm := { s.pxm with waiting := q } }

/-- A press-controller write of a word that is not watched is stored alone: the word reads back, every
other byte reads as before, and nothing else changes. A write of a watched word is the posting or the
freeing of the page or half it belongs to. An access that meets a burst in progress is held, with WAIT
asserted, and does nothing yet. When the burst ends its source's next request joins behind those made in
the meantime, and the access is served, as in a free memory, before the next burst begins. A burst that
writes has the memory from its command until it ends; one that only reads, from when its request stands
first, until its command, which takes its event before the access is served. That a burst which has the
memory ends at the next command that begins a burst, or at a second access, is the model's choice (log
entry 7). -/
def Obligations.WritesAreTheCommandsOfTheirRows : Prop :=
  (∀ (a : BitVec 12) (w : Word) (s : State), MemoryFree s → s.pxm.memory.wf = true →
    isWatchedWord a = false →
    ∃ t, exec (.memoryWrite a w) s = .next t ∧
      Memory.readWord t.pxm.memory (2 * a.toNat) = w ∧
      SameOutside (2 * a.toNat) 2 s.pxm.memory t.pxm.memory ∧ t.pxm.memory.wf = true ∧
      t = { s with pxm := { s.pxm with memory := t.pxm.memory } }) ∧
  (∀ (w : Word) (s : State),
    exec (.memoryWrite 0x200#12 w) s = exec (.notePagePosting .a w) s ∧
    exec (.memoryWrite 0x400#12 w) s = exec (.notePagePosting .b w) s ∧
    exec (.memoryWrite 0x800#12 w) s = exec (.halfFreeing .a w) s ∧
    exec (.memoryWrite 0xC00#12 w) s = exec (.halfFreeing .b w) s) ∧
  (∀ (a : BitVec 12) (w : Word) (s : State),
    (memoryHeld s = true → s.pxm.waiting = [] →
      exec (.memoryRead a) s = .next (withWaiting [.read a] s) ∧
      exec (.memoryWrite a w) s = .next (withWaiting [.write a w] s) ∧
      wait (withWaiting [.read a] s) = true ∧ wait (withWaiting [.write a w] s) = true) ∧
    (readBurst s = true → s.pxm.waiting ≠ [] →
      exec (.memoryRead a) s = .next (withWaiting (s.pxm.waiting ++ [.read a]) s) ∧
      exec (.memoryWrite a w) s = .next (withWaiting (s.pxm.waiting ++ [.write a w]) s)) ∧
    (readBurst s = false → s.pxm.waiting ≠ [] →
      exec (.memoryRead a) s = exec (.memoryRead a) (settleMemory s) ∧
      exec (.memoryWrite a w) s = exec (.memoryWrite a w) (settleMemory s))) ∧
  (∀ (s : State) (b : Burst), s.pxm.burst = some b →
    memoryHeld s = true ∧ settleMemory s = afterBurst { s with
      pxm := { s.pxm with burst := none, requests := requestsAtEnd b s } }) ∧
  (∀ x : Rpw, x.needsBurst = true ↔
    x.halfWork ≠ [] ∨ (∃ h, x.writer = .filling h) ∧ x.queue ≠ []) ∧
  (∀ s : State, s.pxm.burst = none → (readBurst s = true ↔
    s.pxm.requests.head? = some .machine ∨ s.pxm.requests.head? = some .notes ∧
      ∃ x, s.ntp.work.head? = some x ∧ ∀ i f d pg,
        x ≠ .pageTaking ∧ x ≠ .finishing ∧ x ≠ .fateWrite pg i f d ∧ x ≠ .cutShortDone pg)) ∧
  (∀ (c : Instr) (s : State), readBurst s = true → exec c s ≠ .next s →
    endsRead c ∨ (c = .start ∧ s.pxm.requests.head? = some .machine) →
    ∃ u, u.pxm.waiting = s.pxm.waiting ∧ u.pxm.memory = s.pxm.memory ∧ u.pxm.burst = none ∧
      ∀ q, exec c (withWaiting q s) = .next (afterBurst (withWaiting q u))) ∧
  (∀ u : State, u.pxm.burst = none → u.rpw.halfWork = [] →
    (u.pxm.waiting = [] → afterBurst u = u) ∧
    (∀ (x : PressAccess) (v : State), u.pxm.waiting = [x] →
      v = { u with pxm := { u.pxm with waiting := [], requests := [] } } →
      (∀ a, x = .read a → ∃ t, exec (.memoryRead a) v = .next t ∧
        afterBurst u = { t with pxm := { t.pxm with requests := u.pxm.requests } }) ∧
      (∀ a w, x = .write a w → isWatchedWord a = false → ∃ t, exec (.memoryWrite a w) v = .next t ∧
        afterBurst u = { t with pxm := { t.pxm with requests := u.pxm.requests } }) ∧
      (∀ p w, x = .write (portAddress (pageBase p)) w → ∃ t, exec (.notePagePosting p w) v = .next t ∧
        (afterBurst u).ntp = t.ntp ∧ (afterBurst u).pxm.memory = t.pxm.memory) ∧
      (∀ h w, x = .write (portAddress (halfBase h)) w → ∃ t, exec (.halfFreeing h w) v = .next t ∧
        (afterBurst u).rpw.writer = t.rpw.writer ∧
        (afterBurst u).rpw.fillIndex = t.rpw.fillIndex ∧
        (afterBurst u).rpw.ageTimer = t.rpw.ageTimer ∧
        (afterBurst u).rpw.queue = t.rpw.queue))) ∧
  (∀ (c : Instr) (s : State), isBurst c → HalfWork s.rpw → exec c s ≠ .next s →
    exec c s = exec c (freeMemory s)) ∧
  ∀ s v : State, HalfWork s.rpw → (freeMemory s).pxm.burst = none ∧
    (s.pxm.burst ≠ none → v = freeMemory { s with pxm := { s.pxm with requests :=
        if BurstSource.machine ∈ s.pxm.requests then s.pxm.requests
        else s.pxm.requests ++ [.machine] } } →
      (v.pxm.requests.head? = some .machine → exec .start s = exec .start v) ∧
      (v.pxm.requests.head? ≠ some .machine → ∃ t, exec .start s = .next t ∧
        BurstSource.machine ∈ t.pxm.requests ∧
        t = { s with pxm := { s.pxm with requests := t.pxm.requests } }))

/-- A page's state word written by the press controller stands in memory; the Note Processor sets out to
take the page when POSTED is written into the expected page with no page in work outside OFF, and takes
no action on any other write. -/
def Obligations.PostingIsActedOnForTheExpectedPage : Prop :=
  ∀ (p : Page) (w : Word) (s : State), MemoryFree s → ExchangeInv s →
    ∃ t, exec (.notePagePosting p w) s = .next t ∧
      Memory.readWord t.pxm.memory (pageBase p) = w ∧
      SameOutside (pageBase p) 2 s.pxm.memory t.pxm.memory ∧
      (w = 1#16 → p = s.ntp.expectedPage → s.ntp.inWork = none → s.rnc.runState ≠ .off →
        NoteBurst.pageTaking ∈ t.ntp.work ∧ BurstSource.notes ∈ t.pxm.requests ∧
        (NoteBurst.pageTaking ∉ s.ntp.work → t.ntp.work = s.ntp.work ++ [.pageTaking])) ∧
      (¬(w = 1#16 ∧ p = s.ntp.expectedPage ∧ s.ntp.inWork = none ∧ s.rnc.runState ≠ .off) →
        t = { s with pxm := { s.pxm with memory := t.pxm.memory } }) ∧
      t = { s with ntp := { s.ntp with work := t.ntp.work },
                   pxm := { s.pxm with memory := t.pxm.memory, requests := t.pxm.requests } }

/-- A half's state word written by the press controller: EMPTY into the half the writer is WAITING for is
taken within the event, with the fill index at 0 and the age timer stopped, and FILLING is written at
once when no other burst is requested, and in its turn otherwise; any other write stands in memory and
changes nothing in the writer. -/
def Obligations.FreeingIsActedOnForTheAwaitedHalf : Prop :=
  ∀ (h : Half) (w : Word) (s : State), MemoryFree s → s.pxm.memory.wf = true →
    ∃ t, exec (.halfFreeing h w) s = .next t ∧
      SameOutside (halfBase h) 2 s.pxm.memory t.pxm.memory ∧
      (w = 0#16 → s.rpw.writer = .waiting h → t.rpw.writer = .filling h ∧
        t.rpw.fillIndex = 0 ∧ t.rpw.ageTimer = none ∧ t.rpw.queue = s.rpw.queue ∧
        (s.pxm.requests = [] → t.rpw.halfWork = [] ∧ t.pxm.burst.isSome = true ∧
          Memory.readWord t.pxm.memory (halfBase h) = 1#16 ∧
          (s.rpw.queue ≠ [] → BurstSource.reports ∈ (settleMemory t).pxm.requests)) ∧
        (s.pxm.requests ≠ [] → s.pxm.requests.head? ≠ some .reports →
          t.rpw.halfWork = [.writeFilling h] ∧ BurstSource.reports ∈ t.pxm.requests ∧
          Memory.readWord t.pxm.memory (halfBase h) = 0#16)) ∧
      (¬(w = 0#16 ∧ s.rpw.writer = .waiting h) →
        Memory.readWord t.pxm.memory (halfBase h) = w ∧
        t = { s with pxm := { s.pxm with memory := t.pxm.memory } }) ∧
      t = { s with rpw := { s.rpw with writer := t.rpw.writer, fillIndex := t.rpw.fillIndex,
                                       ageTimer := t.rpw.ageTimer, halfWork := t.rpw.halfWork },
                   pxm := { s.pxm with memory := t.pxm.memory, requests := t.pxm.requests,
                                       burst := t.pxm.burst } }

/-! ### Web travel and speed (01_web_travel_and_speed.md) -/

/-- A halting fault as the Run Controller takes it: in RUN and DRAIN the part is HALTED with the fault's
code and no stop rows; in HALTED the fault is secondary and the code stays. ATTENTION.FAULT is set, and
a FAULT record with the front and the newest row is queued, or dropped and counted when 4 records that
are not STACK records wait. Nothing else changes but the Travel Counter as `t` has it. -/
structure HaltingTaken (fault : HaltingFault) (s t : State) : Prop where
  runState : t.rnc.runState = .halted
  faultCode : t.rnc.faultCode =
    if s.rnc.runState = .halted then s.rnc.faultCode else some fault
  attention : t.pxm.attention = { s.pxm.attention with
    fault := true, state := s.pxm.attention.state || s.rnc.runState != .halted }
  stops : s.rnc.runState ≠ .halted →
    t.rnc.stopRows = Lanes.fill none ∧ t.rnc.stopPending = Lanes.fill false
  stopsKept : s.rnc.runState = .halted →
    t.rnc.stopRows = s.rnc.stopRows ∧ t.rnc.stopPending = s.rnc.stopPending
  queued : otherRecords s.rpw.queue < 4 →
    t.rpw.queue = s.rpw.queue ++
      [.fault (.halting fault) (s.rnc.runState == .halted) s.trc.front (newestNumber s)] ∧
    t.rpw.droppedCount = s.rpw.droppedCount ∧ t.rpw.dropPending = s.rpw.dropPending
  dropped : 4 ≤ otherRecords s.rpw.queue → t.rpw.queue = s.rpw.queue ∧
    t.rpw.droppedCount = min 65535 (s.rpw.droppedCount + 1) ∧ t.rpw.dropPending = true
  only : t = { s with
    trc := t.trc,
    rnc := { s.rnc with runState := t.rnc.runState, faultCode := t.rnc.faultCode,
                        stopRows := t.rnc.stopRows, stopPending := t.rnc.stopPending },
    pxm := { s.pxm with attention := t.pxm.attention, requests := t.pxm.requests },
    rpw := { s.rpw with queue := t.rpw.queue, droppedCount := t.rpw.droppedCount,
                        dropPending := t.rpw.dropPending } }

/-- A halting fault taken, and, where it changed the run state, the knife's test of its next cut after
it. -/
def HaltingTested (fault : HaltingFault) (s t : State) : Prop :=
  ∃ v, HaltingTaken fault s v ∧ (s.rnc.runState = .halted → t = v) ∧
    (s.rnc.runState ≠ .halted → exec .fire v = .next t)

/-- A run state in which halting faults are raised. -/
def FaultsRaised (s : State) : Prop :=
  s.rnc.runState = .run ∨ s.rnc.runState = .drain ∨ s.rnc.runState = .halted

/-- Of a list of acts, those due in `u` are taken, each of them once, one after another in some order, which
takes one free choice when they are more than one (log entry 2); `t` is what they leave. -/
def TakenInSomeOrder {α : Type} (due : α → State → Bool) (act : α → State → State) (ts : List α)
    (u t : State) : Prop :=
  ∃ (p : List α) (n : Nat), p.Perm (ts.filter fun a => due a u) ∧
    (p.length ≤ 1 → n = u.choices) ∧ t = takeAll act p (u.setChoices n)

/-- A forward count behind the front raises W by 1 and does nothing else. A forward count at the front
takes W and F to the next count together and arms both detectors; what then happens is the front
advance: every act that a block waiting on web positions has due at the new front is taken within the
event, in some order, one alone as it is, and nothing happens where none is due. They leave travel,
memory, leads, holds and notes alone. -/
def Obligations.ForwardCountMovesTheWebAndTheFront : Prop :=
  ∀ s : State, s.pxm.resetAsserted = false →
    (s.trc.web ≠ s.trc.front →
      exec .forwardCount s = .next { s with trc := { s.trc with
        pins := ⟨!s.trc.pins.b, s.trc.pins.a⟩, reference := ⟨!s.trc.pins.b, s.trc.pins.a⟩,
        web := s.trc.web + 1#32 } }) ∧
    (s.trc.web = s.trc.front → ∀ u : State,
      u = { s with trc := { s.trc with
        pins := ⟨!s.trc.pins.b, s.trc.pins.a⟩, reference := ⟨!s.trc.pins.b, s.trc.pins.a⟩,
        web := s.trc.web + 1#32, front := s.trc.web + 1#32,
        reverseDetector := .armed, encoderDetector := .armed } } →
      ∃ t, exec .forwardCount s = .next t ∧ ReactionFrame u t ∧
        TakenInSomeOrder frontDue frontAct frontActs u t ∧
        ((∀ a ∈ frontActs, frontDue a u = false) → t = u))

/-- A reverse count lowers W by 1 and leaves F. It raises REVERSE_LIMIT, and spends the reverse detector,
exactly when it takes the reverse distance to reverse_limit + 1 with the detector ARMED in RUN, DRAIN or
HALTED. -/
def Obligations.ReverseCountRaisesReverseLimitOnce : Prop :=
  ∀ (s : State) (m : MachineRecord), s.pxm.resetAsserted = false → s.rnc.record = some m →
    ∃ t, exec .reverseCount s = .next t ∧
      t.trc.web = s.trc.web - 1#32 ∧ t.trc.front = s.trc.front ∧
      t.trc.pins = ⟨s.trc.pins.b, !s.trc.pins.a⟩ ∧ t.trc.reference = t.trc.pins ∧
      (FaultsRaised s → s.trc.reverseDetector = .armed →
        (s.trc.front - (s.trc.web - 1#32)).toNat = m.reverseLimit + 1 →
        t.trc.reverseDetector = .spent ∧ HaltingTaken .reverseLimit s t) ∧
      (¬(FaultsRaised s ∧ s.trc.reverseDetector = .armed ∧
          (s.trc.front - (s.trc.web - 1#32)).toNat = m.reverseLimit + 1) →
        t = { s with trc := { s.trc with
          pins := t.trc.pins, reference := t.trc.pins, web := t.trc.web } })

/-- An illegal transition leaves W and F and takes the present pair as the reference. It raises ENCODER,
and spends the encoder detector, exactly when the detector is ARMED in RUN, DRAIN or HALTED; a cut that
stands ready at the change to HALTED fires within the event. -/
def Obligations.IllegalTransitionRaisesEncoderOnce : Prop :=
  ∀ s : State, s.pxm.resetAsserted = false →
    ∃ t, exec .illegalTransition s = .next t ∧
      t.trc.web = s.trc.web ∧ t.trc.front = s.trc.front ∧
      t.trc.pins = ⟨!s.trc.pins.a, !s.trc.pins.b⟩ ∧ t.trc.reference = t.trc.pins ∧
      (FaultsRaised s → s.trc.encoderDetector = .armed →
        t.trc.encoderDetector = .spent ∧ ∃ u : State, u = { s with trc := t.trc } ∧
          HaltingTested .encoder u t) ∧
      (¬(FaultsRaised s ∧ s.trc.encoderDetector = .armed) →
        t = { s with trc := { s.trc with pins := t.trc.pins, reference := t.trc.pins } })

/-- The counts travelled in a latency at a speed, rounded half upward and capped. -/
def LeadIs (v us cap lead : Nat) : Prop := lead = min cap ((v * us + 500) / 1000)

/-- A speed sample: v is the counts travelled since the last sample, read as a signed number and clamped
to 0 to 4095; the standstill count rises with v = 0 and falls to 0 otherwise; W and F stay; the leads of
the knife and of every flap are formed from the new v. Every fire, pass end and decision that these
leads make due is then taken within the sample, in some order; that leaves what no reaction changes, and
the sample does nothing more where nothing is due. -/
def Obligations.SpeedSampleFormsTheSpeedAndTheLeads : Prop :=
  ∀ (s : State) (m : MachineRecord), s.pxm.resetAsserted = false → s.rnc.record = some m →
    ∃ t u, exec .speedSample s = .next t ∧
      ((s.trc.web - s.trc.previousSample).toNat < 2147483648 →
        t.trc.speed = min 4095 (s.trc.web - s.trc.previousSample).toNat) ∧
      (2147483648 ≤ (s.trc.web - s.trc.previousSample).toNat → t.trc.speed = 0) ∧
      t.trc.web = s.trc.web ∧ t.trc.front = s.trc.front ∧ t.trc.previousSample = s.trc.web ∧
      (t.trc.speed = 0 → s.trc.standstill ≤ 200 →
        t.trc.standstill = min 200 (s.trc.standstill + 1)) ∧
      (t.trc.speed ≠ 0 → t.trc.standstill = 0) ∧
      LeadIs t.trc.speed m.knifeLatency m.leadMax t.knt.lead ∧
      (∀ l, LeadIs t.trc.speed m.flapLatency m.leadMax (t.lnd.get l).flapLead) ∧
      u = { s with trc := t.trc, knt := { s.knt with lead := t.knt.lead }, lnd := u.lnd } ∧
      (∀ l, u.lnd.get l = { s.lnd.get l with flapLead := (t.lnd.get l).flapLead }) ∧
      ReactionFrame u t ∧ TakenInSomeOrder sampleDue sampleAct targetActs u t ∧
      ((∀ a ∈ targetActs, sampleDue a u = false) → t = u)

/-- The standstill count: a sample with v = 0 raises it to at most 200 and one with v greater than 0 sets
it to 0; power-on reset and RESTART set it to 0; START, ABORT and ACK_FAULT leave it; ACK_FAULT is
accepted when it is 200. -/
def Obligations.StandstillCountRule : Prop :=
  ∀ s : State,
    (s.pxm.resetAsserted = false → s.trc.standstill ≤ 200 → ∃ t, exec .speedSample s = .next t ∧
      (t.trc.speed = 0 → t.trc.standstill = min 200 (s.trc.standstill + 1)) ∧
      (0 < t.trc.speed → t.trc.standstill = 0)) ∧
    (∃ t, exec .powerOnReset s = .next t ∧ t.trc.standstill = 0) ∧
    (∃ t, exec .restart s = .next t ∧ t.trc.standstill = 0) ∧
    (∃ t, exec .start s = .next t ∧ t.trc.standstill = s.trc.standstill) ∧
    (∃ t, exec .abort s = .next t ∧ t.trc.standstill = s.trc.standstill) ∧
    (∃ t, exec .ackFault s = .next t ∧ t.trc.standstill = s.trc.standstill ∧
      (s.rnc.runState = .halted → s.trc.standstill = 200 →
        t.rnc.result = .accepted ∧ t.rnc.runState = .ready) ∧
      (s.trc.standstill ≠ 200 → t.rnc.result = .refused ∧ t.rnc.runState = s.rnc.runState))

/-- The change out of a zone whose condition a speed meets. -/
def ChangeMet (m : MachineRecord) (v : Nat) : Zone → ZoneChange → Prop
  | .crawl, .crawlToRun => m.vCrawl + m.zoneHyst ≤ v
  | .run, .runToCrawl => v < m.vCrawl
  | .run, .runToOver => m.vOver ≤ v
  | .over, .overToRun => v + m.zoneHyst < m.vOver
  | _, _ => False

/-- Zones change at the eighth consecutive sample that meets the condition: the first such sample makes
the change the pending one, six more count it, the eighth makes it, and a sample that meets no condition
starts again. -/
def Obligations.ZoneChangesAtTheEighthSample : Prop :=
  ∀ (s : State) (m : MachineRecord), s.pxm.resetAsserted = false → s.rnc.record = some m →
    m.vCrawl < m.vOver → s.trc.deglitchCount ≤ 7 →
    ∃ t, exec .speedSample s = .next t ∧
      (∀ c, ChangeMet m t.trc.speed s.trc.zone c → s.trc.pendingChange ≠ some c →
        t.trc.zone = s.trc.zone ∧ t.trc.pendingChange = some c ∧ t.trc.deglitchCount = 1) ∧
      (∀ c, ChangeMet m t.trc.speed s.trc.zone c → s.trc.pendingChange = some c →
        s.trc.deglitchCount < 7 →
        t.trc.zone = s.trc.zone ∧ t.trc.pendingChange = some c ∧
          t.trc.deglitchCount = s.trc.deglitchCount + 1) ∧
      (∀ c, ChangeMet m t.trc.speed s.trc.zone c → s.trc.pendingChange = some c →
        s.trc.deglitchCount = 7 →
        t.trc.zone = c.destination ∧ t.trc.pendingChange = none ∧ t.trc.deglitchCount = 0) ∧
      ((∀ c, ¬ChangeMet m t.trc.speed s.trc.zone c) →
        t.trc.zone = s.trc.zone ∧ t.trc.pendingChange = none ∧ t.trc.deglitchCount = 0)

/-- The commands that set the whole part back: power-on reset, and RESTART, however it is spelled. -/
def isReset (c : Instr) : Prop := spelled c = .powerOnReset ∨ spelled c = .restart

/-- The leads of the knife and of the flaps: at each speed sample they are formed from the sampled v by the
machine record in use, and are 0 at every sample with no record held; START forms them at once from the v
in effect and the values it has read; power-on reset and RESTART leave 0; and they are held at every
other command. -/
def Obligations.LeadsAreFormedAtSamplesAndStart : Prop :=
  (∀ (s : State) (m : MachineRecord), s.pxm.resetAsserted = false → s.rnc.record = some m →
    ∃ t, exec .speedSample s = .next t ∧
      LeadIs t.trc.speed m.knifeLatency m.leadMax t.knt.lead ∧
      ∀ l, LeadIs t.trc.speed m.flapLatency m.leadMax (t.lnd.get l).flapLead) ∧
  (∀ s : State, s.pxm.resetAsserted = false → s.rnc.record = none →
    ∃ t, exec .speedSample s = .next t ∧ t.knt.lead = 0 ∧ ∀ l, (t.lnd.get l).flapLead = 0) ∧
  (∀ (s : State) (m : MachineRecord), s.rnc.runState = .off ∨ s.rnc.runState = .ready →
    MayBegin .machine s → m = readMachineRecord s.pxm.memory → machineIndex m = 0 →
    ∃ t, exec .start s = .next t ∧ LeadIs s.trc.speed m.knifeLatency m.leadMax t.knt.lead ∧
      ∀ l, LeadIs s.trc.speed m.flapLatency m.leadMax (t.lnd.get l).flapLead) ∧
  (∀ (c : Instr) (s : State), isReset c →
    ∃ t, exec c s = .next t ∧ t.knt.lead = 0 ∧ ∀ l, (t.lnd.get l).flapLead = 0) ∧
  ∀ (c : Instr) (s t : State), exec c s = .next t →
    t.knt.lead ≠ s.knt.lead ∨ (∃ l, (t.lnd.get l).flapLead ≠ (s.lnd.get l).flapLead) →
    c = .speedSample ∨ spelled c = .start ∨ isReset c

/-- A command that writes exchange memory. -/
def writesMemory : Instr → Prop
  | .powerOnReset | .memoryWrite _ _ | .notePagePosting _ _ | .halfFreeing _ _
  | .pageTaking | .fateWrite | .pageFinishing
  | .reportWrite | .ageTimerExpiry | .liveStatusRefresh => True
  | _ => False

/-- Which commands can change what. W changes by counts and resets alone; F by forward counts, START and
resets; the speed, the standstill count and the sample count by speed samples and resets; the zone by
speed samples, START and resets; hold flags by LANE notes, START and resets; the horizon by page
finishings, START and resets; the machine record in use by START and resets; the enables by ATTN_MASK
writes and resets; exchange memory by the commands that write it, by a RESTART that cuts a burst off, and
by a waiting write or a half state access when its turn comes; the tear latch by reads, also one that
waited, and resets. A lane that joins a waiting set has age 0, and ages rise by aging ticks alone. -/
def Obligations.EachSettingChangesOnlyByItsCommands : Prop :=
  ∀ (c : Instr) (s t : State), exec c s = .next t →
    (t.trc.web ≠ s.trc.web → c = .forwardCount ∨ c = .reverseCount ∨ isReset c) ∧
    (t.trc.front ≠ s.trc.front → c = .forwardCount ∨ spelled c = .start ∨ isReset c) ∧
    (t.trc.speed ≠ s.trc.speed ∨ t.trc.standstill ≠ s.trc.standstill ∨
      t.trc.previousSample ≠ s.trc.previousSample → c = .speedSample ∨ isReset c) ∧
    (t.trc.zone ≠ s.trc.zone → c = .speedSample ∨ spelled c = .start ∨ isReset c) ∧
    (∀ l, (t.skc.get l).hold ≠ (s.skc.get l).hold →
      c = .laneNote ∨ spelled c = .start ∨ isReset c) ∧
    (t.ntp.horizon ≠ s.ntp.horizon → c = .pageFinishing ∨ spelled c = .start ∨ isReset c) ∧
    (t.rnc.record ≠ s.rnc.record → spelled c = .start ∨ isReset c) ∧
    (t.pxm.mask ≠ s.pxm.mask → (∃ w, c = .attnMaskWrite w) ∨ isReset c) ∧
    (t.pxm.memory ≠ s.pxm.memory → writesMemory c ∨ isReset c ∨
      s.rpw.halfWork ≠ [] ∨ ∃ a w, PressAccess.write a w ∈ s.pxm.waiting) ∧
    (t.pxm.tearLatch ≠ s.pxm.tearLatch → (∃ a, c = .memoryRead a) ∨ isReset c ∨
      ∃ a, PressAccess.read a ∈ s.pxm.waiting) ∧
    ∀ d l a, (t.tka.waiting.get d).get l = some a →
      (s.tka.waiting.get d).get l = some a ∨ a = 0 ∨ c = .agingTick

/-! ### Registration and the track (02_registration_tracking.md, 03_the_row_track.md) -/

/-- A rising edge of MARK at the front in a tracking state starts a deglitch with the front as its edge
point, with the time mark_min of the job; behind the front, or in IDLE, it changes nothing but the level
of MARK. A fall of MARK ends a deglitch as a glitch and raises the glitch count; with no deglitch it
changes nothing but the level. A coast that waited for the deglitch is then taken within the event: it
leaves what no reaction changes, and nothing more happens where no coast is due. That the coast is taken
at the fall is log entry 21. -/
def Obligations.MarkEdgesStartAndEndADeglitch : Prop :=
  ∀ s : State,
    (∀ c, s.mkt.deglitch = none → s.jbc.current = some c → s.mkt.state ≠ .idle →
      s.trc.web = s.trc.front →
      exec .markEdge s = .next { s with mkt := { s.mkt with
        markActive := true, deglitch := some ⟨s.trc.front, c.job.markMin⟩ } }) ∧
    (s.mkt.deglitch = none → s.mkt.state = .idle ∨ s.trc.web ≠ s.trc.front →
      exec .markEdge s = .next { s with mkt := { s.mkt with markActive := true } }) ∧
    (s.mkt.deglitch = none →
      exec .markFall s = .next { s with mkt := { s.mkt with markActive := false } }) ∧
    ∀ d, s.mkt.deglitch = some d → s.mkt.glitchCount ≤ 65535 → ∀ u : State,
      u = { s with mkt := { s.mkt with markActive := false, deglitch := none,
                                       glitchCount := min 65535 (s.mkt.glitchCount + 1) } } →
      ∃ t, exec .markFall s = .next t ∧ ReactionFrame u t ∧ (coastPoint u = none → t = u) ∧
        ∀ x, coastPoint u = some x → t = takeCoast x u

/-- The reasons of a new row's OPEN entry for a lane: LEAD_IN and REGISTER by its origin, DEFECT and
SPLICE by the pending spans it overlaps, GUARD when its lead point is before the guard, and no other. -/
structure NewReasons (s : State) (c : JobContext) (o : Origin) (lead cut : Count) (l : Lane)
    (x : Reasons) : Prop where
  leadIn : x.leadIn = true ↔ o = .leadIn
  register : x.register = true ↔ o = .coasted ∧ c.job.coastAccept = false
  defect : x.defect = true ↔ ∃ p ∈ s.ntp.spans, p.reason = .defect ∧ p.lanes.get l = true ∧
    before p.start cut = true ∧ beyond p.stop lead = true
  splice : x.splice = true ↔ ∃ p ∈ s.ntp.spans, p.reason = .splice ∧ p.lanes.get l = true ∧
    before p.start cut = true ∧ beyond p.stop lead = true
  guard : x.guard = true ↔ ∃ g, s.ntp.guardPoint = some g ∧ before lead g = true
  others : x.stopped = false ∧ x.knife = false ∧ x.speed = false ∧ x.uninspected = false ∧
    x.held = false

/-- The conditions of a fire of the row's cut, but for its being the next cut. -/
structure KnifeReady (s : State) (r : Row) : Prop where
  target : atOrBeyond s.trc.front (retreat r.fireBase s.knt.lead) = true
  idle : s.knt.cycle = none
  inhibit : s.knt.inhibit = false
  runState : FaultsRaised s
  front : s.trc.web = s.trc.front
  order : ∀ f, s.knt.lastFire = some f → beyond s.trc.front f = true

/-- The trail cut of a row `r` just made behind the rows `kept`: PENDING, or FIRING at the front when it is
the next cut at once, no kept row having a PENDING cut, and the knife is ready to fire it. -/
structure NewTrail (s t : State) (kept : List Row) (r : Row) : Prop where
  fires : (∀ q ∈ kept, q.trail ≠ .pending) → KnifeReady s r →
    r.trail = .firing s.trc.front ∧ t.knt.lastFire = some s.trc.front ∧ t.knt.output = .asserted ∧
    ∃ c, t.knt.cycle = some c ∧ c.row = r.number ∧ c.fireCount = s.trc.front ∧ c.tracked = true
  waits : (∃ q ∈ kept, q.trail = .pending) ∨ ¬KnifeReady s r → r.trail = .pending

/-- The newest row of `t`, made at mark point `e` with origin `o`, class `cls` and stretch `st`. -/
structure NewRow (s : State) (c : JobContext) (m : MachineRecord) (o : Origin) (cls : RowClass)
    (e : Count) (st : Nat) (r : Row) : Prop where
  number : r.number = rowSucc s.rot.lastNumber
  tag : r.tag = .current ∧ r.jobId = c.job.jobId
  origin : r.origin = o ∧ r.mark = e
  cut : r.cut = advance e (effective st (c.job.offset cls))
  fireBase : r.fireBase = advance r.cut m.dKnife
  leadIn : o = .leadIn → r.lead = retreat r.cut (effective st c.job.pitchA) ∧ r.leadCut = none
  lead : o ≠ .leadIn → ∀ n, newestRow s = some n → r.lead = n.cut ∧ r.leadCut = n.trail.asLead
  lanes : ∀ l, (r.entries.get l).isSome = c.job.active l
  reasons : ∀ l x, r.entries.get l = some (.undecided x) → NewReasons s c o r.lead r.cut l x

/-- A row created by a request of the tracker: appended with the next number, its cut PENDING or fired
within the event, the overflow detector armed,
the tracker's newest row and expected point formed from it, the pending spans behind its cut point
dropped, and the job's last row raised. -/
structure RowMade (s t : State) (c : JobContext) (m : MachineRecord) (o : Origin) (cls : RowClass)
    (e : Count) (st : Nat) : Prop where
  number : t.rot.lastNumber = rowSucc s.rot.lastNumber
  detector : t.rot.overflowDetector = .armed
  track : trackNumbers t = trackNumbers s ++ [rowSucc s.rot.lastNumber]
  row : ∃ r, newestRow t = some r ∧ NewRow s c m o cls e st r ∧ NewTrail s t s.rot.track r ∧
    t.mkt.newest = some ⟨e, cls, o, r.cut, r.fireBase⟩ ∧
    t.ntp.spans = s.ntp.spans.filter (fun p => beyond p.stop r.cut) ∧
    (∀ g, t.ntp.guardPoint = some g ↔ s.ntp.guardPoint = some g ∧ before r.lead g = true)
  expected : t.mkt.expected = some (advance e (effective st (c.job.pitch cls)))
  stretch : t.mkt.stretch = st
  context : ∃ c', t.jbc.current = some c' ∧ c'.job = c.job ∧
    c'.lastRow = some (rowSucc s.rot.lastNumber) ∧
    c'.firstRow = some (c.firstRow.getD (rowSucc s.rot.lastNumber))

/-- A mark is kept when its deglitch's counts have passed with MARK active. -/
def Kept (s : State) (d : Deglitch) : Prop :=
  s.mkt.deglitch = some d ∧ s.mkt.markActive = true ∧
    atOrBeyond s.trc.front (advance d.edge d.hold) = true

/-- A mark kept in ACQUIRE makes a LEAD_IN row of class A when its fire base lies beyond the newest row's,
with its trail cut PENDING, or FIRING when it is the next cut and the knife is ready to fire it, and leaves the tracker LOCKED with coast count 0; otherwise it is a stray, and only the stray count
rises. -/
def Obligations.MarkKeptInAcquireMakesALeadInRow : Prop :=
  ∀ (s : State) (c : JobContext) (m : MachineRecord) (d : Deglitch),
    s.rnc.runState = .run ∨ s.rnc.runState = .halted → s.jbc.current = some c →
    s.rnc.record = some m → Kept s d → s.mkt.state = .acquire → s.rot.track.length < 64 →
    TrackInv s →
    ((∀ n, s.mkt.newest = some n → beyond (advance (advance d.edge
        (effective s.mkt.stretch c.job.offsetA)) m.dKnife) n.fireBase = true) →
      ∃ t, exec .markKept s = .next t ∧ ReactionFrame s t ∧
        RowMade s t c m .leadIn .a d.edge s.mkt.stretch ∧ t.mkt.state = .locked ∧
        t.mkt.coastCount = 0 ∧ t.mkt.deglitch = none ∧ t.mkt.strayCount = s.mkt.strayCount) ∧
    (∀ n, s.mkt.newest = some n → beyond (advance (advance d.edge
        (effective s.mkt.stretch c.job.offsetA)) m.dKnife) n.fireBase = false →
      s.mkt.strayCount ≤ 65535 →
      exec .markKept s = .next { s with mkt := { s.mkt with
        deglitch := none, strayCount := min 65535 (s.mkt.strayCount + 1) } })

/-- The stretch estimate at a sensed row: moved toward the measured ratio for a row taken in LOCKED after a
SENSED row, and as it was otherwise. -/
def sensedStretch (s : State) (c : JobContext) (n : NewestRow) (e : Count) : Nat :=
  if s.mkt.state = .locked ∧ n.origin = .sensed then
    stretchUpdate s.mkt.stretch (e - n.mark).toNat (c.job.pitch n.cls)
  else s.mkt.stretch

/-- A kept mark that its tracker state admits by place: within the window in LOCKED and COASTING, at or
beyond half a shortest pitch past the newest mark in REACQUIRE. -/
def Admitted (s : State) (c : JobContext) (n : NewestRow) (e : Count) : Prop :=
  ((s.mkt.state = .locked ∨ s.mkt.state = .coasting) ∧ ∃ x, s.mkt.expected = some x ∧
    atOrBeyond e (retreat x c.job.markWindow) = true ∧
    atOrBeyond (advance x c.job.markWindow) e = true) ∨
  (s.mkt.state = .reacquire ∧
    atOrBeyond e (advance n.mark (effective s.mkt.stretch c.job.pitchMin / 2)) = true)

/-- A kept mark admitted in LOCKED, COASTING or REACQUIRE, whose cut lies beyond the newest row's cut,
makes a SENSED row of the next class, its trail cut PENDING or fired within the event, and leaves the
tracker LOCKED with coast count 0. A kept mark that fails either test is a stray: no row is made for it, the stray count rises, and a coast that waited for
it is then taken within the event (log entry 21). -/
def Obligations.MarkKeptInTheWindowMakesASensedRow : Prop :=
  ∀ (s : State) (c : JobContext) (m : MachineRecord) (d : Deglitch) (n : NewestRow),
    s.rnc.runState = .run ∨ s.rnc.runState = .halted → s.jbc.current = some c →
    s.rnc.record = some m → Kept s d → s.mkt.newest = some n →
    s.mkt.state = .locked ∨ s.mkt.state = .coasting ∨ s.mkt.state = .reacquire →
    s.rot.track.length < 64 → TrackInv s →
    (Admitted s c n d.edge →
      beyond (advance d.edge (effective s.mkt.stretch (c.job.offset (c.job.nextClass n.cls))))
        n.cut = true →
      ∃ t, exec .markKept s = .next t ∧ ReactionFrame s t ∧
        RowMade s t c m .sensed (c.job.nextClass n.cls) d.edge (sensedStretch s c n d.edge) ∧
        t.mkt.state = .locked ∧ t.mkt.coastCount = 0 ∧ t.mkt.deglitch = none ∧
        (∀ w, s.mkt.exemption = some w →
          t.mkt.exemption = if atOrBeyond d.edge w.stop then none else some w)) ∧
    (¬(Admitted s c n d.edge ∧
        beyond (advance d.edge (effective s.mkt.stretch (c.job.offset (c.job.nextClass n.cls))))
          n.cut = true) →
      s.mkt.strayCount ≤ 65535 → ∀ u : State,
      u = { s with mkt := { s.mkt with
        deglitch := none, strayCount := min 65535 (s.mkt.strayCount + 1) } } →
      ∃ t, exec .markKept s = .next t ∧ ReactionFrame s t ∧
        t.mkt.strayCount = u.mkt.strayCount ∧ (coastPoint u = none → t = u) ∧
        ∀ x, coastPoint u = some x → t = takeCoast x u)

/-- The stretch estimate moves one eighth of the way toward the measured ratio, rounded toward the value it
has, and stays from 64225 to 66847. -/
def Obligations.StretchMovesAnEighthTowardTheMeasure : Prop :=
  ∀ s meas pitch : Nat, 64225 ≤ s → s ≤ 66847 → 0 < pitch →
    (s ≤ meas * 65536 / pitch →
      stretchUpdate s meas pitch = min 66847 (s + (meas * 65536 / pitch - s) / 8)) ∧
    (meas * 65536 / pitch ≤ s →
      stretchUpdate s meas pitch = max 64225 (s - (s - meas * 65536 / pitch) / 8))

/-- The expected point lies within the exemption span. -/
def Exempt (s : State) (x : Count) : Prop :=
  ∃ w, s.mkt.exemption = some w ∧ atOrBeyond x w.start = true ∧ before x w.stop = true

/-- The front has reached the coast point, the first count beyond the window of the expected point. -/
def CoastReached (s : State) (c : JobContext) (x : Count) : Prop :=
  (s.mkt.state = .locked ∨ s.mkt.state = .coasting ∨ s.mkt.state = .reacquire) ∧
  s.mkt.expected = some x ∧
  atOrBeyond s.trc.front (advance x (c.job.markWindow + 1)) = true

/-- A coast makes a COASTED row of the next class at the expected point, its trail cut PENDING or fired
within the event, keeps the stretch estimate, and passes LOCKED to COASTING. It raises the coast count unless the point is exempt, and passing coast_limit
raises MARK_LOST. It waits while a deglitch is in progress whose mark the state would admit. -/
def Obligations.CoastMakesARowAtTheExpectedPoint : Prop :=
  (∀ (s : State) (c : JobContext) (n : NewestRow) (d : Deglitch), s.jbc.current = some c →
    s.mkt.newest = some n → s.mkt.deglitch = some d → Admitted s c n d.edge →
    exec .coast s = .next s) ∧
  ∀ (s : State) (c : JobContext) (m : MachineRecord) (n : NewestRow) (x : Count),
    s.rnc.runState = .run ∨ s.rnc.runState = .halted → s.jbc.current = some c →
    s.rnc.record = some m → s.mkt.newest = some n → CoastReached s c x →
    s.mkt.deglitch = none → s.rot.track.length < 64 → s.mkt.coastCount ≤ 255 → TrackInv s →
    ∃ t, exec .coast s = .next t ∧ ReactionFrame s t ∧
      RowMade s t c m .coasted (c.job.nextClass n.cls) x s.mkt.stretch ∧
      (s.mkt.state = .reacquire → t.mkt.state = .reacquire) ∧
      (s.mkt.state ≠ .reacquire → t.mkt.state = .coasting) ∧
      (Exempt s x → t.mkt.coastCount = s.mkt.coastCount) ∧
      (¬Exempt s x → t.mkt.coastCount = min 255 (s.mkt.coastCount + 1)) ∧
      (¬Exempt s x → s.mkt.coastCount = c.job.coastLimit →
        t.rnc.runState = .halted ∧ t.pxm.attention.fault = true ∧
        (s.rnc.runState = .run → t.rnc.faultCode = some .markLost)) ∧
      (Exempt s x ∨ s.mkt.coastCount ≠ c.job.coastLimit →
        t.rnc.runState = s.rnc.runState ∧ t.rnc.faultCode = s.rnc.faultCode)

/-- A mark kept at edge point `e` asks for a row: in ACQUIRE a LEAD_IN row whose fire base lies beyond the
newest row's, elsewhere a SENSED row that the tracker's state admits and whose cut lies beyond the
newest row's. -/
def MarkAsks (s : State) (c : JobContext) (m : MachineRecord) (e : Count) : Prop :=
  (s.mkt.state = .acquire ∧ ∀ n, s.mkt.newest = some n → beyond (advance (advance e
    (effective s.mkt.stretch c.job.offsetA)) m.dKnife) n.fireBase = true) ∨
  ∃ n, s.mkt.newest = some n ∧ Admitted s c n e ∧
    beyond (advance e (effective s.mkt.stretch (c.job.offset (c.job.nextClass n.cls)))) n.cut = true

/-- The oldest row `r` of the track, followed by `n`, retired for a new row: a PENDING cut of it leaves the
next row a bad lead cut at the retired fire base, and the new row's cut is PENDING or fires at once. -/
def OldestRetired (s t : State) (r n : Row) : Prop :=
  trackNumbers t = (trackNumbers s).tail ++ [rowSucc s.rot.lastNumber] ∧
  t.rot.lastNumber = rowSucc s.rot.lastNumber ∧ t.rot.overflowDetector = .armed ∧
  ∃ n', t.rot.track.head? = some n' ∧ n'.number = n.number ∧
    (r.trail = .pending → n.origin ≠ .leadIn → n'.leadCut = some ⟨r.fireBase, true⟩) ∧
    (r.trail ≠ .pending ∨ n.origin = .leadIn → n'.leadCut = n.leadCut) ∧
    (TrackInv s → ∃ q, newestRow t = some q ∧ NewTrail s t s.rot.track.tail q)

/-- A row asked for by the tracker is refused: TRACK_OVERFLOW is raised once, with the knife's test at the
change to HALTED, and the tracker, otherwise as `k` has it, passes to ACQUIRE with no row made. -/
def RowRefused (s t : State) (k : Mkt) : Prop :=
  ∀ u : State, u = { s with
      mkt := { k with state := .acquire, coastCount := 0, expected := none },
      rot := { s.rot with overflowDetector := .spent } } →
    (s.rot.overflowDetector = .armed → HaltingTested .trackOverflow u t) ∧
    (s.rot.overflowDetector = .spent → t = u)

/-- A coast or a kept mark that finds the track at 64 rows: when the oldest row is fully decided it retires,
a PENDING cut of it leaves the next row a bad lead cut at the retired fire base, and the new row joins,
its trail cut PENDING or fired within the event;
when it is not, the row is refused, TRACK_OVERFLOW is raised once, and the tracker passes to ACQUIRE with
no row made and its stretch estimate as it was, the deglitch of the kept mark being over. -/
def Obligations.FullTrackRetiresItsOldestRowOrOverflows : Prop :=
  ∀ (s : State) (c : JobContext) (m : MachineRecord) (r n : Row) (rest : List Row),
    s.rnc.runState = .run ∨ s.rnc.runState = .halted → s.jbc.current = some c →
    s.rnc.record = some m → s.rot.track = r :: n :: rest → s.rot.track.length = 64 →
    (∀ x, CoastReached s c x → s.mkt.deglitch = none →
      ((∀ l y, r.entries.get l ≠ some (.undecided y)) →
        ∃ t, exec .coast s = .next t ∧ ReactionFrame s t ∧ OldestRetired s t r n) ∧
      (∀ l y, r.entries.get l = some (.undecided y) →
        ∃ t, exec .coast s = .next t ∧ RowRefused s t s.mkt)) ∧
    ∀ d, Kept s d → MarkAsks s c m d.edge →
      ((∀ l y, r.entries.get l ≠ some (.undecided y)) →
        ∃ t, exec .markKept s = .next t ∧ ReactionFrame s t ∧ OldestRetired s t r n ∧
          t.mkt.state = .locked ∧ t.mkt.coastCount = 0 ∧ t.mkt.deglitch = none) ∧
      ∀ l y, r.entries.get l = some (.undecided y) →
        ∃ t, exec .markKept s = .next t ∧ RowRefused s t { s.mkt with deglitch := none }

/-- The span list `q'` is `q` with `p` put after every span whose start is at or before its own and before
the first whose start is beyond it. -/
def SpanInserted (p : PendingSpan) (q q' : List PendingSpan) : Prop :=
  ∃ a b, q = a ++ b ∧ q' = a ++ p :: b ∧ (∀ x ∈ a, beyond x.start p.start = false) ∧
    ∀ x ∈ b.head?, beyond x.start p.start = true

/-- A span's remainder, what of it lies at or beyond the newest row's cut point, in the lanes `mask` names,
joins the pending span list with its reason while the list holds fewer than 32 spans, and raises the
guard to the span's end when it holds 32; a span with no remainder or no lane leaves both. -/
structure RemainderTaken (start stop : Count) (mask : Lane → Prop) (reason : SpanReason)
    (s t : State) : Prop where
  held : (∀ r, newestRow s = some r → beyond stop r.cut = true) → (∃ l, mask l) →
    s.ntp.spans.length < 32 → t.ntp.guardPoint = s.ntp.guardPoint ∧
    ∃ p, SpanInserted p s.ntp.spans t.ntp.spans ∧ p.stop = stop ∧ p.reason = reason ∧
      (∀ l, p.lanes.get l = true ↔ mask l) ∧ (newestRow s = none → p.start = start) ∧
      ∀ r, newestRow s = some r → p.start = if atOrBeyond start r.cut then start else r.cut
  guarded : (∀ r, newestRow s = some r → beyond stop r.cut = true) → (∃ l, mask l) →
    32 ≤ s.ntp.spans.length → t.ntp.spans = s.ntp.spans ∧
    (s.ntp.guardPoint = none → t.ntp.guardPoint = some stop) ∧
    ∀ g, s.ntp.guardPoint = some g → t.ntp.guardPoint = some (if beyond stop g then stop else g)
  without : (∃ r, newestRow s = some r ∧ beyond stop r.cut = false) ∨ (∀ l, ¬mask l) →
    t.ntp.spans = s.ntp.spans ∧ t.ntp.guardPoint = s.ntp.guardPoint

/-- The row with a reason added to the OPEN entries of the lanes that `hit` names, and nothing else
changed. -/
def ReasonAdded (reason : Reason) (hit : Row → Lane → Bool) (x y : Row) : Prop :=
  (∀ l z, x.entries.get l = some (.undecided z) → hit x l = true →
    y.entries.get l = some (.undecided (z.set reason true))) ∧
  (∀ l, (¬∃ z, x.entries.get l = some (.undecided z)) ∨ hit x l = false →
    y.entries.get l = x.entries.get l) ∧
  y = { x with entries := y.entries }

/-- The rows, oldest first, whose GOOD label for the lane is hit and lies in the stack of an id. -/
def suspectRows (hit : Row → Lane → Bool) (track : List Row) (l : Lane) (id : Nat) : List RowNum :=
  (track.filter fun r => hit r l && r.entries.get l == some (.good id)).map fun r => r.number

/-- A stack with one suspect mark of each row of a list. -/
def Suspected (rows : List RowNum) (x y : Stack) : Prop :=
  y = { x with suspect := y.suspect, firstSuspect := y.firstSuspect } ∧
  (x.suspect ≤ 65535 → y.suspect = min 65535 (x.suspect + rows.length)) ∧
  y.firstSuspect = match x.firstSuspect with
    | some n => some n
    | none => rows.head?

/-- The SUSPECT records of the GOOD labels that are hit and whose stack has left its line, in row and then
lane order. -/
def suspectRecords (hit : Row → Lane → Bool) (s : State) : List Record :=
  s.rot.track.flatMap fun r => allLanes.filterMap fun l =>
    match r.entries.get l with
    | some (.good id) =>
      if hit r l && !((s.skc.get l).line.any fun x => x.id == id)
      then some (.suspect l id r.number) else none
    | _ => none

/-- What becomes of the lane entries that `hit` names: every OPEN one takes the reason; every GOOD label is
made suspect, in its stack while the stack is in its lane's line and with a SUSPECT record otherwise,
records beyond the queue's room being dropped and counted; REJECT entries stay. -/
structure HitsTaken (reason : Reason) (hit : Row → Lane → Bool) (s t : State) : Prop where
  rows : List.Forall₂ (ReasonAdded reason hit) s.rot.track t.rot.track
  numbering : t.rot = { s.rot with track := t.rot.track }
  suspects : ∀ l, List.Forall₂ (fun x y => Suspected (suspectRows hit s.rot.track l x.id) x y)
    (s.skc.get l).line (t.skc.get l).line
  lanes : ∀ l, t.skc.get l = { s.skc.get l with line := (t.skc.get l).line }
  queued : t.rpw.queue = s.rpw.queue ++
    (suspectRecords hit s).take (4 - otherRecords s.rpw.queue)
  dropped : s.rpw.droppedCount ≤ 65535 → t.rpw.droppedCount = min 65535 (s.rpw.droppedCount +
    ((suspectRecords hit s).length - (4 - otherRecords s.rpw.queue)))
  pending : t.rpw.dropPending = (s.rpw.dropPending ||
    decide (4 - otherRecords s.rpw.queue < (suspectRecords hit s).length))

/-- A row of the CURRENT or PREVIOUS job whose label span overlaps [start, stop). -/
def rowHit (start stop : Count) (r : Row) : Bool :=
  r.tag != .ended && before start r.cut && beyond stop r.lead

/-- The reacquire point, when the front is at or beyond it, is cleared, and LOCKED and COASTING pass to
REACQUIRE; nothing else changes. Before it is reached nothing changes.
A splice edge outside OFF hands the tracker the splice's web point, F + d_splice: the
point is held when none is held or when it is beyond the held one, with the exemption span around it or
stretched to it, and it is reached at once when the front is at or beyond it. The splice span, from
splice_margin before the point to splice_margin beyond it, adds SPLICE to every OPEN entry of the rows it
overlaps and makes their GOOD labels suspect; its remainder is held for every lane, or raises the guard.
With splice_margin 0 the span marks nothing and is not held. In OFF the edge changes nothing. -/
def Obligations.SplicePointsLeadToReacquire : Prop :=
  (∀ (s : State) (q : Count), s.mkt.reacquirePoint = some q →
    (atOrBeyond s.trc.front q = true →
      (s.mkt.state = .locked ∨ s.mkt.state = .coasting ∨ s.mkt.state = .reacquire →
        exec .reacquirePointReached s = .next { s with mkt := { s.mkt with
          reacquirePoint := none, state := .reacquire } }) ∧
      (s.mkt.state = .acquire ∨ s.mkt.state = .idle →
        exec .reacquirePointReached s =
          .next { s with mkt := { s.mkt with reacquirePoint := none } })) ∧
    (before s.trc.front q = true → exec .reacquirePointReached s = .next s)) ∧
  ∀ (s : State) (m : MachineRecord), s.rnc.record = some m →
    (s.rnc.runState = .off → exec .splice s = .next s) ∧
    (s.rnc.runState ≠ .off → ∀ q start stop : Count,
      q = s.trc.front + BitVec.ofNat 32 m.dSplice → m.spliceMargin ≤ 65535 →
      start = q - BitVec.ofNat 32 m.spliceMargin → stop = q + BitVec.ofNat 32 m.spliceMargin →
      ∃ t, exec .splice s = .next t ∧ ReactionFrame s t ∧
        (before s.trc.front q = true → s.mkt.reacquirePoint = none →
          t.mkt = { s.mkt with reacquirePoint := some q, exemption := some ⟨start, stop⟩ }) ∧
        (∀ p w, before s.trc.front q = true → s.mkt.reacquirePoint = some p →
          s.mkt.exemption = some w → beyond q p = true →
          t.mkt = { s.mkt with reacquirePoint := some q,
                               exemption := some ⟨w.start, stop⟩ }) ∧
        (∀ p, before s.trc.front p = true → s.mkt.reacquirePoint = some p →
          beyond q p = false → t.mkt = s.mkt) ∧
        (atOrBeyond s.trc.front q = true → s.mkt.reacquirePoint = none →
          t.mkt.reacquirePoint = none ∧ (s.mkt.state = .locked → t.mkt.state = .reacquire)) ∧
        (m.spliceMargin = 0 → t = { s with mkt := t.mkt }) ∧
        (0 < m.spliceMargin → TrackInv s →
          HitsTaken .splice (fun r _ => rowHit start stop r) s t ∧
          RemainderTaken start stop (fun _ => True) .splice s t) ∧
        t.knt = s.knt ∧ t.jbc = s.jbc ∧ t.rnc = s.rnc ∧ t.tka = s.tka ∧ t.lnd = s.lnd)

/-! ### The knife (04_cut_timing_and_the_knife.md) -/

/-- The six conditions under which the next cut fires. -/
structure CutReady (s : State) (r : Row) : Prop extends KnifeReady s r where
  next : nextCut s = some r

/-- The next cut fires exactly when its six conditions hold. The fire records the cycle with the front as
fire count, its lateness and the judgement bad when the lateness is greater than knife_tol of the row's
job, makes the front the last fire count, asserts KNIFE_FIRE, and makes the row's trail cut FIRING; and
it changes nothing else. -/
def Obligations.FireHappensWhenItsConditionsHold : Prop :=
  ∀ s : State,
    (∀ (r : Row) (m : MachineRecord) (late : Nat) (bad : Bool), CutReady s r →
      s.rnc.record = some m → late = (s.trc.front - retreat r.fireBase s.knt.lead).toNat →
      (bad = true ↔ (r.tag = .current ∧ ∃ c, s.jbc.current = some c ∧ c.job.knifeTol < late) ∨
        (r.tag = .previous ∧ ∃ c, s.jbc.previous = some c ∧ c.job.knifeTol < late)) →
      exec .fire s = .next { s with
        knt := { s.knt with
          cycle := some ⟨r.number, s.trc.front, late, bad, m.knifeTimeout, true⟩,
          lastFire := some s.trc.front, output := .asserted },
        rot := { s.rot with track := s.rot.track.map fun x =>
          if x.number = r.number then { x with trail := .firing s.trc.front } else x } }) ∧
    ((∀ r, ¬CutReady s r) → exec .fire s = .next s)

/-- A row's lane entry with KNIFE added while it is OPEN. -/
def withKnife : Option LaneEntry → Option LaneEntry
  | some (.undecided x) => some (.undecided { x with knife := true })
  | e => e

/-- A row after the stroke that ended its cut or began it, or neither: the trail cut of the row the cycle
names, KNIFE in its OPEN entries when the cut is bad, and the lead cut of the row after it. -/
structure CutTaken (c : Cycle) (trail : TrailCut) (bad : Bool) (x y : Row) : Prop where
  trail : y.trail = if x.number = c.row then trail else x.trail
  entries : ∀ l, y.entries.get l =
    if x.number = c.row ∧ bad = true then withKnife (x.entries.get l) else x.entries.get l
  leadCut : y.leadCut = if x.number = rowSucc c.row ∧ x.origin ≠ .leadIn
    then some ⟨c.fireCount, bad⟩ else x.leadCut
  rest : y = { x with trail := y.trail, entries := y.entries, leadCut := y.leadCut }

/-- The knife is IDLE with its output released and the stall count as given, and the track has taken the
cut when the stroke's row was tracked. -/
structure StrokeEnded (s u : State) (c : Cycle) (trail : TrailCut) (bad : Bool) (stalls : Nat) :
    Prop where
  knife : u.knt = { s.knt with cycle := none, stallCount := stalls, output := .released }
  rows : c.tracked = true → List.Forall₂ (CutTaken c trail bad) s.rot.track u.rot.track
  untracked : c.tracked = false → u.rot.track = s.rot.track
  only : u = { s with knt := u.knt, rot := { s.rot with track := u.rot.track } }

/-- HOME completes the stroke in flight DONE with its judgement, and the stall count is 0; STALL ends it
STALLED and bad, the stall count rises to at most 3, and at 3 in RUN, DRAIN or HALTED the knife is
inhibited and KNIFE_STALL is raised. With no stroke in flight neither changes anything. The next fire and
the decisions of the lanes whose lead reference has moved are then taken within the event, in some order,
where they are due, and nothing more happens where nothing is due. That the fault of a stall is taken
before those decisions is the model's choice (log entry 22). -/
def Obligations.HomeAndStallEndTheStroke : Prop :=
  ∀ s : State,
    (s.knt.cycle = none → exec .home s = .next s ∧ exec .stall s = .next s) ∧
    ∀ c, s.knt.cycle = some c →
      (∃ t u, exec .home s = .next t ∧
        StrokeEnded s u c (.done c.fireCount c.bad) c.bad 0 ∧ ReactionFrame u t ∧
        TakenInSomeOrder targetDue (targetAct true) (testedActs true s u) u t ∧
        ((∀ a ∈ targetActs, targetDue a u = false) → t = u)) ∧
      ∃ t u v, exec .stall s = .next t ∧
        StrokeEnded s u c (.stalled c.fireCount) true (min 3 (s.knt.stallCount + 1)) ∧
        (2 ≤ s.knt.stallCount → FaultsRaised s →
          HaltingTaken .knifeStall { u with knt := { u.knt with inhibit := true } } v) ∧
        (s.knt.stallCount < 2 ∨ ¬FaultsRaised s → v = u) ∧ ReactionFrame v t ∧
        TakenInSomeOrder targetDue (targetAct true) (testedActs true s v) v t ∧
        ((∀ a ∈ targetActs, targetDue a v = false) → t = v)

/-- KNIFE_FIRE is asserted at a fire and held while the knife is FIRING: only HOME, STALL and the resets
take it away. HOME and STALL leave it released with the knife IDLE, or, when another cut fires at the
same event, released for the 10 µs after which it is asserted for the new stroke, whose fire count and
stroke timer are already taken. Power-on reset and RESTART release it. That the end of the 10 µs is the
command KNIFE_FIRE_REASSERT, which changes nothing while no gap stands, is the model's choice (log
entry 6). -/
def Obligations.KnifeFireIsHeldThroughTheStroke : Prop :=
  (∀ (c : Instr) (s t : State), exec c s = .next t → s.knt.cycle = none → t.knt.cycle ≠ none →
    knifeFire t = true) ∧
  (∀ (c : Instr) (s t : State), exec c s = .next t → knifeFire s = true → knifeFire t = false →
    c = .home ∨ c = .stall ∨ isReset c) ∧
  (∀ (c : Instr) (s t : State) (k : Cycle), c = .home ∨ c = .stall → s.knt.cycle = some k →
    exec c s = .next t → knifeFire t = false ∧
      (t.knt.cycle = none → t.knt.output = .released) ∧
      ∀ k', t.knt.cycle = some k' → t.knt.output = .gap ∧ k'.fireCount = s.trc.front ∧
        ∀ m, s.rnc.record = some m → k'.timer = m.knifeTimeout) ∧
  (∀ s : State,
    (s.knt.output = .gap → exec .knifeFireReassert s =
      .next { s with knt := { s.knt with output := .asserted } }) ∧
    (s.knt.output ≠ .gap → exec .knifeFireReassert s = .next s)) ∧
  ∀ (c : Instr) (s : State), isReset c → ∃ t, exec c s = .next t ∧ knifeFire t = false

/-! ### Notes and the horizon (05_inspection_notes_and_the_horizon.md) -/

/-- The first burst of the Note Processor, of kind `b`, is the burst whose turn it is, with no burst that
has the memory and no press-controller access that waits. -/
def NoteTurn (s : State) (b : NoteBurst) (rest : List NoteBurst) : Prop :=
  s.pxm.requests.head? = some .notes ∧ s.pxm.burst = none ∧ s.pxm.waiting = [] ∧
    s.ntp.work = b :: rest

/-- The next burst of the Note Processor is requested. -/
def Requested (t : State) : Prop := t.ntp.work ≠ [] → BurstSource.notes ∈ t.pxm.requests

/-- A burst of the Note Processor has the memory, and its next one is requested when this one ends. -/
def RequestedAtEnd (t : State) : Prop :=
  (∃ b, t.pxm.burst = some b ∧ b.source = .notes) ∧
    (t.ntp.work ≠ [] → BurstSource.notes ∈ (settleMemory t).pxm.requests)

/-- The taking of the expected page: INUSE and the flags word are written, the note count is held to at
most 48 with TRUNCATED above it, and Hc is held; the first note read, or the finishing of an empty page,
comes next. -/
def Obligations.PageTakingHoldsTheHeader : Prop :=
  ∀ (s : State) (rest : List NoteBurst) (base n : Nat), s.pxm.memory.wf = true →
    NoteTurn s .pageTaking rest → base = pageBase s.ntp.expectedPage →
    n = (Memory.readWord s.pxm.memory (base + 2)).toNat →
    ∃ t, exec .pageTaking s = .next t ∧
      Memory.readWord t.pxm.memory base = 2#16 ∧
      Memory.readWord t.pxm.memory (base + 4) = (if 48 < n then 1#16 else 0#16) ∧
      (∀ k, k < base ∨ base + 2 ≤ k → k < base + 4 ∨ base + 6 ≤ k →
        Memory.readByte t.pxm.memory k = Memory.readByte s.pxm.memory k) ∧
      t.ntp.inWork = some ⟨s.ntp.expectedPage, min n 48,
        Memory.readCount s.pxm.memory (base + 8), 0⟩ ∧
      t.ntp.work = (if n = 0 then .finishing else .noteRead) :: rest ∧ RequestedAtEnd t ∧
      t = { s with ntp := { s.ntp with inWork := t.ntp.inWork, work := t.ntp.work },
                   pxm := { s.pxm with memory := t.pxm.memory, requests := s.pxm.requests.tail,
                                       burst := t.pxm.burst } }

/-- The note of the page in work is read at its turn, with no half state access due. -/
def NoteAtTurn (s : State) (p : PageInWork) (rest : List NoteBurst) : Prop :=
  NoteTurn s .noteRead rest ∧ s.ntp.inWork = some p ∧ s.rpw.halfWork = []

/-- The note got its fate: the next note index rose, and the fate write and the burst after it wait. -/
def NoteDone (t : State) (p : PageInWork) (rest : List NoteBurst) (f : Fate) (d : Nat) : Prop :=
  t.ntp.inWork = some { p with next := p.next + 1 } ∧
  t.ntp.work = .fateWrite p.page p.next f d ::
    (if p.count ≤ p.next + 1 then .finishing else .noteRead) :: rest ∧ Requested t

/-- Nothing but the page work of the Note Processor and the burst requests has changed. -/
def OnlyPageWork (s t : State) : Prop :=
  t = { s with ntp := { s.ntp with inWork := t.ntp.inWork, work := t.ntp.work },
               pxm := { s.pxm with requests := t.pxm.requests } }

/-- The command that applies a note of a kind. -/
def noteCommand : NoteKind → Instr
  | .span => .spanNote
  | .row => .rowNote
  | .lane => .laneNote
  | .conveyor => .conveyorNote
  | .job => .jobNote
  | .unknown => .badNote

/-- A note with a field out of range gets the fate BAD with the field's index and has no other effect; a
kind that is none of the five gets index 0. The fields of each kind are checked in order. -/
def Obligations.BadFieldsAreNamedAndHaveNoEffect : Prop :=
  (∀ (s : State) (p : PageInWork) (rest : List NoteBurst) (i : Nat), NoteAtTurn s p rest →
    decodeNote s.pxm.memory (pageBase p.page + 16 + 16 * p.next) = .inr i →
    ∃ t, exec (noteCommand (noteKind s.pxm.memory (pageBase p.page + 16 + 16 * p.next))) s =
        .next t ∧ NoteDone t p rest .bad i ∧ OnlyPageWork s t) ∧
  ∀ (m : Memory) (b w1 w2 w3 w4 w5 : Nat) (q : Count), w1 = Memory.natWord m (b + 4) →
    w2 = Memory.natWord m (b + 6) → w3 = Memory.natWord m (b + 8) →
    w4 = Memory.natWord m (b + 10) → w5 = Memory.natWord m (b + 12) →
    q = Memory.readCount m (b + 4) →
    (noteKind m b = .unknown → decodeNote m b = .inr 0) ∧
    (noteKind m b = .span → decodeNote m b =
      if w3 = 0 then .inr 2 else if 4999 < w4 then .inr 3
      else if w5 = 0 ∨ 5000 < w4 + w5 then .inr 4 else .inl (.span q w3 w4 w5)) ∧
    (noteKind m b = .row → decodeNote m b =
      if q = 0#32 then .inr 1 else if w3 = 0 ∨ 15 < w3 then .inr 2
      else .inl (.row q (laneSetOf w3))) ∧
    (noteKind m b = .lane → decodeNote m b =
      if w1 = 0 ∨ 15 < w1 then .inr 1 else if w2 = 0 ∨ 15 < w2 then .inr 2
      else if w2.testBit 3 = true ∧ (w3 < 2 ∨ 9999 < w3) then .inr 3
      else .inl (.lane (laneSetOf w1)
        ⟨w2.testBit 0, w2.testBit 1, w2.testBit 2, w2.testBit 3⟩ w3)) ∧
    (noteKind m b = .conveyor → decodeNote m b =
      if 1 < w1 then .inr 1 else if w2 ≠ 1 then .inr 2
      else .inl (.conveyor (if w1 = 0 then .c0 else .c1))) ∧
    (noteKind m b = .job → decodeNote m b = if 7 < w1 then .inr 1 else .inl (.job w1))

/-- The lane's window in a job is reached by `width` across the web from `x0`. -/
def laneReached (j : JobRecord) (x0 width : Nat) (l : Lane) : Bool :=
  j.active l && decide (x0 < (j.lane.get l).xEnd) && decide ((j.lane.get l).xStart < x0 + width)

/-- A span from `start` to `stop`, over `width` across the web from `x0`, hits a lane of a row: the row is
CURRENT or PREVIOUS, its label span overlaps, and the lane's window in its job is reached. -/
def spanHit (s : State) (start stop : Count) (x0 width : Nat) (r : Row) (l : Lane) : Bool :=
  rowHit start stop r &&
    match contextOf r.tag s with
    | some c => laneReached c.job x0 width l
    | none => false

/-- A lane of a row of the track that the span hits. -/
def SpanHits (s : State) (start stop : Count) (x0 width : Nat) (r : Row) (l : Lane) : Prop :=
  r ∈ s.rot.track ∧ spanHit s start stop x0 width r l = true

/-- Some lane entry that the span hits is OPEN. -/
def AppliedOpen (s : State) (start stop : Count) (x0 width : Nat) : Prop :=
  ∃ r l x, SpanHits s start stop x0 width r l ∧ r.entries.get l = some (.undecided x)

/-- A lane of which the span hits a DECIDED entry. -/
def LateLane (s : State) (start stop : Count) (x0 width : Nat) (l : Lane) : Prop :=
  ∃ r e, SpanHits s start stop x0 width r l ∧ r.entries.get l = some e ∧
    ∀ x, e ≠ .undecided x

/-- The gone part is not empty: before the oldest row's lead point, or on an ENDED row. -/
def GonePart (s : State) (start stop : Count) : Prop :=
  (∃ r, s.rot.track.head? = some r ∧ before start r.lead = true) ∨
  ∃ r ∈ s.rot.track, r.tag = .ended ∧ before start r.cut = true ∧ beyond stop r.lead = true

/-- A remainder reaches beyond the newest row and hits a lane of the CURRENT job. -/
def Remains (s : State) (c : JobContext) (stop : Count) (x0 width : Nat) : Prop :=
  (∀ r, newestRow s = some r → beyond stop r.cut = true) ∧
  ∃ l, laneReached c.job x0 width l = true

/-- The fate of a SPAN note: the first line of its table whose condition holds. -/
def spanFateIs (guarded gone late applied held : Prop) (mask : Nat) (f : Fate) (d : Nat) : Prop :=
  (guarded → f = .guarded ∧ d = 0) ∧
  (¬guarded → gone → f = .gone ∧ d = mask) ∧
  (¬guarded → ¬gone → late → ¬applied → ¬held → f = .late ∧ d = mask) ∧
  (¬guarded → ¬gone → late → applied ∨ held → f = .partLate ∧ d = mask) ∧
  (¬guarded → ¬gone → ¬late → held → f = .pending ∧ d = 0) ∧
  (¬guarded → ¬gone → ¬late → ¬held → applied → f = .applied ∧ d = 0) ∧
  (¬guarded → ¬gone → ¬late → ¬held → ¬applied → f = .gutter ∧ d = 0)

/-- A SPAN note applied while a job is CURRENT: every OPEN lane entry it hits takes DEFECT, every GOOD label
it hits is made suspect, and no other entry of the track changes; the remainder, what lies at or beyond
the newest row's cut point in the lanes of the CURRENT job it reaches, joins the pending span list in
the order of the starts, or raises the guard when the list is full; and the note gets the fate of its
table. With no CURRENT job it gets NO_JOB and has no effect. -/
def Obligations.SpanNoteMarksWhatItHits : Prop :=
  ∀ (s : State) (p : PageInWork) (rest : List NoteBurst) (wc : Count) (len x0 width : Nat),
    NoteAtTurn s p rest →
    decodeNote s.pxm.memory (pageBase p.page + 16 + 16 * p.next) = .inl (.span wc len x0 width) →
    (s.jbc.current = none → ∃ t, exec .spanNote s = .next t ∧ NoteDone t p rest .noJob 0 ∧
      OnlyPageWork s t) ∧
    ∀ (c : JobContext) (m : MachineRecord) (start stop : Count), s.jbc.current = some c →
      s.rnc.record = some m → TrackInv s → start = wc + BitVec.ofNat 32 m.dCam →
      stop = start + BitVec.ofNat 32 len →
      ∃ t f d mask, exec .spanNote s = .next t ∧ NoteDone t p rest f d ∧
        spanFateIs (Remains s c stop x0 width ∧ 32 ≤ s.ntp.spans.length) (GonePart s start stop)
          (∃ l, LateLane s start stop x0 width l) (AppliedOpen s start stop x0 width)
          (Remains s c stop x0 width ∧ s.ntp.spans.length < 32) mask f d ∧
        mask < 16 ∧
        (∀ l, mask.testBit (laneIndex l) = true ↔ LateLane s start stop x0 width l) ∧
        HitsTaken .defect (spanHit s start stop x0 width) s t ∧
        RemainderTaken start stop (fun l => laneReached c.job x0 width l = true) .defect s t ∧
        t.mkt = s.mkt ∧ t.knt = s.knt ∧ t.trc = s.trc ∧ t.jbc = s.jbc ∧ t.rnc = s.rnc ∧
        t.tka = s.tka ∧ t.lnd = s.lnd ∧ t.pxm.memory = s.pxm.memory

/-- A ROW note on a row that is present and not ENDED adds DEFECT to the OPEN entries of its lanes, makes
each GOOD label suspect (in the stack of its lane's line, or with a SUSPECT record when the stack has
left) and gets APPLIED, LATE, PART_LATE or GUTTER by the entries it finds; on a row not yet created it
gets FUTURE, on one that has gone or is ENDED it gets GONE, and with no CURRENT job it gets NO_JOB. -/
def Obligations.RowNoteMarksTheRowItNames : Prop :=
  ∀ (s : State) (p : PageInWork) (rest : List NoteBurst) (n : RowNum) (lanes : LaneSet),
    NoteAtTurn s p rest →
    decodeNote s.pxm.memory (pageBase p.page + 16 + 16 * p.next) = .inl (.row n lanes) →
    (s.jbc.current = none → ∃ t, exec .rowNote s = .next t ∧ NoteDone t p rest .noJob 0 ∧
      OnlyPageWork s t) ∧
    (s.jbc.current ≠ none → standing n s = .notYetCreated → ∃ t, exec .rowNote s = .next t ∧
      NoteDone t p rest .future 0 ∧ OnlyPageWork s t) ∧
    (s.jbc.current ≠ none → standing n s = .gone ∨ (∃ r, standing n s = .present r ∧
      r.tag = .ended) → ∃ t, exec .rowNote s = .next t ∧
      NoteDone t p rest .gone 0 ∧ OnlyPageWork s t) ∧
    ∀ r, s.jbc.current ≠ none → standing n s = .present r → r.tag ≠ .ended → TrackInv s →
      ∃ t f d, exec .rowNote s = .next t ∧ NoteDone t p rest f d ∧
        HitsTaken .defect (fun x l => x.number == n && lanes.get l) s t ∧
        (∀ l, (∀ id, lanes.get l = true → r.entries.get l ≠ some (.good id)) →
          t.skc.get l = s.skc.get l) ∧
        ((∀ l, lanes.get l = true → r.entries.get l = none) → f = .gutter ∧ d = 0) ∧
        ((∃ l x, lanes.get l = true ∧ r.entries.get l = some (.undecided x)) →
          (∀ l e, lanes.get l = true → r.entries.get l = some e → e.isOpen = true) →
          f = .applied ∧ d = 0) ∧
        ((∃ l e, lanes.get l = true ∧ r.entries.get l = some e ∧ e.isOpen = false) →
          d < 16 ∧ (∀ l, d.testBit (laneIndex l) = true ↔
            lanes.get l = true ∧ ∃ e, r.entries.get l = some e ∧ e.isOpen = false) ∧
          ((∃ l e, lanes.get l = true ∧ r.entries.get l = some e ∧ e.isOpen = true) →
            f = .partLate) ∧
          ((∀ l e, lanes.get l = true → r.entries.get l = some e → e.isOpen = false) →
            f = .late)) ∧
        t.mkt = s.mkt ∧ t.knt = s.knt ∧ t.trc = s.trc ∧ t.jbc = s.jbc ∧ t.rnc = s.rnc ∧
        t.tka = s.tka ∧ t.lnd = s.lnd ∧ t.ntp.spans = s.ntp.spans ∧
        t.pxm.memory = s.pxm.memory

/-- A LANE note with a CURRENT job: a target at or below the shelf_max of a lane it names and the job uses
gets BAD 3 and has no effect; otherwise the fate is DONE and HOLD, RELEASE, CLOSE_SHORT and TARGET act in
this order on the lanes it names. Of a named lane CLOSE_SHORT closes the last stack, when it is FILLING,
and nothing else but a grant changes in its line. Every other lane keeps its hold flag, its targets and
its stacks, but that its FRONT, when it is CLOSED, may be PUSHING by a grant. With no CURRENT job the note
gets NO_JOB and has no effect. -/
def Obligations.LaneNoteActsOnItsLanes : Prop :=
  ∀ (s : State) (p : PageInWork) (rest : List NoteBurst) (lanes : LaneSet) (a : LaneActions)
    (target : Nat), NoteAtTurn s p rest →
    decodeNote s.pxm.memory (pageBase p.page + 16 + 16 * p.next) = .inl (.lane lanes a target) →
    (s.jbc.current = none → ∃ t, exec .laneNote s = .next t ∧ NoteDone t p rest .noJob 0 ∧
      OnlyPageWork s t) ∧
    ∀ c, s.jbc.current = some c →
      (∀ l, a.target = true → lanes.get l = true → c.job.active l = true →
        target ≤ (c.job.lane.get l).shelfMax → ∃ t, exec .laneNote s = .next t ∧
          NoteDone t p rest .bad 3 ∧ OnlyPageWork s t) ∧
      ((∀ l, a.target = true → lanes.get l = true → c.job.active l = true →
        (c.job.lane.get l).shelfMax < target) → ∃ t, exec .laneNote s = .next t ∧
        NoteDone t p rest .done 0 ∧
        (∀ l, (t.skc.get l).hold = if lanes.get l = true ∧ a.release = true then false
          else if lanes.get l = true ∧ a.hold = true then true else (s.skc.get l).hold) ∧
        (∀ l, (t.skc.get l).targetCurrent =
          if lanes.get l = true ∧ a.target = true ∧ c.job.active l = true then some target
          else (s.skc.get l).targetCurrent) ∧
        (∀ l, lanes.get l = true → a.closeShort = true →
          LastClosed .shortCmd s.trc.front (s.skc.get l).line (t.skc.get l).line ∧
          (ArbiterInv s → RestKept (s.skc.get l).line (t.skc.get l).line)) ∧
        (ArbiterInv s → ∀ l, lanes.get l = false →
          FrontGranted (s.skc.get l).line (t.skc.get l).line) ∧
        (∀ l, (t.skc.get l).line.length = (s.skc.get l).line.length ∧
          (t.skc.get l).nextId = (s.skc.get l).nextId ∧
          (t.skc.get l).shelfLimit = (s.skc.get l).shelfLimit ∧
          (t.skc.get l).targetPrevious = (s.skc.get l).targetPrevious) ∧
        (a.closeShort = false → t.tka = s.tka ∧ ∀ l, (t.skc.get l).line = (s.skc.get l).line) ∧
        t.mkt = s.mkt ∧ t.knt = s.knt ∧ t.trc = s.trc ∧ t.jbc = s.jbc ∧ t.rnc = s.rnc ∧
        t.rot = s.rot ∧ t.lnd = s.lnd ∧ t.rpw = s.rpw ∧ t.pxm.memory = s.pxm.memory)

/-- A CONVEYOR note returns an OUT conveyor to AVAILABLE and runs a grant pass within its event; for a
conveyor that is AVAILABLE or PUSHING it has no effect. Its fate is DONE in every case, with or without a
job. -/
def Obligations.ConveyorNoteReturnsAnOutConveyor : Prop :=
  ∀ (s : State) (p : PageInWork) (rest : List NoteBurst) (c : Conveyor), NoteAtTurn s p rest →
    decodeNote s.pxm.memory (pageBase p.page + 16 + 16 * p.next) = .inl (.conveyor c) →
    ∃ t, exec .conveyorNote s = .next t ∧ NoteDone t p rest .done 0 ∧
      (s.tka.conveyors.get c ≠ .out → OnlyPageWork s t) ∧
      (s.tka.conveyors.get c = .out → ∀ u : State,
        u = grantPass { s with tka := { s.tka with
          conveyors := s.tka.conveyors.set c .available } } →
        OnlyPageWork u t ∧
        (∀ k, (t.tka.conveyors.get k = .out ↔ s.tka.conveyors.get k = .out ∧ k ≠ c)) ∧
        ∀ k l n, (t.tka.waiting.get k).get l = some n → (s.tka.waiting.get k).get l = some n)

/-- The job copy of a JOB note ends with this command: it is the burst whose turn it is. -/
def JobCopied (s : State) (p : PageInWork) (rest : List NoteBurst) (slot : Nat) : Prop :=
  s.ntp.inWork = some p ∧ NoteTurn s (.jobCopy slot) rest ∧ s.rpw.halfWork = []

/-- A record other than a STACK record is handed over: it joins the queue, or is dropped and counted. -/
def HandedOver (r : Record) (s t : State) : Prop :=
  (otherRecords s.rpw.queue < 4 → t.rpw.queue = s.rpw.queue ++ [r] ∧
    t.rpw.droppedCount = s.rpw.droppedCount ∧ t.rpw.dropPending = s.rpw.dropPending) ∧
  (4 ≤ otherRecords s.rpw.queue → t.rpw.queue = s.rpw.queue ∧
    t.rpw.droppedCount = min 65535 (s.rpw.droppedCount + 1) ∧ t.rpw.dropPending = true)

/-- A JOB note in READY with no context held: a valid job is activated (RUN, the context CURRENT with no
rows and no tallies, the tracker in ACQUIRE with the stretch estimate at 65536, the lane targets of its
lanes, JOB_START queued) and the fate is DONE; an invalid one is REFUSED with the index of the first
check that fails and has no effect. In OFF, DRAIN and HALTED, and while a PREVIOUS context stands in
READY or RUN, the note is BUSY and has no effect. The JOB_NOTE of the note read only requests the job
copy, behind what waits, and the JOB_NOTE of the job copy takes the event: that the row stands for both
bursts is the model's choice (log entry 10). A JOB note whose burst START found requested meets the
emptied state in the same way, and activates its job; a note of another kind that START found so gets
UNAPPLIED: that START keeps such a note's burst is log entry 16. -/
def Obligations.JobNoteActivatesAValidJob : Prop :=
  (∀ (s : State) (p : PageInWork) (rest : List NoteBurst) (slot : Nat) (m : MachineRecord),
    JobCopied s p rest slot → s.rnc.record = some m → s.rnc.runState = .ready →
    s.jbc.current = none → s.jbc.previous = none →
    (∀ i, jobIndex (readJobRecord s.pxm.memory slot) m = some i →
      ∃ t, exec .jobNote s = .next t ∧ NoteDone t p rest .refused i ∧ OnlyPageWork s t) ∧
    (jobIndex (readJobRecord s.pxm.memory slot) m = none → ∀ j : JobRecord,
      j = readJobRecord s.pxm.memory slot →
      ∃ t, exec .jobNote s = .next t ∧ NoteDone t p rest .done 0 ∧
        t.rnc.runState = .run ∧ t.pxm.attention.state = true ∧
        t.jbc.current = some ⟨j, none, none, zeroTallies⟩ ∧ t.jbc.previous = none ∧
        t.mkt = { s.mkt with
          state := .acquire, stretch := 65536, coastCount := 0, expected := none } ∧
        (∀ l, (t.skc.get l).targetCurrent =
            (if j.active l = true then some (j.lane.get l).target else none) ∧
          (t.skc.get l).targetPrevious = none ∧
          (t.skc.get l).line = (s.skc.get l).line ∧
          (j.active l = true → (t.skc.get l).shelfLimit =
            max (j.lane.get l).shelfMax (shelfTotal (s.skc.get l).line)) ∧
          (j.active l = false → (t.skc.get l).shelfLimit = (s.skc.get l).shelfLimit) ∧
          (t.skc.get l).hold = (s.skc.get l).hold) ∧
        HandedOver (.jobStart j.jobId (rowSucc s.rot.lastNumber)) s t ∧
        t.rot = s.rot ∧ t.trc = s.trc ∧ t.knt = s.knt ∧ t.lnd = s.lnd ∧ t.tka = s.tka ∧
        t.pxm.memory = s.pxm.memory ∧ t.ntp.horizon = s.ntp.horizon)) ∧
  (∀ (s : State) (p : PageInWork) (rest : List NoteBurst) (slot : Nat), NoteAtTurn s p rest →
    decodeNote s.pxm.memory (pageBase p.page + 16 + 16 * p.next) = .inl (.job slot) →
    (s.rnc.runState = .off ∨ s.rnc.runState = .drain ∨ s.rnc.runState = .halted ∨
      s.jbc.previous ≠ none → ∃ t, exec .jobNote s = .next t ∧
        NoteDone t p rest .busy 0 ∧ OnlyPageWork s t)) ∧
  (∀ (s : State) (p : PageInWork) (rest : List NoteBurst) (slot : Nat), NoteAtTurn s p rest →
    decodeNote s.pxm.memory (pageBase p.page + 16 + 16 * p.next) = .inl (.job slot) →
    s.rnc.runState = .run ∨ s.rnc.runState = .ready → s.jbc.previous = none →
    (s.rnc.runState = .ready → s.jbc.current = none) →
    ∃ t, exec .jobNote s = .next t ∧ t.ntp.work = .jobCopy slot :: rest ∧ Requested t ∧
      t.ntp.inWork = some p ∧ OnlyPageWork s t) ∧
  (∀ (s : State) (pg : Page) (i slot : Nat) (rest : List NoteBurst) (m : MachineRecord) (j : JobRecord),
    NoteTurn s (.lateCopy pg i slot) rest → s.rpw.halfWork = [] → s.rnc.record = some m →
    s.rnc.runState = .ready → s.jbc.current = none → s.jbc.previous = none →
    j = readJobRecord s.pxm.memory slot →
    (jobIndex j m = none → ∃ t, exec .jobNote s = .next t ∧ t.rnc.runState = .run ∧
      t.jbc.current = some ⟨j, none, none, zeroTallies⟩ ∧ t.mkt.state = .acquire ∧
      HandedOver (.jobStart j.jobId (rowSucc s.rot.lastNumber)) s t ∧
      t.ntp.work = .fateWrite pg i .done 0 :: rest ∧ Requested t ∧ t.ntp.inWork = s.ntp.inWork) ∧
    ∀ k, jobIndex j m = some k → ∃ t, exec .jobNote s = .next t ∧ OnlyPageWork s t ∧
      t.ntp.work = .fateWrite pg i .refused k :: rest ∧ Requested t ∧
      t.ntp.inWork = s.ntp.inWork) ∧
  ∀ (s : State) (pg : Page) (i : Nat) (rest : List NoteBurst) (k : NoteKind),
    NoteTurn s (.lateRead pg i) rest → s.rpw.halfWork = [] →
    k = noteKind s.pxm.memory (pageBase pg + 16 + 16 * i) →
    ∃ t, exec (noteCommand k) s = .next t ∧ OnlyPageWork s t ∧ Requested t ∧
      t.ntp.inWork = s.ntp.inWork ∧
      (k ≠ .job → t.ntp.work = .fateWrite pg i .unapplied 0 :: rest) ∧
      (∀ f, k = .job → decodeNote s.pxm.memory (pageBase pg + 16 + 16 * i) = .inr f →
        t.ntp.work = .fateWrite pg i .bad f :: rest) ∧
      (∀ slot, k = .job → decodeNote s.pxm.memory (pageBase pg + 16 + 16 * i) = .inl (.job slot) →
        (s.rnc.runState = .ready → s.jbc.current = none → s.jbc.previous = none →
          t.ntp.work = .lateCopy pg i slot :: rest) ∧
        (s.rnc.runState = .off ∨ s.rnc.runState = .drain ∨ s.rnc.runState = .halted →
          t.ntp.work = .fateWrite pg i .busy 0 :: rest))

/-- The PREVIOUS context `c` was freed: its JOB_END is handed over, its rows are ENDED, the previous targets
are none and its store is FREE. -/
structure PreviousFreed (c : JobContext) (s t : State) : Prop where
  jobs : t.jbc.previous = none ∧ t.jbc.closePending = Lanes.fill false ∧
    t.jbc.current = s.jbc.current
  record : HandedOver (endOf c) s t
  rows : t.rot.track = s.rot.track.map fun x =>
    if x.tag = .previous then { x with tag := .ended } else x
  targets : ∀ l, (t.skc.get l).targetPrevious = none

/-- The last row of a context is absent or fully decided. -/
def LastRowDone (c : JobContext) (s : State) : Prop :=
  ∀ n q, c.lastRow = some n → findRow n s = some q → fullyDecided q = true

/-- No arrival of a list is of the context's last row or of a row before it. -/
def NoneOfItsRows (c : JobContext) (arrivals : List Arrival) : Prop :=
  ∀ n, c.lastRow = some n → ∀ a ∈ arrivals, rowAtOrBefore a.row n = false

/-- The command resolves the oldest arrival `a` of the lane: an eye edge within its window, or its window
passed. -/
def Resolves (s : State) (l : Lane) (a : Arrival) (cmd : Instr) : Prop :=
  (cmd = .windowPassed l ∧ beyond s.trc.front a.high = true) ∨
  (cmd = .eye l ∧ FaultsRaised s ∧ s.trc.web = s.trc.front ∧
    atOrBeyond s.trc.front a.low = true ∧ atOrBeyond a.high s.trc.front = true)

/-- A JOB note in RUN with no PREVIOUS context and a valid job makes a changeover: the new job is CURRENT
with no rows, the tracker enters ACQUIRE keeping its stretch estimate and newest row, and the lane
targets move on; the old job is PREVIOUS with its rows while its last row is still undecided, with the
lanes whose label of that row is OPEN waiting for their close; and an old job that made no row is ended
at once, its JOB_END behind the new JOB_START. The decision of the old job's last row in a waiting lane
closes the lane's last stack SHORT_JOB. The old job is freed, with its JOB_END, at the decision or the
resolution that leaves its last row fully decided and no arrival of its rows in a list, and not before;
that the freeing test comes after the decision's own effects is log entry 11. -/
def Obligations.JobNoteMakesAChangeover : Prop :=
  (∀ (s : State) (p : PageInWork) (rest : List NoteBurst) (slot : Nat) (m : MachineRecord)
    (old : JobContext) (j : JobRecord), JobCopied s p rest slot → s.rnc.record = some m →
    s.rnc.runState = .run → s.jbc.current = some old → s.jbc.previous = none →
    j = readJobRecord s.pxm.memory slot → jobIndex j m = none →
    ∃ t, exec .jobNote s = .next t ∧ NoteDone t p rest .done 0 ∧ t.rnc = s.rnc ∧
      t.jbc.current = some ⟨j, none, none, zeroTallies⟩ ∧
      t.mkt = { s.mkt with state := .acquire, coastCount := 0, expected := none } ∧
      (∀ l, (t.skc.get l).targetCurrent =
          (if j.active l = true then some (j.lane.get l).target else none) ∧
        (t.skc.get l).hold = (s.skc.get l).hold ∧
        (t.skc.get l).line.length = (s.skc.get l).line.length) ∧
      trackNumbers t = trackNumbers s ∧ t.knt = s.knt ∧ t.trc = s.trc ∧ t.lnd = s.lnd ∧
      t.pxm.memory = s.pxm.memory ∧
      (∀ n r, old.lastRow = some n → findRow n s = some r → fullyDecided r = false →
        t.jbc.previous = some old ∧
        (∀ l, (t.skc.get l).targetPrevious = (s.skc.get l).targetCurrent) ∧
        (∀ l, t.jbc.closePending.get l = true ↔ old.job.active l = true ∧ openIn l r = true) ∧
        (∀ l, old.job.active l = true → openIn l r = false →
          LastClosed .shortJob s.trc.front (s.skc.get l).line (t.skc.get l).line ∧
          (ArbiterInv s → RestKept (s.skc.get l).line (t.skc.get l).line)) ∧
        (ArbiterInv s → ∀ l, ¬(old.job.active l = true ∧ openIn l r = false) →
          FrontGranted (s.skc.get l).line (t.skc.get l).line) ∧
        t.rot.track = s.rot.track.map (fun x =>
          if x.tag = .current then { x with tag := .previous } else x) ∧
        HandedOver (.jobStart j.jobId (rowSucc s.rot.lastNumber)) s t) ∧
      (old.lastRow = none → t.jbc.previous = none ∧ t.jbc.closePending = Lanes.fill false ∧
        (∀ l, (t.skc.get l).targetPrevious = none) ∧
        (otherRecords s.rpw.queue < 3 → t.rpw.queue = s.rpw.queue ++
          [.jobStart j.jobId (rowSucc s.rot.lastNumber),
           .jobEnd old.job.jobId (old.firstRow.getD 0#32) 0#32 old.tallies]))) ∧
  (∀ (s v : State) (m : MachineRecord) (l : Lane) (r : Row) (x : Reasons) (c : JobContext),
    s.rnc.record = some m → DecisionDue s m l r x → s.jbc.previous = some c →
    v = judge m l r x s →
    (c.lastRow = some r.number → s.jbc.closePending.get l = true →
      s.rnc.stopPending.get l = false → ArbiterInv s →
      ∃ t, exec (.decision l) s = .next t ∧ t.jbc.closePending.get l = false ∧
        LastClosed .shortJob s.trc.front (v.skc.get l).line (t.skc.get l).line ∧
        RestKept (v.skc.get l).line (t.skc.get l).line) ∧
    (s.rnc.runState = .run ∨ s.rnc.runState = .halted → ∀ c', v.jbc.previous = some c' →
      ((∀ k, k ≠ l → openIn k r = false) → LastRowDone c v →
        (∀ k, NoneOfItsRows c (v.lnd.get k).arrivals) → findRow r.number s = some r →
        ∃ t, exec (.decision l) s = .next t ∧ PreviousFreed c' v t) ∧
      ((∃ k, k ≠ l ∧ openIn k r = true) ∨ ¬LastRowDone c v ∨
        (∃ k, ¬NoneOfItsRows c (v.lnd.get k).arrivals) → findRow r.number s = some r →
        ∃ t, exec (.decision l) s = .next t ∧ t.jbc.previous = some c'))) ∧
  ∀ (s : State) (l : Lane) (a : Arrival) (rest : List Arrival) (c : JobContext) (cmd : Instr),
    (s.lnd.get l).arrivals = a :: rest → Resolves s l a cmd → s.jbc.previous = some c →
    (LastRowDone c s → NoneOfItsRows c rest →
      (∀ k, k ≠ l → NoneOfItsRows c (s.lnd.get k).arrivals) →
      ∃ t, exec cmd s = .next t ∧ PreviousFreed c s t) ∧
    (¬LastRowDone c s ∨ ¬NoneOfItsRows c rest ∨
      (∃ k, k ≠ l ∧ ¬NoneOfItsRows c (s.lnd.get k).arrivals) →
      ∃ t, exec cmd s = .next t ∧ t.jbc = s.jbc ∧ t.rot = s.rot)

/-- A fate write puts the fate and its detail into the note's last word and changes no other byte; a page
state check takes the expected page when it finds POSTED there with no page in work outside OFF, and
changes nothing else. -/
def Obligations.FateWritesAndStateChecks : Prop :=
  (∀ (s : State) (pg : Page) (i : Nat) (f : Fate) (d : Nat) (rest : List NoteBurst),
    s.pxm.memory.wf = true → NoteTurn s (.fateWrite pg i f d) rest → i < 48 → d < 256 →
    ∃ t, exec .fateWrite s = .next t ∧
      (Memory.readByte t.pxm.memory (pageBase pg + 16 * i + 30)).toNat = fateCode f ∧
      (Memory.readByte t.pxm.memory (pageBase pg + 16 * i + 31)).toNat = d ∧
      SameOutside (pageBase pg + 16 * i + 30) 2 s.pxm.memory t.pxm.memory ∧
      t.ntp.work = rest ∧ RequestedAtEnd t ∧
      t = { s with ntp := { s.ntp with work := rest },
                   pxm := { s.pxm with memory := t.pxm.memory, requests := s.pxm.requests.tail,
                                       burst := t.pxm.burst } }) ∧
  ∀ (s : State) (rest : List NoteBurst), NoteTurn s .stateCheck rest → s.rpw.halfWork = [] →
    ∃ t, exec .pageStateCheck s = .next t ∧ Requested t ∧ OnlyPageWork s t ∧
      t.ntp.inWork = s.ntp.inWork ∧
      (Memory.readWord s.pxm.memory (pageBase s.ntp.expectedPage) = 1#16 →
        s.rnc.runState ≠ .off → s.ntp.inWork = none → NoteBurst.pageTaking ∉ rest →
        t.ntp.work = rest ++ [.pageTaking]) ∧
      (Memory.readWord s.pxm.memory (pageBase s.ntp.expectedPage) ≠ 1#16 ∨
        s.rnc.runState = .off ∨ s.ntp.inWork ≠ none → t.ntp.work = rest)

/-- The horizon after a page's held Hc: 0 leaves it; a candidate Hc + d_cam is taken with no horizon or at
or beyond it. -/
def horizonIs (dCam : Nat) (hc : Count) (h h' : Option Count) : Prop :=
  (hc = 0#32 → h' = h) ∧
  (hc ≠ 0#32 → h = none → h' = some (hc + BitVec.ofNat 32 dCam)) ∧
  (∀ x, hc ≠ 0#32 → h = some x → h' =
    if (hc + BitVec.ofNat 32 dCam - x).toNat < 2147483648
    then some (hc + BitVec.ofNat 32 dCam) else some x)

/-- A page's finishing applies its held Hc to the horizon in any run state, writes DONE, sets
ATTENTION.PAGE_DONE and expects the other page. START and the resets clear the horizon, and a page that
START cuts short does not apply its Hc. -/
def Obligations.PageFinishingAppliesTheHorizon : Prop :=
  (∀ (s : State) (p : PageInWork) (rest : List NoteBurst) (m : MachineRecord),
    s.pxm.memory.wf = true → NoteTurn s .finishing rest → s.ntp.inWork = some p →
    s.rnc.record = some m →
    ∃ t, exec .pageFinishing s = .next t ∧ horizonIs m.dCam p.hc s.ntp.horizon t.ntp.horizon ∧
      Memory.readWord t.pxm.memory (pageBase p.page) = 3#16 ∧
      SameOutside (pageBase p.page) 2 s.pxm.memory t.pxm.memory ∧
      t.pxm.attention = { s.pxm.attention with pageDone := true } ∧ t.ntp.inWork = none ∧
      t.ntp.expectedPage ≠ p.page ∧ t.ntp.work = .stateCheck :: rest ∧ RequestedAtEnd t ∧
      t = { s with ntp := { s.ntp with inWork := none, work := t.ntp.work,
                                       expectedPage := t.ntp.expectedPage,
                                       horizon := t.ntp.horizon },
                   pxm := { s.pxm with memory := t.pxm.memory, requests := s.pxm.requests.tail,
                                       burst := t.pxm.burst,
                                       attention := t.pxm.attention } }) ∧
  (∀ (s : State) (pg : Page) (rest : List NoteBurst), s.pxm.memory.wf = true →
    NoteTurn s (.cutShortDone pg) rest →
    ∃ t, exec .pageFinishing s = .next t ∧ t.ntp.horizon = s.ntp.horizon ∧
      Memory.readWord t.pxm.memory (pageBase pg) = 3#16 ∧ t.pxm.attention.pageDone = true ∧
      SameOutside (pageBase pg) 2 s.pxm.memory t.pxm.memory ∧ t.ntp.work = rest ∧
      RequestedAtEnd t) ∧
  ∀ s : State, (∃ t, exec .powerOnReset s = .next t ∧ t.ntp.horizon = none) ∧
    (∃ t, exec .restart s = .next t ∧ t.ntp.horizon = none) ∧
    (s.rnc.runState = .off ∨ s.rnc.runState = .ready → MayBegin .machine s →
      ∃ t, exec .start s = .next t ∧ t.ntp.horizon = none)

/-! ### Lane decisions, flaps and count eyes (06_lane_decisions_flaps_and_count_eyes.md) -/

/-- Nothing more than the decision itself happens: no close waits for it, a PREVIOUS context keeps an OPEN
entry in its last row beside the one decided, and in DRAIN some line still holds a stack. -/
structure NothingWaits (s : State) (l : Lane) (r : Row) : Prop where
  closes : s.jbc.closePending.get l = false ∧ s.rnc.stopPending.get l = false
  previous : ∀ c, s.jbc.previous = some c → ∃ n q k, c.lastRow = some n ∧ findRow n s = some q ∧
    openIn k q = true ∧ (q.number ≠ r.number ∨ k ≠ l)
  drain : s.rnc.runState = .drain → ∃ k, (s.skc.get k).line ≠ []

/-- The entry of a row for a lane, and the entry alone, becomes `e`. -/
def EntryFrozen (s t : State) (n : RowNum) (l : Lane) (e : LaneEntry) : Prop :=
  t.rot = { s.rot with track := s.rot.track.map fun x =>
    if x.number = n then { x with entries := x.entries.set l (some e) } else x }

/-- A stack with one label more, of row `n`; at its target it closes FULL at the front `f`. -/
def oneMore (f : Count) (n : RowNum) (x : Stack) : Stack :=
  if x.allotted + 1 = x.target then
    { x with allotted := x.allotted + 1, lastRow := n, state := .completing,
             closeKind := some .full, closePoint := some f }
  else { x with allotted := x.allotted + 1, lastRow := n }

/-- A decision that finds no reason and has a place passes its label good: the label is allotted to the
lane's open stack, or to a stack opened for it, the entry is frozen GOOD with the stack's id, the flap
is PASS, and an arrival entry with its window around the label's arrival at the eye joins the list. A
stack that reaches its target closes FULL at the front and is COMPLETING. Nothing else changes. That the
flap is PASS also where its pass end is already reached, until an event that tests it, is the model's
choice (log entry 22). -/
def Obligations.DecisionPassesAGoodLabel : Prop :=
  ∀ (s : State) (m : MachineRecord) (l : Lane) (r : Row) (x : Reasons) (f : Count) (tgt : Nat),
    s.rnc.record = some m → DecisionDue s m l r x → NothingWaits s l r → s.rnc.runState ≠ .halted →
    x = noReasons → r.trail = .done f false → LeadGood r → s.trc.zone = .run → Inspected s r →
    (s.skc.get l).hold = false → (s.lnd.get l).arrivals.length < 16 →
    laneTarget (s.skc.get l) r.tag = some tgt →
    ∀ eye : Count, eye = advance (leadReference m r) (m.kEye.get l) →
    (∀ st, (s.skc.get l).line.getLast? = some st → st.state = .filling →
      (s.skc.get l).line.length = 1 ∨
        shelfTotal (s.skc.get l).line < (s.skc.get l).shelfLimit →
      ∃ t, exec (.decision l) s = .next t ∧ EntryFrozen s t r.number l (.good st.id) ∧
        t.skc = s.skc.set l { s.skc.get l with
          line := (s.skc.get l).line.dropLast ++ [oneMore s.trc.front r.number st] } ∧
        t.lnd = s.lnd.set l { s.lnd.get l with
          flap := .pass f
          arrivals := (s.lnd.get l).arrivals ++ [⟨r.number, st.id,
            retreat eye m.eyeTol, advance eye m.eyeTol⟩] } ∧
        t = { s with rot := t.rot, skc := t.skc, lnd := t.lnd }) ∧
    ((∀ st, (s.skc.get l).line.getLast? = some st → st.state ≠ .filling ∧
        (s.skc.get l).line.length < 3 ∧
        shelfTotal (s.skc.get l).line < (s.skc.get l).shelfLimit) → 2 ≤ tgt →
      ∃ t, exec (.decision l) s = .next t ∧
        EntryFrozen s t r.number l (.good (s.skc.get l).nextId) ∧
        t.skc = s.skc.set l { s.skc.get l with
          line := (s.skc.get l).line ++
            [{ id := (s.skc.get l).nextId, jobId := r.jobId, target := tgt, allotted := 1,
               arrived := 0, missing := 0, extra := 0, suspect := 0, firstRow := r.number,
               lastRow := r.number, firstSuspect := none, state := .filling,
               closeKind := none, closePoint := none, conveyor := none }],
          nextId := if (s.skc.get l).nextId = 65535 then 1 else (s.skc.get l).nextId + 1 } ∧
        t.lnd = s.lnd.set l { s.lnd.get l with
          flap := .pass f
          arrivals := (s.lnd.get l).arrivals ++ [⟨r.number, (s.skc.get l).nextId,
            retreat eye m.eyeTol, advance eye m.eyeTol⟩] } ∧
        t = { s with rot := t.rot, skc := t.skc, lnd := t.lnd })

/-- A decision that finds a reason, or no place for the label, rejects it: the entry is frozen with the
reasons found (HELD for want of a place), the flap is REJECT, and the tally of the primary reason rises
in the context the row's tag names; the stack line and the arrival list stay. In HALTED every decision
is of this kind. -/
def Obligations.DecisionRejectsWithItsReasons : Prop :=
  ∀ (s : State) (m : MachineRecord) (l : Lane) (r : Row) (x y : Reasons),
    s.rnc.record = some m → DecisionDue s m l r x → NothingWaits s l r →
    (Found s l r x y ∧ y ≠ noReasons ∨
      Found s l r x noReasons ∧ y = { noReasons with held := true } ∧
      ((s.lnd.get l).arrivals.length = 16 ∨
        ∃ st, (s.skc.get l).line.getLast? = some st ∧
          ((st.state = .filling ∧ (s.skc.get l).line.length ≠ 1 ∧
            (s.skc.get l).shelfLimit ≤ shelfTotal (s.skc.get l).line) ∨
          (st.state ≠ .filling ∧ ((s.skc.get l).line.length = 3 ∨
            (s.skc.get l).shelfLimit ≤ shelfTotal (s.skc.get l).line))))) →
    ∃ t, exec (.decision l) s = .next t ∧ EntryFrozen s t r.number l (.reject y) ∧
      t.lnd = s.lnd.set l { s.lnd.get l with flap := .reject } ∧
      (∀ c p, s.jbc.current = some c → r.tag = .current → Primary y p →
        t.jbc = { s.jbc with current := some { c with
          tallies := c.tallies.set p (if c.tallies.get p < 65535 then c.tallies.get p + 1
            else 65535) } }) ∧
      (∀ c p, s.jbc.previous = some c → r.tag = .previous → Primary y p →
        t.jbc = { s.jbc with previous := some { c with
          tallies := c.tallies.set p (if c.tallies.get p < 65535 then c.tallies.get p + 1
            else 65535) } }) ∧
      (r.tag = .ended → t.jbc = s.jbc) ∧
      t = { s with rot := t.rot, lnd := t.lnd, jbc := t.jbc }

/-- A stack after one of its labels was confirmed or went missing, with `left` labels still expected: a
COMPLETING stack that awaits no more is CLOSED, or already granted; a CLOSED one may be granted. -/
structure Counted (confirmed : Bool) (id left : Nat) (x y : Stack) : Prop where
  same : y = { x with arrived := y.arrived, missing := y.missing, state := y.state,
                      conveyor := y.conveyor }
  arrived : y.arrived = if x.id = id ∧ confirmed = true then x.arrived + 1 else x.arrived
  missing : y.missing = if x.id = id ∧ confirmed = false then x.missing + 1 else x.missing
  settled : x.id = id → x.state = .completing → left = 0 → y.state = .closed ∨ y.state = .pushing
  kept : x.state = .filling ∨ (x.state = .completing ∧ (x.id ≠ id ∨ left ≠ 0)) ∨
    x.state = .pushing → y.state = x.state
  closed : x.state = .closed → y.state = .closed ∨ y.state = .pushing

/-- The flap of a lane returns to REJECT when the front reaches its pass end, the fire count of the row's
trail cut + k_flap - flap lead, and at no PASS_END before it. A window that the front has passed leaves
the arrival list and its label is counted missing in its stack; before that WINDOW_PASSED changes
nothing. That a window which the front had passed already when its entry was added is counted missing in
the same way is the model's choice (log entry 24). -/
def Obligations.PassEndsAndPassedWindows : Prop :=
  (∀ (s : State) (m : MachineRecord) (l : Lane) (f : Count), s.rnc.record = some m →
    (s.lnd.get l).flap = .pass f →
    (atOrBeyond s.trc.front (retreat (advance f (m.kFlap.get l)) (s.lnd.get l).flapLead) = true →
      exec (.passEnd l) s = .next { s with
        lnd := s.lnd.set l { s.lnd.get l with flap := .reject } }) ∧
    (before s.trc.front (retreat (advance f (m.kFlap.get l)) (s.lnd.get l).flapLead) = true →
      exec (.passEnd l) s = .next s)) ∧
  ∀ (s : State) (l : Lane) (a : Arrival) (rest : List Arrival),
    (s.lnd.get l).arrivals = a :: rest → ArbiterInv s →
    (beyond s.trc.front a.high = false → exec (.windowPassed l) s = .next s) ∧
    (beyond s.trc.front a.high = true →
      ∃ t, exec (.windowPassed l) s = .next t ∧ ReactionFrame s t ∧
        t.lnd = s.lnd.set l { s.lnd.get l with arrivals := rest } ∧
        List.Forall₂ (Counted false a.stackId (rest.countP fun b => b.stackId == a.stackId))
          (s.skc.get l).line (t.skc.get l).line ∧
        t.mkt = s.mkt ∧ t.knt = s.knt ∧ t.rnc = s.rnc ∧ t.ntp = s.ntp ∧
        trackNumbers t = trackNumbers s ∧
        (s.jbc.previous = none → t.jbc = s.jbc ∧ t.rot = s.rot ∧ t.rpw = s.rpw))

/-- A stack with one extra label. -/
def withExtra (x : Stack) : Stack :=
  { x with extra := if x.extra < 65535 then x.extra + 1 else 65535 }

/-- An edge of the count eye in RUN, DRAIN and HALTED with the web at the front confirms the oldest arrival
entry when the front lies in its window; outside the window it is an extra of that entry's stack, and
with no entry an extra of the line's last stack, if there is one. In OFF and READY and behind the front
it changes nothing. That an edge with the front beyond the window, which only an entry added late can
meet, is such an extra is the model's choice (log entry 24). -/
def Obligations.EyeConfirmsOrCountsAnExtra : Prop :=
  ∀ (s : State) (l : Lane),
    ((s.rnc.runState = .off ∨ s.rnc.runState = .ready) ∨ s.trc.web ≠ s.trc.front →
      exec (.eye l) s = .next s) ∧
    (FaultsRaised s → s.trc.web = s.trc.front →
      (∀ a rest, (s.lnd.get l).arrivals = a :: rest → ArbiterInv s →
        atOrBeyond s.trc.front a.low = true → atOrBeyond a.high s.trc.front = true →
        ∃ t, exec (.eye l) s = .next t ∧ ReactionFrame s t ∧
          t.lnd = s.lnd.set l { s.lnd.get l with arrivals := rest } ∧
          List.Forall₂ (Counted true a.stackId (rest.countP fun b => b.stackId == a.stackId))
            (s.skc.get l).line (t.skc.get l).line ∧
          t.mkt = s.mkt ∧ t.knt = s.knt ∧ t.rnc = s.rnc ∧ t.ntp = s.ntp ∧
          trackNumbers t = trackNumbers s ∧
          (s.jbc.previous = none → t.jbc = s.jbc ∧ t.rot = s.rot ∧ t.rpw = s.rpw)) ∧
      (∀ a rest, (s.lnd.get l).arrivals = a :: rest →
        before s.trc.front a.low = true ∨ before a.high s.trc.front = true →
        exec (.eye l) s = .next { s with skc := s.skc.set l { s.skc.get l with
          line := (s.skc.get l).line.map fun x =>
            if x.id = a.stackId then withExtra x else x } }) ∧
      (∀ x, (s.lnd.get l).arrivals = [] → (s.skc.get l).line.getLast? = some x →
        exec (.eye l) s = .next { s with skc := s.skc.set l { s.skc.get l with
          line := (s.skc.get l).line.dropLast ++ [withExtra x] } }) ∧
      ((s.lnd.get l).arrivals = [] → (s.skc.get l).line = [] → exec (.eye l) s = .next s))

/-! ### Takeaway (07_stack_lines_and_takeaway.md) -/

/-- No lane waits for a conveyor. -/
def NoneWaits (s : State) : Prop := ∀ c l, (s.tka.waiting.get c).get l = none

/-- The effective priority of a waiting lane: its lane_priority less its age, and not below 0. -/
def priorityAt (m : MachineRecord) (l : Lane) (age : Nat) : Nat := m.lanePriority.get l - age

/-- The lane waits for the conveyor, and no waiting lane of it stands before it: none has a lower
effective priority, nor the same with a lower lane number. -/
def FirstToBeGranted (m : MachineRecord) (s : State) (c : Conveyor) (l : Lane) : Prop :=
  ∃ a, (s.tka.waiting.get c).get l = some a ∧ ∀ k b, (s.tka.waiting.get c).get k = some b →
    priorityAt m l a < priorityAt m k b ∨
    (priorityAt m l a = priorityAt m k b ∧ laneIndex l ≤ laneIndex k)

/-- A reservation is free at the conveyor's turn in a grant pass that `first` begins: the count is below 12,
and the last free one is not taken by a grant of `first` before the other conveyor's turn. -/
def FreeAtTurn (first : Conveyor) (s : State) (c : Conveyor) : Prop :=
  s.tka.reservations < 12 ∧ (s.tka.reservations = 11 → c = first ∨
    s.tka.conveyors.get first ≠ .available ∨ ∀ k, (s.tka.waiting.get first).get k = none)

/-- A grant of the conveyor to the lane: the conveyor pushes the lane for the time of conveyor_timeout, the
lane leaves the waiting set, in which the other lanes stay, and its FRONT is PUSHING on the conveyor. -/
structure GrantedTo (m : MachineRecord) (s t : State) (c : Conveyor) (l : Lane) : Prop where
  conveyor : t.tka.conveyors.get c = .pushing l (m.conveyorTimeout * 100)
  push : push t l = true
  waiting : ∀ k, (t.tka.waiting.get c).get k = if k = l then none else (s.tka.waiting.get c).get k
  front : ∀ x rest, (s.skc.get l).line = x :: rest → ∃ d,
    (t.skc.get l).line = { x with state := .pushing, conveyor := some d } :: rest ∧
    ((∀ e, e ≠ c → (s.tka.waiting.get e).get l = none) → d = c)

/-- A grant pass that `first` begins leads from `s` to `t`: each AVAILABLE conveyor for which a lane waits
and a reservation is free at its turn grants the first waiting lane, taking a reservation; every other
conveyor, its waiting set and every lane that is granted nothing stay as they are. -/
structure GrantPass (m : MachineRecord) (first : Conveyor) (s t : State) : Prop where
  granted : ∀ c l, s.tka.conveyors.get c = .available → FreeAtTurn first s c →
    FirstToBeGranted m s c l → GrantedTo m s t c l
  passed : ∀ c, s.tka.conveyors.get c ≠ .available ∨ ¬FreeAtTurn first s c ∨
    (∀ l, (s.tka.waiting.get c).get l = none) →
    t.tka.conveyors.get c = s.tka.conveyors.get c ∧ t.tka.waiting.get c = s.tka.waiting.get c
  lanes : ∀ l, (∀ c n, s.tka.conveyors.get c = .available → t.tka.conveyors.get c ≠ .pushing l n) →
    t.skc.get l = s.skc.get l
  lines : ∀ l, t.skc.get l = { s.skc.get l with line := (t.skc.get l).line }
  reservations : t.tka.reservations + pushingCount s.tka = s.tka.reservations + pushingCount t.tka

/-- The arbiter and the lanes once the FRONT `x` of lane `l`, pushed by conveyor `c`, has left its line,
with the conveyor's new state `n` and before any grant: the rest of the line stands, the shelf limit is
set again when the shelf total has fallen, and the lane joins the waiting set of its conveyor with age 0
when its new FRONT is CLOSED. -/
structure Departed (m : MachineRecord) (c : Conveyor) (n : ConveyorState) (l : Lane) (x : Stack)
    (rest : List Stack) (s v : State) : Prop where
  conveyors : v.tka.conveyors = s.tka.conveyors.set c n
  reservations : v.tka.reservations = s.tka.reservations
  waiting : ∀ d k, (v.tka.waiting.get d).get k =
    if k = l ∧ frontClosed rest = true ∧ d = m.conveyor l then some 0
    else (s.tka.waiting.get d).get k
  limit : (v.skc.get l).shelfLimit = if shelfTotal rest < shelfTotal (x :: rest) then
      (match shelfGoal l s with
        | some g => max g (shelfTotal rest)
        | none => (s.skc.get l).shelfLimit)
    else (s.skc.get l).shelfLimit
  lane : v.skc.get l = { s.skc.get l with line := rest, shelfLimit := (v.skc.get l).shelfLimit }
  others : ∀ k, k ≠ l → v.skc.get k = s.skc.get k

/-- The conveyor that begins the grants of a delivery on conveyor `c`: the other one, in the pass of the
joining, when the lane joins with its new FRONT, and conveyor 0 otherwise. -/
def firstAtDelivery (c : Conveyor) (rest : List Stack) : Conveyor :=
  if frontClosed rest then (match c with | .c0 => .c1 | .c1 => .c0) else .c0

/-- CLEAR of a PUSHING conveyor delivers the pushed lane's FRONT stack: its STACK record joins the queue,
it leaves its line, the lane joins its conveyor's waiting set with age 0 when its new FRONT is CLOSED, and
the conveyor is AVAILABLE again (PUSH falls) unless a waiting lane is granted at once: the one of the
lowest effective priority, the lowest lane number between equals, while a reservation is free. The
conveyor timer removes the stack NOT_CLEARED instead: the conveyor is OUT, CONVEYOR_TIMEOUT is reported,
and only the other conveyor can grant, in the pass of the lane's joining. Neither changes anything for a
conveyor that is not PUSHING. In DRAIN this is so while an OPEN entry, a pending stop or another stack is
left. -/
def Obligations.DeliveryAndRemovalEndAPush : Prop :=
  (∀ (s : State) (c : Conveyor), (∀ l n, s.tka.conveyors.get c ≠ .pushing l n) →
    exec (.delivery c) s = .next s ∧ exec (.removal c) s = .next s) ∧
  ∀ (s : State) (c : Conveyor) (l : Lane) (n : Nat) (x : Stack) (rest : List Stack),
    s.tka.conveyors.get c = .pushing l n → (s.skc.get l).line = x :: rest →
    (s.rnc.runState = .drain → (∃ r ∈ s.rot.track, fullyDecided r = false) ∨
      (∃ k, s.rnc.stopPending.get k = true) ∨ rest ≠ [] ∨
      ∃ k, k ≠ l ∧ (s.skc.get k).line ≠ []) →
    (∃ t, exec (.delivery c) s = .next t ∧ ReactionFrame s t ∧
      t.rpw.queue = s.rpw.queue ++ [.stack l x false] ∧
      ((t.skc.get l).line.map fun y => y.id) = rest.map (fun y => y.id) ∧
      t.tka.conveyors.get c ≠ .out ∧
      (NoneWaits s → frontClosed rest = false →
        t.tka.conveyors = s.tka.conveyors.set c .available ∧ (t.skc.get l).line = rest ∧
        t.tka.reservations = s.tka.reservations ∧ t.tka.waiting = s.tka.waiting) ∧
      (∀ m v, s.rnc.record = some m → ArbiterInv s → Departed m c .available l x rest s v →
        GrantPass m (firstAtDelivery c rest) v t) ∧
      t.rot = s.rot ∧ t.mkt = s.mkt ∧ t.knt = s.knt ∧ t.ntp = s.ntp ∧ t.lnd = s.lnd ∧
      t.jbc = s.jbc ∧ t.rnc = s.rnc) ∧
    ∃ t, exec (.removal c) s = .next t ∧ ReactionFrame s t ∧
      (otherRecords s.rpw.queue < 4 → t.rpw.queue = s.rpw.queue ++ [.stack l x true,
        .fault (.conveyorTimeout c) (s.rnc.runState == .halted) s.trc.front (newestNumber s)]) ∧
      (4 ≤ otherRecords s.rpw.queue → t.rpw.queue = s.rpw.queue ++ [.stack l x true] ∧
        t.rpw.dropPending = true) ∧
      ((t.skc.get l).line.map fun y => y.id) = rest.map (fun y => y.id) ∧
      t.tka.conveyors.get c = .out ∧ t.pxm.attention.fault = true ∧
      (∀ m v, s.rnc.record = some m → ArbiterInv s → Departed m c .out l x rest s v →
        (frontClosed rest = true → GrantPass m .c0 v t) ∧
        (frontClosed rest = false → t.tka = v.tka ∧ t.skc = v.skc)) ∧
      t.rot = s.rot ∧ t.mkt = s.mkt ∧ t.knt = s.knt ∧ t.ntp = s.ntp ∧ t.lnd = s.lnd ∧
      t.jbc = s.jbc ∧ t.rnc = s.rnc

/-- An aging tick raises the age of every waiting lane to at most 7 and runs a grant pass, conveyor 0 before
conveyor 1: an AVAILABLE conveyor with a reservation free at its turn grants the waiting lane of the
lowest effective priority, the lowest lane number between equals; the lane leaves the waiting set and its
FRONT is PUSHING on that conveyor, for the time of conveyor_timeout. A conveyor that is PUSHING or OUT,
or for which no lane waits or no reservation is free, stays as it is. -/
def Obligations.AgingTickGrantsTheFirstWaitingLane : Prop :=
  ∀ (s : State) (m : MachineRecord), s.pxm.resetAsserted = false → s.rnc.record = some m →
    (∀ c l a, (s.tka.waiting.get c).get l = some a → a ≤ 7) →
    ∃ t v, exec .agingTick s = .next t ∧ ReactionFrame s t ∧
      v = { s with tka := { s.tka with waiting := v.tka.waiting } } ∧
      (∀ c l, (v.tka.waiting.get c).get l =
        ((s.tka.waiting.get c).get l).map fun a => min 7 (a + 1)) ∧
      GrantPass m .c0 v t ∧
      (12 ≤ s.tka.reservations → t.tka.conveyors = s.tka.conveyors ∧ t.skc = s.skc ∧
        t.tka.reservations = s.tka.reservations) ∧
      t.rot = s.rot ∧ t.mkt = s.mkt ∧ t.knt = s.knt ∧ t.ntp = s.ntp ∧ t.lnd = s.lnd ∧
      t.jbc = s.jbc ∧ t.rnc = s.rnc ∧ t.rpw = s.rpw ∧ t.pxm = s.pxm

/-! ### Reports and live status (11_reports.md, 10_exchange_memory_and_the_press_controller_port.md) -/

/-- The words `i` and `i + 1` hold a 32-bit field, its low word first. -/
def WordsHold (w : Nat → Word) (i : Nat) (c : BitVec 32) : Prop :=
  w i = c.extractLsb' 0 16 ∧ w (i + 1) = c.extractLsb' 16 16

/-- A header word: the kind in bits 0 to 2, DROPPED in bit 3, SECONDARY in bit 4, 0 in bits 5 to 7, and
the bits 8 to 15 as given. -/
def HeaderIs (h : Word) (kind : Nat) (dropped secondary : Bool) (upper : Nat) : Prop :=
  (h.extractLsb' 0 3).toNat = kind ∧ h.getLsbD 3 = dropped ∧ h.getLsbD 4 = secondary ∧
  h.extractLsb' 5 3 = 0#3 ∧ (h.extractLsb' 8 8).toNat = upper

/-- The 16 words of a record by the layout of its kind, 0 where it has no field: the header word has the
lane in bits 8 and 9, the conveyor in bit 10, NOT_CLEARED in bit 11 and the close kind in bits 12 to 14;
a record of a stack that left its line has its conveyor, close kind and close point. -/
def RecordLaidOut (r : Record) (dropped : Bool) (w : Nat → Word) : Prop :=
  match r with
  | .stack l x notCleared =>
    (∀ c k, x.conveyor = some c → x.closeKind = some k →
      HeaderIs (w 0) 1 dropped false (laneIndex l + 4 * conveyorCode c + 8 * notCleared.toNat +
        16 * closeKindCode k)) ∧
    w 1 = BitVec.ofNat 16 x.id ∧ w 2 = BitVec.ofNat 16 x.jobId ∧
    w 3 = BitVec.ofNat 16 x.target ∧ w 4 = BitVec.ofNat 16 x.allotted ∧
    w 5 = BitVec.ofNat 16 x.arrived ∧ w 6 = BitVec.ofNat 16 x.extra ∧
    w 7 = BitVec.ofNat 16 x.suspect ∧ WordsHold w 8 x.firstRow ∧ WordsHold w 10 x.lastRow ∧
    WordsHold w 12 (x.firstSuspect.getD 0#32) ∧
    ∀ p, x.closePoint = some p → WordsHold w 14 p
  | .suspect l id row =>
    HeaderIs (w 0) 2 dropped false (laneIndex l) ∧ w 1 = BitVec.ofNat 16 id ∧
    WordsHold w 2 row ∧ ∀ i, 4 ≤ i → w i = 0#16
  | .fault cause secondary f newest =>
    HeaderIs (w 0) 3 dropped secondary 0 ∧
    ((w 1).extractLsb' 0 8).toNat = causeCode cause ∧
    ((w 1).extractLsb' 8 8).toNat = (match cause with
      | .halting _ => 255
      | .conveyorTimeout c => conveyorCode c) ∧
    WordsHold w 2 f ∧ WordsHold w 4 newest ∧ ∀ i, 6 ≤ i → w i = 0#16
  | .jobStart id first =>
    HeaderIs (w 0) 4 dropped false 0 ∧ w 1 = BitVec.ofNat 16 id ∧ WordsHold w 2 first ∧
    ∀ i, 4 ≤ i → w i = 0#16
  | .jobEnd id first last tallies =>
    HeaderIs (w 0) 5 dropped false 0 ∧ w 1 = BitVec.ofNat 16 id ∧ WordsHold w 2 first ∧
    WordsHold w 4 last ∧
    ∀ i x, allReasons[i]? = some x → w (6 + i) = BitVec.ofNat 16 (tallies.get x)

/-- The write of the oldest record into a FILLING half: its 16 words stand in the slot at the fill index,
DROPPED when drop pending was SET, and the header counts it; it has left the queue, drop pending is
CLEAR, the fill index has risen, and the first record of the half starts the age timer. A STACK record
gives its reservation back, and a grant pass follows. The words of
each kind of record are those of its layout. -/
def Obligations.ReportWriteStoresTheOldestRecord : Prop :=
  (∀ (r : Record) (dropped : Bool), RecordLaidOut r dropped fun i =>
    (recordWords r dropped).getD i 0#16) ∧
  ∀ (s : State) (h : Half) (r : Record) (rest : List Record) (slot : Nat),
    s.pxm.memory.wf = true → s.rpw.writer = .filling h → s.rpw.queue = r :: rest →
    s.pxm.requests.head? = some .reports → MemoryIdle s → s.rpw.fillIndex < 47 →
    slot = halfBase h + 32 + 32 * s.rpw.fillIndex →
    ∃ t, exec .reportWrite s = .next t ∧
      (∀ i, i < 16 → Memory.readWord t.pxm.memory (slot + 2 * i) =
        (recordWords r s.rpw.dropPending).getD i 0#16) ∧
      (Memory.readWord t.pxm.memory (halfBase h + 2)).toNat = s.rpw.fillIndex + 1 ∧
      (∀ k, k < slot ∨ slot + 32 ≤ k → k < halfBase h + 2 ∨ halfBase h + 4 ≤ k →
        Memory.readByte t.pxm.memory k = Memory.readByte s.pxm.memory k) ∧
      t.rpw = { s.rpw with queue := rest, dropPending := false,
                           fillIndex := s.rpw.fillIndex + 1, ageTimer := t.rpw.ageTimer } ∧
      (s.rpw.fillIndex ≠ 0 → t.rpw.ageTimer = s.rpw.ageTimer) ∧
      (∀ m, s.rpw.fillIndex = 0 → s.rnc.record = some m → t.rpw.ageTimer = some m.reportAge) ∧
      t.pxm.requests = s.pxm.requests.tail ∧
      (rest ≠ [] → BurstSource.reports ∈ (settleMemory t).pxm.requests) ∧
      (r.isStack = false → t.tka = s.tka ∧ t.skc = s.skc) ∧
      (r.isStack = true → NoneWaits s →
        t.tka = { s.tka with reservations := s.tka.reservations - 1 } ∧ t.skc = s.skc) ∧
      (∀ m, r.isStack = true → s.rnc.record = some m → GrantPass m .c0
        (s.setTka { s.tka with reservations := s.tka.reservations - 1 }) t) ∧
      t.pxm.attention = s.pxm.attention ∧ t.rot = s.rot ∧ t.mkt = s.mkt ∧ t.knt = s.knt ∧
      t.ntp = s.ntp ∧ t.lnd = s.lnd ∧ t.jbc = s.jbc ∧ t.rnc = s.rnc ∧ t.trc = s.trc

/-- The FILLING half was closed: CLOSED in its state word, ATTENTION.REPORTS set, the age timer stopped,
and the writer turned to the other half, which it takes when its state word holds EMPTY and waits for
otherwise. -/
structure HalfClosed (s t : State) (h : Half) : Prop where
  closed : Memory.readWord t.pxm.memory (halfBase h) = 2#16
  attention : t.pxm.attention = { s.pxm.attention with reports := true }
  timer : t.rpw.ageTimer = none
  done : t.rpw.halfWork = [] ∧ t.pxm.burst = none
  taken : Memory.readWord s.pxm.memory (halfBase (otherHalf h)) = 0#16 →
    t.rpw.writer = .filling (otherHalf h) ∧ t.rpw.fillIndex = 0 ∧
    Memory.readWord t.pxm.memory (halfBase (otherHalf h)) = 1#16 ∧
    (t.rpw.queue ≠ [] → BurstSource.reports ∈ t.pxm.requests)
  waits : Memory.readWord s.pxm.memory (halfBase (otherHalf h)) ≠ 0#16 →
    t.rpw.writer = .waiting (otherHalf h) ∧ BurstSource.reports ∉ t.pxm.requests ∧
    Memory.readWord t.pxm.memory (halfBase (otherHalf h)) =
      Memory.readWord s.pxm.memory (halfBase (otherHalf h))

/-- A half state access as its burst begins: CLOSED or FILLING is written, or the state word is read and
the half taken or awaited; the request is served, and no other byte and nothing else changes. -/
structure HalfAccessed (x : HalfAccess) (rest : List HalfAccess) (s t : State) : Prop where
  closed : ∀ h, x = .writeClosed h → Memory.readWord t.pxm.memory (halfBase h) = 2#16 ∧
    SameOutside (halfBase h) 2 s.pxm.memory t.pxm.memory ∧ t.rpw = { s.rpw with halfWork := rest }
  filling : ∀ h, x = .writeFilling h → Memory.readWord t.pxm.memory (halfBase h) = 1#16 ∧
    SameOutside (halfBase h) 2 s.pxm.memory t.pxm.memory ∧ t.rpw = { s.rpw with halfWork := rest }
  look : ∀ h, x = .look h → t.pxm.memory = s.pxm.memory ∧
    t.rpw = if Memory.readWord s.pxm.memory (halfBase h) = 0#16
      then { s.rpw with writer := .filling h, fillIndex := 0, ageTimer := none,
                        halfWork := [.writeFilling h] }
      else { s.rpw with writer := .waiting h, halfWork := rest }
  only : t = { s with rpw := t.rpw, pxm := { s.pxm with
    memory := t.pxm.memory, requests := s.pxm.requests.tail, burst := t.pxm.burst } }
  burst : ∃ b, t.pxm.burst = some b ∧ b.source = .reports

/-- A half closes at two events: the expiry of its age timer, and the write of its 48th record. At each the
age timer is stopped, ATTENTION.REPORTS is set and no record still in the queue is written into the half
any more; the write of CLOSED, the look at the other half and the write of FILLING follow, each a burst
of one word at its turn among the requests, and at once when nothing else is requested. An expiry of a
stopped timer, or while the writer waits, changes nothing. That the place which a request for a record
write had serves the write of CLOSED is the model's choice (log entry 22). -/
def Obligations.HalvesCloseByAgeAndByCount : Prop :=
  (∀ (s : State) (h : Half) (n : Nat), s.pxm.memory.wf = true → s.rpw.writer = .filling h →
    s.rpw.ageTimer = some n → ∃ t, exec .ageTimerExpiry s = .next t ∧
      t.pxm.attention = { s.pxm.attention with reports := true } ∧ t.rpw.ageTimer = none ∧
      t.rpw.queue = s.rpw.queue ∧ t.rpw.writer = .filling h ∧ t.rpw.fillIndex = s.rpw.fillIndex ∧
      (s.pxm.burst = none → s.pxm.requests = [] ∨ s.pxm.requests.head? = some .reports →
        t.rpw.halfWork = [.look (otherHalf h)] ∧
        Memory.readWord t.pxm.memory (halfBase h) = 2#16 ∧
        SameOutside (halfBase h) 2 s.pxm.memory t.pxm.memory ∧
        t.pxm.requests = s.pxm.requests.tail) ∧
      (s.pxm.burst ≠ none ∨ (∃ b q, s.pxm.requests = b :: q ∧ b ≠ .reports) →
        t.rpw.halfWork = [.writeClosed h, .look (otherHalf h)] ∧ t.pxm.memory = s.pxm.memory ∧
        ((∀ b, s.pxm.burst = some b → b.source ≠ .reports) →
          BurstSource.reports ∈ t.pxm.requests)) ∧
      (MemoryIdle s → s.pxm.requests = [] ∨ s.pxm.requests = [.reports] →
        HalfClosed s (freeMemory t) h ∧
        ∀ k, k ≠ halfBase .a → k ≠ halfBase .a + 1 → k ≠ halfBase .b → k ≠ halfBase .b + 1 →
          Memory.readByte (freeMemory t).pxm.memory k = Memory.readByte s.pxm.memory k) ∧
      t = { s with
        rpw := { s.rpw with ageTimer := none, halfWork := t.rpw.halfWork },
        pxm := { s.pxm with memory := t.pxm.memory, requests := t.pxm.requests,
                            burst := t.pxm.burst, attention := t.pxm.attention } }) ∧
  (∀ (s : State) (h : Half) (r : Record) (rest : List Record), s.pxm.memory.wf = true →
    s.rpw.writer = .filling h → s.rpw.queue = r :: rest →
    s.pxm.requests.head? = some .reports → MemoryIdle s → s.rpw.fillIndex = 47 →
    ∃ t, exec .reportWrite s = .next t ∧ t.rpw.queue = rest ∧ t.rpw.fillIndex = 48 ∧
      t.rpw.dropPending = false ∧ Memory.readWord t.pxm.memory (halfBase h + 2) = 48#16 ∧
      t.pxm.attention = { s.pxm.attention with reports := true } ∧ t.rpw.ageTimer = none ∧
      t.rpw.writer = .filling h ∧ t.rpw.halfWork = [.writeClosed h, .look (otherHalf h)] ∧
      t.pxm.requests = s.pxm.requests.tail ∧
      BurstSource.reports ∈ requestsAtEnd ⟨.reports, []⟩ t ∧
      (s.pxm.requests = [.reports] → HalfClosed s (freeMemory t) h)) ∧
  (∀ (s : State) (x : HalfAccess) (rest : List HalfAccess), s.pxm.memory.wf = true →
    s.pxm.burst = none → s.pxm.waiting = [] → s.rpw.halfWork = x :: rest →
    (s.pxm.requests.head? = some .reports → HalfAccessed x rest s (afterBurst s)) ∧
    (s.pxm.requests.head? ≠ some .reports → afterBurst s = s ∧ exec .reportWrite s = .next s)) ∧
  ∀ s : State, s.rpw.ageTimer = none ∨ (∃ h, s.rpw.writer = .waiting h) →
    exec .ageTimerExpiry s = .next s

/-- A lane's four values in live status: the FRONT stack's allotted count and the shelf total, and in its
byte the state of its last stack in bits 0 to 2 and the hold flag in bit 7; an empty line shows 0. -/
structure LaneShown (mem : Memory) (s : State) (l : Lane) : Prop where
  front : Memory.readWord mem (0x2C + 4 * laneIndex l) =
    match (s.skc.get l).line with
    | x :: _ => BitVec.ofNat 16 x.allotted
    | [] => 0#16
  shelf : Memory.readWord mem (0x2E + 4 * laneIndex l) =
    BitVec.ofNat 16 ((s.skc.get l).line.tail.map fun x => x.allotted).sum
  last : ((Memory.readByte mem (0x3C + laneIndex l)).extractLsb' 0 3).toNat =
    match (s.skc.get l).line.getLast? with
    | some x => stackStateCode x.state
    | none => 0
  hold : (Memory.readByte mem (0x3C + laneIndex l)).getLsbD 7 = (s.skc.get l).hold
  zeros : (Memory.readByte mem (0x3C + laneIndex l)).extractLsb' 3 4 = 0#4

/-- The encodings of the named values that live status, the records and the fates show. -/
def EncodingsTabled : Prop :=
  [RunState.off, .ready, .run, .drain, .halted].map runStateCode = [0, 1, 2, 3, 4] ∧
  faultCodeNat none = 0 ∧
  [HaltingFault.markLost, .knifeStall, .reverseLimit, .trackOverflow, .encoder].map
    (fun f => faultCodeNat (some f)) = [1, 2, 3, 4, 5] ∧
  (∀ f, causeCode (.halting f) = faultCodeNat (some f)) ∧
  (∀ c, causeCode (.conveyorTimeout c) = 6) ∧
  [Zone.crawl, .run, .over].map zoneCode = [0, 1, 2] ∧ [Page.a, .b].map pageCode = [0, 1] ∧
  [StackState.filling, .completing, .closed, .pushing].map stackStateCode = [1, 2, 3, 4] ∧
  [Fate.applied, .pending, .late, .partLate, .gone, .gutter, .future, .guarded, .noJob, .busy,
    .refused, .bad, .done, .unapplied].map fateCode =
      [1, 2, 3, 4, 5, 6, 7, 8, 9, 10, 11, 12, 13, 14] ∧
  [CloseKind.full, .shortCmd, .shortJob, .shortStop, .shortAbort, .shortFault].map closeKindCode =
    [0, 1, 2, 3, 4, 5] ∧
  [CommandResult.none, .accepted, .refused, .badCode].map resultCode = [0, 1, 2, 3] ∧
  [Conveyor.c0, .c1].map conveyorCode = [0, 1]

/-- The refresh timer requests the live status burst, once; the burst at its turn writes the 64 bytes of
live status, every field of its table, from the blocks' values as they stand and by the table of
encodings, and no other byte. That a LIVE_STATUS_REFRESH that has not its turn changes nothing, and that
a refresh burst still in progress at the next expiry has ended there, is the model's choice (log entries
9 and 7). -/
def Obligations.LiveStatusIsWrittenFromTheBlocks : Prop :=
  EncodingsTabled ∧
  (∀ s : State, s.pxm.resetAsserted = false →
    ((∀ b, s.pxm.burst = some b → b.source ≠ .refresh) → ∃ t, exec .refreshTimerExpiry s = .next t ∧
      BurstSource.refresh ∈ t.pxm.requests ∧
      (BurstSource.refresh ∈ s.pxm.requests → t = s) ∧
      t = { s with pxm := { s.pxm with requests := t.pxm.requests } }) ∧
    (∀ b, s.pxm.burst = some b → b.source = .refresh →
      exec .refreshTimerExpiry s = exec .refreshTimerExpiry (settleMemory s))) ∧
  (∀ s : State, (freeMemory s).pxm.requests.head? ≠ some .refresh →
    exec .liveStatusRefresh s = .next s) ∧
  ∀ (s : State) (q : List BurstSource), s.pxm.memory.wf = true →
    s.pxm.requests = .refresh :: q → s.pxm.burst = none → s.pxm.waiting = [] →
    ∃ t, exec .liveStatusRefresh s = .next t ∧
      Memory.readCount t.pxm.memory 0x00 = s.trc.web ∧
      Memory.readCount t.pxm.memory 0x04 = s.trc.front ∧
      (s.mkt.stretch < 4294967296 →
        (Memory.readCount t.pxm.memory 0x08).toNat = s.mkt.stretch) ∧
      Memory.readCount t.pxm.memory 0x0C = newestNumber s ∧
      Memory.readCount t.pxm.memory 0x10 = oldestNumber s ∧
      Memory.readCount t.pxm.memory 0x14 = s.ntp.horizon.getD 0#32 ∧
      Memory.readCount t.pxm.memory 0x18 = s.ntp.guardPoint.getD 0#32 ∧
      (s.trc.speed ≤ 4095 → (Memory.readWord t.pxm.memory 0x1C).toNat = s.trc.speed) ∧
      (Memory.readByte t.pxm.memory 0x1E).toNat = zoneCode s.trc.zone ∧
      (Memory.readByte t.pxm.memory 0x1F).toNat = runStateCode s.rnc.runState ∧
      (Memory.readByte t.pxm.memory 0x20).toNat = faultCodeNat s.rnc.faultCode ∧
      (Memory.readByte t.pxm.memory 0x21).toNat = pageCode s.ntp.expectedPage ∧
      (s.rot.track.length ≤ 64 →
        (Memory.readByte t.pxm.memory 0x22).toNat = s.rot.track.length ∧
        (Memory.readByte t.pxm.memory 0x23).toNat =
          (s.rot.track.filter fun r => !fullyDecided r).length) ∧
      (s.ntp.spans.length ≤ 32 →
        (Memory.readByte t.pxm.memory 0x24).toNat = s.ntp.spans.length ∧
        (Memory.readByte t.pxm.memory 0x25).getLsbD 0 = s.ntp.horizon.isSome ∧
        (Memory.readByte t.pxm.memory 0x25).getLsbD 1 = s.ntp.guardPoint.isSome ∧
        (Memory.readByte t.pxm.memory 0x25).extractLsb' 2 6 = 0#6) ∧
      Memory.readWord t.pxm.memory 0x26 = BitVec.ofNat 16 s.mkt.strayCount ∧
      Memory.readWord t.pxm.memory 0x28 = BitVec.ofNat 16 s.mkt.glitchCount ∧
      Memory.readWord t.pxm.memory 0x2A = BitVec.ofNat 16 s.rpw.droppedCount ∧
      (∀ l, LaneShown t.pxm.memory s l) ∧
      SameOutside 0 64 s.pxm.memory t.pxm.memory ∧
      t = { s with pxm := { s.pxm with memory := t.pxm.memory, requests := q,
                                       burst := t.pxm.burst } }

/-! ### What every step keeps -/

/-- The state the model starts in meets every invariant. -/
def Obligations.ResetMeetsEveryInvariant : Prop :=
  ExchangeInv State.reset ∧ TrackInv State.reset ∧ KnifeInv State.reset ∧ RunInv State.reset ∧
  BoundsInv State.reset ∧ TakeawayInv State.reset ∧ StackInv State.reset

/-- Every step keeps exchange memory in its canonical form, the page work and the half state accesses in
order, each burst source with at most one burst requested or running, and one requested exactly while it
needs one and its last has ended, and the burst in progress within memory. -/
def Obligations.StepKeepsExchangeInv : Prop :=
  ∀ s t : State, ExchangeInv s → step s = .next t → ExchangeInv t

/-- Every step keeps the track at no more than 64 rows with consecutive numbers, the newest being the last
issued number. -/
def Obligations.StepKeepsTrackInv : Prop :=
  ∀ s t : State, TrackInv s → step s = .next t → TrackInv t

/-- Every step keeps KNIFE_FIRE released exactly while no stroke is in flight, the inhibited knife idle in
HALTED, and the one FIRING row the one the cycle record names. -/
def Obligations.StepKeepsKnifeInv : Prop :=
  ∀ s t : State, KnifeInv s → step s = .next t → KnifeInv t

/-- Every step keeps the fault code, the config field index, the contexts, the flaps, the tracker and the
stop rows in agreement with the run state. -/
def Obligations.StepKeepsRunInv : Prop :=
  ∀ s t : State, RunInv s → step s = .next t → RunInv t

/-- Every step keeps the track, the pending spans, the arrival lists, the stack lines and the records other
than STACK records within their capacities, and within their ranges v, the standstill and deglitch
counts, the stretch estimate, the leads, the coast, stray, glitch and dropped counts, the tallies, extra
and suspect counts, stack ids to come, lane targets, shelf totals and limits, ages, and the fields of
the machine record in use. (STACK records and reservations: StepKeepsTakeawayInv; the fill index:
StepKeepsExchangeInv; the stall count: StepKeepsKnifeInv.) -/
def Obligations.StepKeepsBoundsInv : Prop :=
  ∀ s t : State, BoundsInv s → step s = .next t → BoundsInv t

/-- Every step keeps the reservation count equal to the stacks PUSHING and the STACK records waiting, at
most 12; each PUSHING conveyor pushing its lane's FRONT; and only lanes with a CLOSED FRONT waiting, for
their own conveyor. With these it keeps every lane whose FRONT is CLOSED in the waiting set of its
conveyor: a lane joins when its FRONT becomes CLOSED, or when a CLOSED stack becomes its FRONT. -/
def Obligations.StepKeepsTakeawayInv : Prop :=
  (∀ s t : State, ArbiterInv s → step s = .next t → ArbiterInv t) ∧
  ∀ s t : State, TakeawayInv s → step s = .next t → TakeawayInv t

/-- Every step keeps every stack accounting for each label allotted to it (arrived, missing or still
expected at the eye), a COMPLETING stack awaiting one and a CLOSED or PUSHING one none, the ids of a line
consecutive, and only its last stack FILLING. -/
def Obligations.StepKeepsStackInv : Prop :=
  ∀ s t : State, StackInv s → step s = .next t → StackInv t
end

