-- ==== Sys2Proof/Laws/State.lean ====
section
/-! SUPPORT. What each update of the state leaves and what it writes, one lemma per field per update; and
the values of lanes and conveyors after one of them is replaced. -/

namespace Sys2Proof.Machine

/-! ### Lanes and conveyors -/

@[simp] theorem Lanes.get_set_self {α : Type} (x : Lanes α) (l : Lane) (v : α) :
    (x.set l v).get l = v := by cases l <;> rfl

theorem Lanes.get_set_ne {α : Type} (x : Lanes α) {k l : Lane} (v : α) (h : k ≠ l) :
    (x.set l v).get k = x.get k := by cases k <;> cases l <;> first | rfl | exact absurd rfl h

theorem Lanes.get_set {α : Type} (x : Lanes α) (k l : Lane) (v : α) :
    (x.set l v).get k = if k = l then v else x.get k := by cases k <;> cases l <;> rfl

@[simp] theorem Lanes.set_get_self {α : Type} (x : Lanes α) (l : Lane) : x.set l (x.get l) = x := by
  cases l <;> rfl

@[simp] theorem Lanes.get_fill {α : Type} (v : α) (l : Lane) : (Lanes.fill v).get l = v := by
  cases l <;> rfl

@[simp] theorem Lanes.get_map {α β : Type} (f : α → β) (x : Lanes α) (l : Lane) :
    (x.map f).get l = f (x.get l) := by cases l <;> rfl

@[simp] theorem Lanes.get_ofFn {α : Type} (f : Lane → α) (l : Lane) : (Lanes.ofFn f).get l = f l := by
  cases l <;> rfl

/-- Lanes are equal when they are equal lane by lane. -/
theorem Lanes.ext_get {α : Type} {x y : Lanes α} (h : ∀ l, x.get l = y.get l) : x = y := by
  cases x; cases y
  have h0 := h .l0; have h1 := h .l1; have h2 := h .l2; have h3 := h .l3
  simp only [Lanes.get] at h0 h1 h2 h3
  simp [h0, h1, h2, h3]

@[simp] theorem Conveyors.get_set_self {α : Type} (x : Conveyors α) (c : Conveyor) (v : α) :
    (x.set c v).get c = v := by cases c <;> rfl

theorem Conveyors.get_set {α : Type} (x : Conveyors α) (k c : Conveyor) (v : α) :
    (x.set c v).get k = if k = c then v else x.get k := by cases k <;> cases c <;> rfl

theorem Conveyors.get_set_ne {α : Type} (x : Conveyors α) {k c : Conveyor} (v : α) (h : k ≠ c) :
    (x.set c v).get k = x.get k := by cases k <;> cases c <;> first | rfl | exact absurd rfl h

/-- Conveyors are equal when they are equal one by one. -/
theorem Conveyors.ext_get {α : Type} {x y : Conveyors α} (h : ∀ c, x.get c = y.get c) : x = y := by
  cases x; cases y
  have h0 := h .c0; have h1 := h .c1
  simp only [Conveyors.get] at h0 h1
  simp [h0, h1]

/-! ### State.setTrc -/

@[simp] theorem State.setTrc_trc (s : State) (x : Trc) : (s.setTrc x).trc = x := rfl
@[simp] theorem State.setTrc_mkt (s : State) (x : Trc) : (s.setTrc x).mkt = s.mkt := rfl
@[simp] theorem State.setTrc_rot (s : State) (x : Trc) : (s.setTrc x).rot = s.rot := rfl
@[simp] theorem State.setTrc_knt (s : State) (x : Trc) : (s.setTrc x).knt = s.knt := rfl
@[simp] theorem State.setTrc_ntp (s : State) (x : Trc) : (s.setTrc x).ntp = s.ntp := rfl
@[simp] theorem State.setTrc_lnd (s : State) (x : Trc) : (s.setTrc x).lnd = s.lnd := rfl
@[simp] theorem State.setTrc_skc (s : State) (x : Trc) : (s.setTrc x).skc = s.skc := rfl
@[simp] theorem State.setTrc_tka (s : State) (x : Trc) : (s.setTrc x).tka = s.tka := rfl
@[simp] theorem State.setTrc_jbc (s : State) (x : Trc) : (s.setTrc x).jbc = s.jbc := rfl
@[simp] theorem State.setTrc_rnc (s : State) (x : Trc) : (s.setTrc x).rnc = s.rnc := rfl
@[simp] theorem State.setTrc_pxm (s : State) (x : Trc) : (s.setTrc x).pxm = s.pxm := rfl
@[simp] theorem State.setTrc_rpw (s : State) (x : Trc) : (s.setTrc x).rpw = s.rpw := rfl
@[simp] theorem State.setTrc_choices (s : State) (x : Trc) : (s.setTrc x).choices = s.choices := rfl
@[simp] theorem State.setTrc_pending (s : State) (x : Trc) : (s.setTrc x).pending = s.pending := rfl

/-! ### State.setMkt -/

@[simp] theorem State.setMkt_trc (s : State) (x : Mkt) : (s.setMkt x).trc = s.trc := rfl
@[simp] theorem State.setMkt_mkt (s : State) (x : Mkt) : (s.setMkt x).mkt = x := rfl
@[simp] theorem State.setMkt_rot (s : State) (x : Mkt) : (s.setMkt x).rot = s.rot := rfl
@[simp] theorem State.setMkt_knt (s : State) (x : Mkt) : (s.setMkt x).knt = s.knt := rfl
@[simp] theorem State.setMkt_ntp (s : State) (x : Mkt) : (s.setMkt x).ntp = s.ntp := rfl
@[simp] theorem State.setMkt_lnd (s : State) (x : Mkt) : (s.setMkt x).lnd = s.lnd := rfl
@[simp] theorem State.setMkt_skc (s : State) (x : Mkt) : (s.setMkt x).skc = s.skc := rfl
@[simp] theorem State.setMkt_tka (s : State) (x : Mkt) : (s.setMkt x).tka = s.tka := rfl
@[simp] theorem State.setMkt_jbc (s : State) (x : Mkt) : (s.setMkt x).jbc = s.jbc := rfl
@[simp] theorem State.setMkt_rnc (s : State) (x : Mkt) : (s.setMkt x).rnc = s.rnc := rfl
@[simp] theorem State.setMkt_pxm (s : State) (x : Mkt) : (s.setMkt x).pxm = s.pxm := rfl
@[simp] theorem State.setMkt_rpw (s : State) (x : Mkt) : (s.setMkt x).rpw = s.rpw := rfl
@[simp] theorem State.setMkt_choices (s : State) (x : Mkt) : (s.setMkt x).choices = s.choices := rfl
@[simp] theorem State.setMkt_pending (s : State) (x : Mkt) : (s.setMkt x).pending = s.pending := rfl

/-! ### State.setRot -/

@[simp] theorem State.setRot_trc (s : State) (x : Rot) : (s.setRot x).trc = s.trc := rfl
@[simp] theorem State.setRot_mkt (s : State) (x : Rot) : (s.setRot x).mkt = s.mkt := rfl
@[simp] theorem State.setRot_rot (s : State) (x : Rot) : (s.setRot x).rot = x := rfl
@[simp] theorem State.setRot_knt (s : State) (x : Rot) : (s.setRot x).knt = s.knt := rfl
@[simp] theorem State.setRot_ntp (s : State) (x : Rot) : (s.setRot x).ntp = s.ntp := rfl
@[simp] theorem State.setRot_lnd (s : State) (x : Rot) : (s.setRot x).lnd = s.lnd := rfl
@[simp] theorem State.setRot_skc (s : State) (x : Rot) : (s.setRot x).skc = s.skc := rfl
@[simp] theorem State.setRot_tka (s : State) (x : Rot) : (s.setRot x).tka = s.tka := rfl
@[simp] theorem State.setRot_jbc (s : State) (x : Rot) : (s.setRot x).jbc = s.jbc := rfl
@[simp] theorem State.setRot_rnc (s : State) (x : Rot) : (s.setRot x).rnc = s.rnc := rfl
@[simp] theorem State.setRot_pxm (s : State) (x : Rot) : (s.setRot x).pxm = s.pxm := rfl
@[simp] theorem State.setRot_rpw (s : State) (x : Rot) : (s.setRot x).rpw = s.rpw := rfl
@[simp] theorem State.setRot_choices (s : State) (x : Rot) : (s.setRot x).choices = s.choices := rfl
@[simp] theorem State.setRot_pending (s : State) (x : Rot) : (s.setRot x).pending = s.pending := rfl

/-! ### State.setKnt -/

@[simp] theorem State.setKnt_trc (s : State) (x : Knt) : (s.setKnt x).trc = s.trc := rfl
@[simp] theorem State.setKnt_mkt (s : State) (x : Knt) : (s.setKnt x).mkt = s.mkt := rfl
@[simp] theorem State.setKnt_rot (s : State) (x : Knt) : (s.setKnt x).rot = s.rot := rfl
@[simp] theorem State.setKnt_knt (s : State) (x : Knt) : (s.setKnt x).knt = x := rfl
@[simp] theorem State.setKnt_ntp (s : State) (x : Knt) : (s.setKnt x).ntp = s.ntp := rfl
@[simp] theorem State.setKnt_lnd (s : State) (x : Knt) : (s.setKnt x).lnd = s.lnd := rfl
@[simp] theorem State.setKnt_skc (s : State) (x : Knt) : (s.setKnt x).skc = s.skc := rfl
@[simp] theorem State.setKnt_tka (s : State) (x : Knt) : (s.setKnt x).tka = s.tka := rfl
@[simp] theorem State.setKnt_jbc (s : State) (x : Knt) : (s.setKnt x).jbc = s.jbc := rfl
@[simp] theorem State.setKnt_rnc (s : State) (x : Knt) : (s.setKnt x).rnc = s.rnc := rfl
@[simp] theorem State.setKnt_pxm (s : State) (x : Knt) : (s.setKnt x).pxm = s.pxm := rfl
@[simp] theorem State.setKnt_rpw (s : State) (x : Knt) : (s.setKnt x).rpw = s.rpw := rfl
@[simp] theorem State.setKnt_choices (s : State) (x : Knt) : (s.setKnt x).choices = s.choices := rfl
@[simp] theorem State.setKnt_pending (s : State) (x : Knt) : (s.setKnt x).pending = s.pending := rfl

/-! ### State.setNtp -/

@[simp] theorem State.setNtp_trc (s : State) (x : Ntp) : (s.setNtp x).trc = s.trc := rfl
@[simp] theorem State.setNtp_mkt (s : State) (x : Ntp) : (s.setNtp x).mkt = s.mkt := rfl
@[simp] theorem State.setNtp_rot (s : State) (x : Ntp) : (s.setNtp x).rot = s.rot := rfl
@[simp] theorem State.setNtp_knt (s : State) (x : Ntp) : (s.setNtp x).knt = s.knt := rfl
@[simp] theorem State.setNtp_ntp (s : State) (x : Ntp) : (s.setNtp x).ntp = x := rfl
@[simp] theorem State.setNtp_lnd (s : State) (x : Ntp) : (s.setNtp x).lnd = s.lnd := rfl
@[simp] theorem State.setNtp_skc (s : State) (x : Ntp) : (s.setNtp x).skc = s.skc := rfl
@[simp] theorem State.setNtp_tka (s : State) (x : Ntp) : (s.setNtp x).tka = s.tka := rfl
@[simp] theorem State.setNtp_jbc (s : State) (x : Ntp) : (s.setNtp x).jbc = s.jbc := rfl
@[simp] theorem State.setNtp_rnc (s : State) (x : Ntp) : (s.setNtp x).rnc = s.rnc := rfl
@[simp] theorem State.setNtp_pxm (s : State) (x : Ntp) : (s.setNtp x).pxm = s.pxm := rfl
@[simp] theorem State.setNtp_rpw (s : State) (x : Ntp) : (s.setNtp x).rpw = s.rpw := rfl
@[simp] theorem State.setNtp_choices (s : State) (x : Ntp) : (s.setNtp x).choices = s.choices := rfl
@[simp] theorem State.setNtp_pending (s : State) (x : Ntp) : (s.setNtp x).pending = s.pending := rfl

/-! ### State.setLnd -/

@[simp] theorem State.setLnd_trc (s : State) (x : Lanes Lnd) : (s.setLnd x).trc = s.trc := rfl
@[simp] theorem State.setLnd_mkt (s : State) (x : Lanes Lnd) : (s.setLnd x).mkt = s.mkt := rfl
@[simp] theorem State.setLnd_rot (s : State) (x : Lanes Lnd) : (s.setLnd x).rot = s.rot := rfl
@[simp] theorem State.setLnd_knt (s : State) (x : Lanes Lnd) : (s.setLnd x).knt = s.knt := rfl
@[simp] theorem State.setLnd_ntp (s : State) (x : Lanes Lnd) : (s.setLnd x).ntp = s.ntp := rfl
@[simp] theorem State.setLnd_lnd (s : State) (x : Lanes Lnd) : (s.setLnd x).lnd = x := rfl
@[simp] theorem State.setLnd_skc (s : State) (x : Lanes Lnd) : (s.setLnd x).skc = s.skc := rfl
@[simp] theorem State.setLnd_tka (s : State) (x : Lanes Lnd) : (s.setLnd x).tka = s.tka := rfl
@[simp] theorem State.setLnd_jbc (s : State) (x : Lanes Lnd) : (s.setLnd x).jbc = s.jbc := rfl
@[simp] theorem State.setLnd_rnc (s : State) (x : Lanes Lnd) : (s.setLnd x).rnc = s.rnc := rfl
@[simp] theorem State.setLnd_pxm (s : State) (x : Lanes Lnd) : (s.setLnd x).pxm = s.pxm := rfl
@[simp] theorem State.setLnd_rpw (s : State) (x : Lanes Lnd) : (s.setLnd x).rpw = s.rpw := rfl
@[simp] theorem State.setLnd_choices (s : State) (x : Lanes Lnd) : (s.setLnd x).choices = s.choices := rfl
@[simp] theorem State.setLnd_pending (s : State) (x : Lanes Lnd) : (s.setLnd x).pending = s.pending := rfl

/-! ### State.setSkc -/

@[simp] theorem State.setSkc_trc (s : State) (x : Lanes SkcLane) : (s.setSkc x).trc = s.trc := rfl
@[simp] theorem State.setSkc_mkt (s : State) (x : Lanes SkcLane) : (s.setSkc x).mkt = s.mkt := rfl
@[simp] theorem State.setSkc_rot (s : State) (x : Lanes SkcLane) : (s.setSkc x).rot = s.rot := rfl
@[simp] theorem State.setSkc_knt (s : State) (x : Lanes SkcLane) : (s.setSkc x).knt = s.knt := rfl
@[simp] theorem State.setSkc_ntp (s : State) (x : Lanes SkcLane) : (s.setSkc x).ntp = s.ntp := rfl
@[simp] theorem State.setSkc_lnd (s : State) (x : Lanes SkcLane) : (s.setSkc x).lnd = s.lnd := rfl
@[simp] theorem State.setSkc_skc (s : State) (x : Lanes SkcLane) : (s.setSkc x).skc = x := rfl
@[simp] theorem State.setSkc_tka (s : State) (x : Lanes SkcLane) : (s.setSkc x).tka = s.tka := rfl
@[simp] theorem State.setSkc_jbc (s : State) (x : Lanes SkcLane) : (s.setSkc x).jbc = s.jbc := rfl
@[simp] theorem State.setSkc_rnc (s : State) (x : Lanes SkcLane) : (s.setSkc x).rnc = s.rnc := rfl
@[simp] theorem State.setSkc_pxm (s : State) (x : Lanes SkcLane) : (s.setSkc x).pxm = s.pxm := rfl
@[simp] theorem State.setSkc_rpw (s : State) (x : Lanes SkcLane) : (s.setSkc x).rpw = s.rpw := rfl
@[simp] theorem State.setSkc_choices (s : State) (x : Lanes SkcLane) : (s.setSkc x).choices = s.choices := rfl
@[simp] theorem State.setSkc_pending (s : State) (x : Lanes SkcLane) : (s.setSkc x).pending = s.pending := rfl

/-! ### State.setTka -/

@[simp] theorem State.setTka_trc (s : State) (x : Tka) : (s.setTka x).trc = s.trc := rfl
@[simp] theorem State.setTka_mkt (s : State) (x : Tka) : (s.setTka x).mkt = s.mkt := rfl
@[simp] theorem State.setTka_rot (s : State) (x : Tka) : (s.setTka x).rot = s.rot := rfl
@[simp] theorem State.setTka_knt (s : State) (x : Tka) : (s.setTka x).knt = s.knt := rfl
@[simp] theorem State.setTka_ntp (s : State) (x : Tka) : (s.setTka x).ntp = s.ntp := rfl
@[simp] theorem State.setTka_lnd (s : State) (x : Tka) : (s.setTka x).lnd = s.lnd := rfl
@[simp] theorem State.setTka_skc (s : State) (x : Tka) : (s.setTka x).skc = s.skc := rfl
@[simp] theorem State.setTka_tka (s : State) (x : Tka) : (s.setTka x).tka = x := rfl
@[simp] theorem State.setTka_jbc (s : State) (x : Tka) : (s.setTka x).jbc = s.jbc := rfl
@[simp] theorem State.setTka_rnc (s : State) (x : Tka) : (s.setTka x).rnc = s.rnc := rfl
@[simp] theorem State.setTka_pxm (s : State) (x : Tka) : (s.setTka x).pxm = s.pxm := rfl
@[simp] theorem State.setTka_rpw (s : State) (x : Tka) : (s.setTka x).rpw = s.rpw := rfl
@[simp] theorem State.setTka_choices (s : State) (x : Tka) : (s.setTka x).choices = s.choices := rfl
@[simp] theorem State.setTka_pending (s : State) (x : Tka) : (s.setTka x).pending = s.pending := rfl

/-! ### State.setJbc -/

@[simp] theorem State.setJbc_trc (s : State) (x : Jbc) : (s.setJbc x).trc = s.trc := rfl
@[simp] theorem State.setJbc_mkt (s : State) (x : Jbc) : (s.setJbc x).mkt = s.mkt := rfl
@[simp] theorem State.setJbc_rot (s : State) (x : Jbc) : (s.setJbc x).rot = s.rot := rfl
@[simp] theorem State.setJbc_knt (s : State) (x : Jbc) : (s.setJbc x).knt = s.knt := rfl
@[simp] theorem State.setJbc_ntp (s : State) (x : Jbc) : (s.setJbc x).ntp = s.ntp := rfl
@[simp] theorem State.setJbc_lnd (s : State) (x : Jbc) : (s.setJbc x).lnd = s.lnd := rfl
@[simp] theorem State.setJbc_skc (s : State) (x : Jbc) : (s.setJbc x).skc = s.skc := rfl
@[simp] theorem State.setJbc_tka (s : State) (x : Jbc) : (s.setJbc x).tka = s.tka := rfl
@[simp] theorem State.setJbc_jbc (s : State) (x : Jbc) : (s.setJbc x).jbc = x := rfl
@[simp] theorem State.setJbc_rnc (s : State) (x : Jbc) : (s.setJbc x).rnc = s.rnc := rfl
@[simp] theorem State.setJbc_pxm (s : State) (x : Jbc) : (s.setJbc x).pxm = s.pxm := rfl
@[simp] theorem State.setJbc_rpw (s : State) (x : Jbc) : (s.setJbc x).rpw = s.rpw := rfl
@[simp] theorem State.setJbc_choices (s : State) (x : Jbc) : (s.setJbc x).choices = s.choices := rfl
@[simp] theorem State.setJbc_pending (s : State) (x : Jbc) : (s.setJbc x).pending = s.pending := rfl

/-! ### State.setRnc -/

@[simp] theorem State.setRnc_trc (s : State) (x : Rnc) : (s.setRnc x).trc = s.trc := rfl
@[simp] theorem State.setRnc_mkt (s : State) (x : Rnc) : (s.setRnc x).mkt = s.mkt := rfl
@[simp] theorem State.setRnc_rot (s : State) (x : Rnc) : (s.setRnc x).rot = s.rot := rfl
@[simp] theorem State.setRnc_knt (s : State) (x : Rnc) : (s.setRnc x).knt = s.knt := rfl
@[simp] theorem State.setRnc_ntp (s : State) (x : Rnc) : (s.setRnc x).ntp = s.ntp := rfl
@[simp] theorem State.setRnc_lnd (s : State) (x : Rnc) : (s.setRnc x).lnd = s.lnd := rfl
@[simp] theorem State.setRnc_skc (s : State) (x : Rnc) : (s.setRnc x).skc = s.skc := rfl
@[simp] theorem State.setRnc_tka (s : State) (x : Rnc) : (s.setRnc x).tka = s.tka := rfl
@[simp] theorem State.setRnc_jbc (s : State) (x : Rnc) : (s.setRnc x).jbc = s.jbc := rfl
@[simp] theorem State.setRnc_rnc (s : State) (x : Rnc) : (s.setRnc x).rnc = x := rfl
@[simp] theorem State.setRnc_pxm (s : State) (x : Rnc) : (s.setRnc x).pxm = s.pxm := rfl
@[simp] theorem State.setRnc_rpw (s : State) (x : Rnc) : (s.setRnc x).rpw = s.rpw := rfl
@[simp] theorem State.setRnc_choices (s : State) (x : Rnc) : (s.setRnc x).choices = s.choices := rfl
@[simp] theorem State.setRnc_pending (s : State) (x : Rnc) : (s.setRnc x).pending = s.pending := rfl

/-! ### State.setPxm -/

@[simp] theorem State.setPxm_trc (s : State) (x : Pxm) : (s.setPxm x).trc = s.trc := rfl
@[simp] theorem State.setPxm_mkt (s : State) (x : Pxm) : (s.setPxm x).mkt = s.mkt := rfl
@[simp] theorem State.setPxm_rot (s : State) (x : Pxm) : (s.setPxm x).rot = s.rot := rfl
@[simp] theorem State.setPxm_knt (s : State) (x : Pxm) : (s.setPxm x).knt = s.knt := rfl
@[simp] theorem State.setPxm_ntp (s : State) (x : Pxm) : (s.setPxm x).ntp = s.ntp := rfl
@[simp] theorem State.setPxm_lnd (s : State) (x : Pxm) : (s.setPxm x).lnd = s.lnd := rfl
@[simp] theorem State.setPxm_skc (s : State) (x : Pxm) : (s.setPxm x).skc = s.skc := rfl
@[simp] theorem State.setPxm_tka (s : State) (x : Pxm) : (s.setPxm x).tka = s.tka := rfl
@[simp] theorem State.setPxm_jbc (s : State) (x : Pxm) : (s.setPxm x).jbc = s.jbc := rfl
@[simp] theorem State.setPxm_rnc (s : State) (x : Pxm) : (s.setPxm x).rnc = s.rnc := rfl
@[simp] theorem State.setPxm_pxm (s : State) (x : Pxm) : (s.setPxm x).pxm = x := rfl
@[simp] theorem State.setPxm_rpw (s : State) (x : Pxm) : (s.setPxm x).rpw = s.rpw := rfl
@[simp] theorem State.setPxm_choices (s : State) (x : Pxm) : (s.setPxm x).choices = s.choices := rfl
@[simp] theorem State.setPxm_pending (s : State) (x : Pxm) : (s.setPxm x).pending = s.pending := rfl

/-! ### State.setRpw -/

@[simp] theorem State.setRpw_trc (s : State) (x : Rpw) : (s.setRpw x).trc = s.trc := rfl
@[simp] theorem State.setRpw_mkt (s : State) (x : Rpw) : (s.setRpw x).mkt = s.mkt := rfl
@[simp] theorem State.setRpw_rot (s : State) (x : Rpw) : (s.setRpw x).rot = s.rot := rfl
@[simp] theorem State.setRpw_knt (s : State) (x : Rpw) : (s.setRpw x).knt = s.knt := rfl
@[simp] theorem State.setRpw_ntp (s : State) (x : Rpw) : (s.setRpw x).ntp = s.ntp := rfl
@[simp] theorem State.setRpw_lnd (s : State) (x : Rpw) : (s.setRpw x).lnd = s.lnd := rfl
@[simp] theorem State.setRpw_skc (s : State) (x : Rpw) : (s.setRpw x).skc = s.skc := rfl
@[simp] theorem State.setRpw_tka (s : State) (x : Rpw) : (s.setRpw x).tka = s.tka := rfl
@[simp] theorem State.setRpw_jbc (s : State) (x : Rpw) : (s.setRpw x).jbc = s.jbc := rfl
@[simp] theorem State.setRpw_rnc (s : State) (x : Rpw) : (s.setRpw x).rnc = s.rnc := rfl
@[simp] theorem State.setRpw_pxm (s : State) (x : Rpw) : (s.setRpw x).pxm = s.pxm := rfl
@[simp] theorem State.setRpw_rpw (s : State) (x : Rpw) : (s.setRpw x).rpw = x := rfl
@[simp] theorem State.setRpw_choices (s : State) (x : Rpw) : (s.setRpw x).choices = s.choices := rfl
@[simp] theorem State.setRpw_pending (s : State) (x : Rpw) : (s.setRpw x).pending = s.pending := rfl

/-! ### State.setChoices -/

@[simp] theorem State.setChoices_trc (s : State) (x : Nat) : (s.setChoices x).trc = s.trc := rfl
@[simp] theorem State.setChoices_mkt (s : State) (x : Nat) : (s.setChoices x).mkt = s.mkt := rfl
@[simp] theorem State.setChoices_rot (s : State) (x : Nat) : (s.setChoices x).rot = s.rot := rfl
@[simp] theorem State.setChoices_knt (s : State) (x : Nat) : (s.setChoices x).knt = s.knt := rfl
@[simp] theorem State.setChoices_ntp (s : State) (x : Nat) : (s.setChoices x).ntp = s.ntp := rfl
@[simp] theorem State.setChoices_lnd (s : State) (x : Nat) : (s.setChoices x).lnd = s.lnd := rfl
@[simp] theorem State.setChoices_skc (s : State) (x : Nat) : (s.setChoices x).skc = s.skc := rfl
@[simp] theorem State.setChoices_tka (s : State) (x : Nat) : (s.setChoices x).tka = s.tka := rfl
@[simp] theorem State.setChoices_jbc (s : State) (x : Nat) : (s.setChoices x).jbc = s.jbc := rfl
@[simp] theorem State.setChoices_rnc (s : State) (x : Nat) : (s.setChoices x).rnc = s.rnc := rfl
@[simp] theorem State.setChoices_pxm (s : State) (x : Nat) : (s.setChoices x).pxm = s.pxm := rfl
@[simp] theorem State.setChoices_rpw (s : State) (x : Nat) : (s.setChoices x).rpw = s.rpw := rfl
@[simp] theorem State.setChoices_choices (s : State) (x : Nat) : (s.setChoices x).choices = x := rfl
@[simp] theorem State.setChoices_pending (s : State) (x : Nat) : (s.setChoices x).pending = s.pending := rfl

/-! ### State.setPending -/

@[simp] theorem State.setPending_trc (s : State) (x : List Instr) : (s.setPending x).trc = s.trc := rfl
@[simp] theorem State.setPending_mkt (s : State) (x : List Instr) : (s.setPending x).mkt = s.mkt := rfl
@[simp] theorem State.setPending_rot (s : State) (x : List Instr) : (s.setPending x).rot = s.rot := rfl
@[simp] theorem State.setPending_knt (s : State) (x : List Instr) : (s.setPending x).knt = s.knt := rfl
@[simp] theorem State.setPending_ntp (s : State) (x : List Instr) : (s.setPending x).ntp = s.ntp := rfl
@[simp] theorem State.setPending_lnd (s : State) (x : List Instr) : (s.setPending x).lnd = s.lnd := rfl
@[simp] theorem State.setPending_skc (s : State) (x : List Instr) : (s.setPending x).skc = s.skc := rfl
@[simp] theorem State.setPending_tka (s : State) (x : List Instr) : (s.setPending x).tka = s.tka := rfl
@[simp] theorem State.setPending_jbc (s : State) (x : List Instr) : (s.setPending x).jbc = s.jbc := rfl
@[simp] theorem State.setPending_rnc (s : State) (x : List Instr) : (s.setPending x).rnc = s.rnc := rfl
@[simp] theorem State.setPending_pxm (s : State) (x : List Instr) : (s.setPending x).pxm = s.pxm := rfl
@[simp] theorem State.setPending_rpw (s : State) (x : List Instr) : (s.setPending x).rpw = s.rpw := rfl
@[simp] theorem State.setPending_choices (s : State) (x : List Instr) : (s.setPending x).choices = s.choices := rfl
@[simp] theorem State.setPending_pending (s : State) (x : List Instr) : (s.setPending x).pending = x := rfl

end Sys2Proof.Machine
end

