-- ==== Sys2Proof/Laws/Ops.lean ====
section
/-! SUPPORT. The operations every block shares: for each operation, what it leaves as it stands. -/

namespace Sys2Proof.Machine

/-- What `setMemory` leaves as it stands. -/
@[simp] theorem setMemory_keeps (m : Memory) (s : State) :
    (setMemory m s).trc = s.trc ∧
    (setMemory m s).mkt = s.mkt ∧
    (setMemory m s).rot = s.rot ∧
    (setMemory m s).knt = s.knt ∧
    (setMemory m s).ntp = s.ntp ∧
    (setMemory m s).lnd = s.lnd ∧
    (setMemory m s).skc = s.skc ∧
    (setMemory m s).tka = s.tka ∧
    (setMemory m s).jbc = s.jbc ∧
    (setMemory m s).rnc = s.rnc ∧
    (setMemory m s).rpw = s.rpw ∧
    (setMemory m s).choices = s.choices ∧
    (setMemory m s).pending = s.pending ∧
    (setMemory m s).pxm.requests = s.pxm.requests ∧
    (setMemory m s).pxm.attention = s.pxm.attention ∧
    (setMemory m s).pxm.mask = s.pxm.mask ∧
    (setMemory m s).pxm.burst = s.pxm.burst ∧
    (setMemory m s).pxm.waiting = s.pxm.waiting ∧
    (setMemory m s).pxm.tearLatch = s.pxm.tearLatch ∧
    (setMemory m s).pxm.dataOut = s.pxm.dataOut ∧
    (setMemory m s).pxm.resetAsserted = s.pxm.resetAsserted := by
  simp [setMemory]

/-- What `storeWord` leaves as it stands. -/
@[simp] theorem storeWord_keeps (a : Nat) (w : Word) (s : State) :
    (storeWord a w s).trc = s.trc ∧
    (storeWord a w s).mkt = s.mkt ∧
    (storeWord a w s).rot = s.rot ∧
    (storeWord a w s).knt = s.knt ∧
    (storeWord a w s).ntp = s.ntp ∧
    (storeWord a w s).lnd = s.lnd ∧
    (storeWord a w s).skc = s.skc ∧
    (storeWord a w s).tka = s.tka ∧
    (storeWord a w s).jbc = s.jbc ∧
    (storeWord a w s).rnc = s.rnc ∧
    (storeWord a w s).rpw = s.rpw ∧
    (storeWord a w s).choices = s.choices ∧
    (storeWord a w s).pending = s.pending ∧
    (storeWord a w s).pxm.requests = s.pxm.requests ∧
    (storeWord a w s).pxm.attention = s.pxm.attention ∧
    (storeWord a w s).pxm.mask = s.pxm.mask ∧
    (storeWord a w s).pxm.burst = s.pxm.burst ∧
    (storeWord a w s).pxm.waiting = s.pxm.waiting ∧
    (storeWord a w s).pxm.tearLatch = s.pxm.tearLatch ∧
    (storeWord a w s).pxm.dataOut = s.pxm.dataOut ∧
    (storeWord a w s).pxm.resetAsserted = s.pxm.resetAsserted := by
  simp [storeWord]

/-- What `burstWrite` leaves as it stands. -/
@[simp] theorem burstWrite_keeps (a : Nat) (ws : List Word) (s : State) :
    (burstWrite a ws s).trc = s.trc ∧
    (burstWrite a ws s).mkt = s.mkt ∧
    (burstWrite a ws s).rot = s.rot ∧
    (burstWrite a ws s).knt = s.knt ∧
    (burstWrite a ws s).ntp = s.ntp ∧
    (burstWrite a ws s).lnd = s.lnd ∧
    (burstWrite a ws s).skc = s.skc ∧
    (burstWrite a ws s).tka = s.tka ∧
    (burstWrite a ws s).jbc = s.jbc ∧
    (burstWrite a ws s).rnc = s.rnc ∧
    (burstWrite a ws s).rpw = s.rpw ∧
    (burstWrite a ws s).choices = s.choices ∧
    (burstWrite a ws s).pending = s.pending ∧
    (burstWrite a ws s).pxm.requests = s.pxm.requests ∧
    (burstWrite a ws s).pxm.attention = s.pxm.attention ∧
    (burstWrite a ws s).pxm.mask = s.pxm.mask ∧
    (burstWrite a ws s).pxm.waiting = s.pxm.waiting ∧
    (burstWrite a ws s).pxm.tearLatch = s.pxm.tearLatch ∧
    (burstWrite a ws s).pxm.dataOut = s.pxm.dataOut ∧
    (burstWrite a ws s).pxm.resetAsserted = s.pxm.resetAsserted := by
  simp [burstWrite]

/-- What `setAttention` leaves as it stands. -/
@[simp] theorem setAttention_keeps (x : Attention) (s : State) :
    (setAttention x s).trc = s.trc ∧
    (setAttention x s).mkt = s.mkt ∧
    (setAttention x s).rot = s.rot ∧
    (setAttention x s).knt = s.knt ∧
    (setAttention x s).ntp = s.ntp ∧
    (setAttention x s).lnd = s.lnd ∧
    (setAttention x s).skc = s.skc ∧
    (setAttention x s).tka = s.tka ∧
    (setAttention x s).jbc = s.jbc ∧
    (setAttention x s).rnc = s.rnc ∧
    (setAttention x s).rpw = s.rpw ∧
    (setAttention x s).choices = s.choices ∧
    (setAttention x s).pending = s.pending ∧
    (setAttention x s).pxm.memory = s.pxm.memory ∧
    (setAttention x s).pxm.mask = s.pxm.mask ∧
    (setAttention x s).pxm.burst = s.pxm.burst ∧
    (setAttention x s).pxm.waiting = s.pxm.waiting ∧
    (setAttention x s).pxm.tearLatch = s.pxm.tearLatch ∧
    (setAttention x s).pxm.dataOut = s.pxm.dataOut ∧
    (setAttention x s).pxm.resetAsserted = s.pxm.resetAsserted ∧
    (setAttention x s).pxm.requests = s.pxm.requests := by
  simp [setAttention]

/-- What `flagPageDone` leaves as it stands. -/
@[simp] theorem flagPageDone_keeps (s : State) :
    (flagPageDone s).trc = s.trc ∧
    (flagPageDone s).mkt = s.mkt ∧
    (flagPageDone s).rot = s.rot ∧
    (flagPageDone s).knt = s.knt ∧
    (flagPageDone s).ntp = s.ntp ∧
    (flagPageDone s).lnd = s.lnd ∧
    (flagPageDone s).skc = s.skc ∧
    (flagPageDone s).tka = s.tka ∧
    (flagPageDone s).jbc = s.jbc ∧
    (flagPageDone s).rnc = s.rnc ∧
    (flagPageDone s).rpw = s.rpw ∧
    (flagPageDone s).choices = s.choices ∧
    (flagPageDone s).pending = s.pending ∧
    (flagPageDone s).pxm.memory = s.pxm.memory ∧
    (flagPageDone s).pxm.mask = s.pxm.mask ∧
    (flagPageDone s).pxm.burst = s.pxm.burst ∧
    (flagPageDone s).pxm.waiting = s.pxm.waiting ∧
    (flagPageDone s).pxm.tearLatch = s.pxm.tearLatch ∧
    (flagPageDone s).pxm.dataOut = s.pxm.dataOut ∧
    (flagPageDone s).pxm.resetAsserted = s.pxm.resetAsserted ∧
    (flagPageDone s).pxm.requests = s.pxm.requests := by
  simp [flagPageDone]

/-- What `flagReports` leaves as it stands. -/
@[simp] theorem flagReports_keeps (s : State) :
    (flagReports s).trc = s.trc ∧
    (flagReports s).mkt = s.mkt ∧
    (flagReports s).rot = s.rot ∧
    (flagReports s).knt = s.knt ∧
    (flagReports s).ntp = s.ntp ∧
    (flagReports s).lnd = s.lnd ∧
    (flagReports s).skc = s.skc ∧
    (flagReports s).tka = s.tka ∧
    (flagReports s).jbc = s.jbc ∧
    (flagReports s).rnc = s.rnc ∧
    (flagReports s).rpw = s.rpw ∧
    (flagReports s).choices = s.choices ∧
    (flagReports s).pending = s.pending ∧
    (flagReports s).pxm.memory = s.pxm.memory ∧
    (flagReports s).pxm.mask = s.pxm.mask ∧
    (flagReports s).pxm.burst = s.pxm.burst ∧
    (flagReports s).pxm.waiting = s.pxm.waiting ∧
    (flagReports s).pxm.tearLatch = s.pxm.tearLatch ∧
    (flagReports s).pxm.dataOut = s.pxm.dataOut ∧
    (flagReports s).pxm.resetAsserted = s.pxm.resetAsserted ∧
    (flagReports s).pxm.requests = s.pxm.requests := by
  simp [flagReports]

/-- What `flagFault` leaves as it stands. -/
@[simp] theorem flagFault_keeps (s : State) :
    (flagFault s).trc = s.trc ∧
    (flagFault s).mkt = s.mkt ∧
    (flagFault s).rot = s.rot ∧
    (flagFault s).knt = s.knt ∧
    (flagFault s).ntp = s.ntp ∧
    (flagFault s).lnd = s.lnd ∧
    (flagFault s).skc = s.skc ∧
    (flagFault s).tka = s.tka ∧
    (flagFault s).jbc = s.jbc ∧
    (flagFault s).rnc = s.rnc ∧
    (flagFault s).rpw = s.rpw ∧
    (flagFault s).choices = s.choices ∧
    (flagFault s).pending = s.pending ∧
    (flagFault s).pxm.memory = s.pxm.memory ∧
    (flagFault s).pxm.mask = s.pxm.mask ∧
    (flagFault s).pxm.burst = s.pxm.burst ∧
    (flagFault s).pxm.waiting = s.pxm.waiting ∧
    (flagFault s).pxm.tearLatch = s.pxm.tearLatch ∧
    (flagFault s).pxm.dataOut = s.pxm.dataOut ∧
    (flagFault s).pxm.resetAsserted = s.pxm.resetAsserted ∧
    (flagFault s).pxm.requests = s.pxm.requests := by
  simp [flagFault]

/-- What `flagState` leaves as it stands. -/
@[simp] theorem flagState_keeps (s : State) :
    (flagState s).trc = s.trc ∧
    (flagState s).mkt = s.mkt ∧
    (flagState s).rot = s.rot ∧
    (flagState s).knt = s.knt ∧
    (flagState s).ntp = s.ntp ∧
    (flagState s).lnd = s.lnd ∧
    (flagState s).skc = s.skc ∧
    (flagState s).tka = s.tka ∧
    (flagState s).jbc = s.jbc ∧
    (flagState s).rnc = s.rnc ∧
    (flagState s).rpw = s.rpw ∧
    (flagState s).choices = s.choices ∧
    (flagState s).pending = s.pending ∧
    (flagState s).pxm.memory = s.pxm.memory ∧
    (flagState s).pxm.mask = s.pxm.mask ∧
    (flagState s).pxm.burst = s.pxm.burst ∧
    (flagState s).pxm.waiting = s.pxm.waiting ∧
    (flagState s).pxm.tearLatch = s.pxm.tearLatch ∧
    (flagState s).pxm.dataOut = s.pxm.dataOut ∧
    (flagState s).pxm.resetAsserted = s.pxm.resetAsserted ∧
    (flagState s).pxm.requests = s.pxm.requests := by
  simp [flagState]

/-- What `flagCmd` leaves as it stands. -/
@[simp] theorem flagCmd_keeps (s : State) :
    (flagCmd s).trc = s.trc ∧
    (flagCmd s).mkt = s.mkt ∧
    (flagCmd s).rot = s.rot ∧
    (flagCmd s).knt = s.knt ∧
    (flagCmd s).ntp = s.ntp ∧
    (flagCmd s).lnd = s.lnd ∧
    (flagCmd s).skc = s.skc ∧
    (flagCmd s).tka = s.tka ∧
    (flagCmd s).jbc = s.jbc ∧
    (flagCmd s).rnc = s.rnc ∧
    (flagCmd s).rpw = s.rpw ∧
    (flagCmd s).choices = s.choices ∧
    (flagCmd s).pending = s.pending ∧
    (flagCmd s).pxm.memory = s.pxm.memory ∧
    (flagCmd s).pxm.mask = s.pxm.mask ∧
    (flagCmd s).pxm.burst = s.pxm.burst ∧
    (flagCmd s).pxm.waiting = s.pxm.waiting ∧
    (flagCmd s).pxm.tearLatch = s.pxm.tearLatch ∧
    (flagCmd s).pxm.dataOut = s.pxm.dataOut ∧
    (flagCmd s).pxm.resetAsserted = s.pxm.resetAsserted ∧
    (flagCmd s).pxm.requests = s.pxm.requests := by
  simp [flagCmd]

/-- What `setRequests` leaves as it stands. -/
@[simp] theorem setRequests_keeps (q : List BurstSource) (s : State) :
    (setRequests q s).trc = s.trc ∧
    (setRequests q s).mkt = s.mkt ∧
    (setRequests q s).rot = s.rot ∧
    (setRequests q s).knt = s.knt ∧
    (setRequests q s).ntp = s.ntp ∧
    (setRequests q s).lnd = s.lnd ∧
    (setRequests q s).skc = s.skc ∧
    (setRequests q s).tka = s.tka ∧
    (setRequests q s).jbc = s.jbc ∧
    (setRequests q s).rnc = s.rnc ∧
    (setRequests q s).rpw = s.rpw ∧
    (setRequests q s).choices = s.choices ∧
    (setRequests q s).pending = s.pending ∧
    (setRequests q s).pxm.memory = s.pxm.memory ∧
    (setRequests q s).pxm.mask = s.pxm.mask ∧
    (setRequests q s).pxm.burst = s.pxm.burst ∧
    (setRequests q s).pxm.waiting = s.pxm.waiting ∧
    (setRequests q s).pxm.tearLatch = s.pxm.tearLatch ∧
    (setRequests q s).pxm.dataOut = s.pxm.dataOut ∧
    (setRequests q s).pxm.resetAsserted = s.pxm.resetAsserted ∧
    (setRequests q s).pxm.attention = s.pxm.attention := by
  simp [setRequests]

/-- What `requestBurst` leaves as it stands. -/
@[simp] theorem requestBurst_keeps (b : BurstSource) (s : State) :
    (requestBurst b s).trc = s.trc ∧
    (requestBurst b s).mkt = s.mkt ∧
    (requestBurst b s).rot = s.rot ∧
    (requestBurst b s).knt = s.knt ∧
    (requestBurst b s).ntp = s.ntp ∧
    (requestBurst b s).lnd = s.lnd ∧
    (requestBurst b s).skc = s.skc ∧
    (requestBurst b s).tka = s.tka ∧
    (requestBurst b s).jbc = s.jbc ∧
    (requestBurst b s).rnc = s.rnc ∧
    (requestBurst b s).rpw = s.rpw ∧
    (requestBurst b s).choices = s.choices ∧
    (requestBurst b s).pending = s.pending ∧
    (requestBurst b s).pxm.memory = s.pxm.memory ∧
    (requestBurst b s).pxm.mask = s.pxm.mask ∧
    (requestBurst b s).pxm.burst = s.pxm.burst ∧
    (requestBurst b s).pxm.waiting = s.pxm.waiting ∧
    (requestBurst b s).pxm.tearLatch = s.pxm.tearLatch ∧
    (requestBurst b s).pxm.dataOut = s.pxm.dataOut ∧
    (requestBurst b s).pxm.resetAsserted = s.pxm.resetAsserted ∧
    (requestBurst b s).pxm.attention = s.pxm.attention := by
  simp [requestBurst]

/-- What `withdrawBurst` leaves as it stands. -/
@[simp] theorem withdrawBurst_keeps (b : BurstSource) (s : State) :
    (withdrawBurst b s).trc = s.trc ∧
    (withdrawBurst b s).mkt = s.mkt ∧
    (withdrawBurst b s).rot = s.rot ∧
    (withdrawBurst b s).knt = s.knt ∧
    (withdrawBurst b s).ntp = s.ntp ∧
    (withdrawBurst b s).lnd = s.lnd ∧
    (withdrawBurst b s).skc = s.skc ∧
    (withdrawBurst b s).tka = s.tka ∧
    (withdrawBurst b s).jbc = s.jbc ∧
    (withdrawBurst b s).rnc = s.rnc ∧
    (withdrawBurst b s).rpw = s.rpw ∧
    (withdrawBurst b s).choices = s.choices ∧
    (withdrawBurst b s).pending = s.pending ∧
    (withdrawBurst b s).pxm.memory = s.pxm.memory ∧
    (withdrawBurst b s).pxm.mask = s.pxm.mask ∧
    (withdrawBurst b s).pxm.burst = s.pxm.burst ∧
    (withdrawBurst b s).pxm.waiting = s.pxm.waiting ∧
    (withdrawBurst b s).pxm.tearLatch = s.pxm.tearLatch ∧
    (withdrawBurst b s).pxm.dataOut = s.pxm.dataOut ∧
    (withdrawBurst b s).pxm.resetAsserted = s.pxm.resetAsserted ∧
    (withdrawBurst b s).pxm.attention = s.pxm.attention := by
  simp [withdrawBurst]

/-- What `popRequest` leaves as it stands. -/
@[simp] theorem popRequest_keeps (s : State) :
    (popRequest s).trc = s.trc ∧
    (popRequest s).mkt = s.mkt ∧
    (popRequest s).rot = s.rot ∧
    (popRequest s).knt = s.knt ∧
    (popRequest s).ntp = s.ntp ∧
    (popRequest s).lnd = s.lnd ∧
    (popRequest s).skc = s.skc ∧
    (popRequest s).tka = s.tka ∧
    (popRequest s).jbc = s.jbc ∧
    (popRequest s).rnc = s.rnc ∧
    (popRequest s).rpw = s.rpw ∧
    (popRequest s).choices = s.choices ∧
    (popRequest s).pending = s.pending ∧
    (popRequest s).pxm.memory = s.pxm.memory ∧
    (popRequest s).pxm.mask = s.pxm.mask ∧
    (popRequest s).pxm.burst = s.pxm.burst ∧
    (popRequest s).pxm.waiting = s.pxm.waiting ∧
    (popRequest s).pxm.tearLatch = s.pxm.tearLatch ∧
    (popRequest s).pxm.dataOut = s.pxm.dataOut ∧
    (popRequest s).pxm.resetAsserted = s.pxm.resetAsserted ∧
    (popRequest s).pxm.attention = s.pxm.attention := by
  simp [popRequest]

/-- What `beginBurst` leaves as it stands. -/
@[simp] theorem beginBurst_keeps (b : BurstSource) (s : State) :
    (beginBurst b s).trc = s.trc ∧
    (beginBurst b s).mkt = s.mkt ∧
    (beginBurst b s).rot = s.rot ∧
    (beginBurst b s).knt = s.knt ∧
    (beginBurst b s).ntp = s.ntp ∧
    (beginBurst b s).lnd = s.lnd ∧
    (beginBurst b s).skc = s.skc ∧
    (beginBurst b s).tka = s.tka ∧
    (beginBurst b s).jbc = s.jbc ∧
    (beginBurst b s).rnc = s.rnc ∧
    (beginBurst b s).rpw = s.rpw ∧
    (beginBurst b s).choices = s.choices ∧
    (beginBurst b s).pending = s.pending ∧
    (beginBurst b s).pxm.memory = s.pxm.memory ∧
    (beginBurst b s).pxm.mask = s.pxm.mask ∧
    (beginBurst b s).pxm.waiting = s.pxm.waiting ∧
    (beginBurst b s).pxm.tearLatch = s.pxm.tearLatch ∧
    (beginBurst b s).pxm.dataOut = s.pxm.dataOut ∧
    (beginBurst b s).pxm.resetAsserted = s.pxm.resetAsserted ∧
    (beginBurst b s).pxm.attention = s.pxm.attention := by
  simp [beginBurst]

/-- What `askFor` leaves as it stands. -/
@[simp] theorem askFor_keeps (b : BurstSource) (n : Bool) (s : State) :
    (askFor b n s).trc = s.trc ∧
    (askFor b n s).mkt = s.mkt ∧
    (askFor b n s).rot = s.rot ∧
    (askFor b n s).knt = s.knt ∧
    (askFor b n s).ntp = s.ntp ∧
    (askFor b n s).lnd = s.lnd ∧
    (askFor b n s).skc = s.skc ∧
    (askFor b n s).tka = s.tka ∧
    (askFor b n s).jbc = s.jbc ∧
    (askFor b n s).rnc = s.rnc ∧
    (askFor b n s).rpw = s.rpw ∧
    (askFor b n s).choices = s.choices ∧
    (askFor b n s).pending = s.pending ∧
    (askFor b n s).pxm.memory = s.pxm.memory ∧
    (askFor b n s).pxm.mask = s.pxm.mask ∧
    (askFor b n s).pxm.burst = s.pxm.burst ∧
    (askFor b n s).pxm.waiting = s.pxm.waiting ∧
    (askFor b n s).pxm.tearLatch = s.pxm.tearLatch ∧
    (askFor b n s).pxm.dataOut = s.pxm.dataOut ∧
    (askFor b n s).pxm.resetAsserted = s.pxm.resetAsserted ∧
    (askFor b n s).pxm.attention = s.pxm.attention := by
  unfold askFor; split <;> simp

/-- What `updateNoteRequest` leaves as it stands. -/
@[simp] theorem updateNoteRequest_keeps (s : State) :
    (updateNoteRequest s).trc = s.trc ∧
    (updateNoteRequest s).mkt = s.mkt ∧
    (updateNoteRequest s).rot = s.rot ∧
    (updateNoteRequest s).knt = s.knt ∧
    (updateNoteRequest s).ntp = s.ntp ∧
    (updateNoteRequest s).lnd = s.lnd ∧
    (updateNoteRequest s).skc = s.skc ∧
    (updateNoteRequest s).tka = s.tka ∧
    (updateNoteRequest s).jbc = s.jbc ∧
    (updateNoteRequest s).rnc = s.rnc ∧
    (updateNoteRequest s).rpw = s.rpw ∧
    (updateNoteRequest s).choices = s.choices ∧
    (updateNoteRequest s).pending = s.pending ∧
    (updateNoteRequest s).pxm.memory = s.pxm.memory ∧
    (updateNoteRequest s).pxm.mask = s.pxm.mask ∧
    (updateNoteRequest s).pxm.burst = s.pxm.burst ∧
    (updateNoteRequest s).pxm.waiting = s.pxm.waiting ∧
    (updateNoteRequest s).pxm.tearLatch = s.pxm.tearLatch ∧
    (updateNoteRequest s).pxm.dataOut = s.pxm.dataOut ∧
    (updateNoteRequest s).pxm.resetAsserted = s.pxm.resetAsserted ∧
    (updateNoteRequest s).pxm.attention = s.pxm.attention := by
  simp [updateNoteRequest]

/-- What `setNoteWork` leaves as it stands. -/
@[simp] theorem setNoteWork_keeps (w : List NoteBurst) (s : State) :
    (setNoteWork w s).trc = s.trc ∧
    (setNoteWork w s).mkt = s.mkt ∧
    (setNoteWork w s).rot = s.rot ∧
    (setNoteWork w s).knt = s.knt ∧
    (setNoteWork w s).lnd = s.lnd ∧
    (setNoteWork w s).skc = s.skc ∧
    (setNoteWork w s).tka = s.tka ∧
    (setNoteWork w s).jbc = s.jbc ∧
    (setNoteWork w s).rnc = s.rnc ∧
    (setNoteWork w s).rpw = s.rpw ∧
    (setNoteWork w s).choices = s.choices ∧
    (setNoteWork w s).pending = s.pending ∧
    (setNoteWork w s).pxm.memory = s.pxm.memory ∧
    (setNoteWork w s).pxm.mask = s.pxm.mask ∧
    (setNoteWork w s).pxm.burst = s.pxm.burst ∧
    (setNoteWork w s).pxm.waiting = s.pxm.waiting ∧
    (setNoteWork w s).pxm.tearLatch = s.pxm.tearLatch ∧
    (setNoteWork w s).pxm.dataOut = s.pxm.dataOut ∧
    (setNoteWork w s).pxm.resetAsserted = s.pxm.resetAsserted ∧
    (setNoteWork w s).pxm.attention = s.pxm.attention ∧
    (setNoteWork w s).ntp.inWork = s.ntp.inWork ∧
    (setNoteWork w s).ntp.expectedPage = s.ntp.expectedPage ∧
    (setNoteWork w s).ntp.horizon = s.ntp.horizon ∧
    (setNoteWork w s).ntp.guardPoint = s.ntp.guardPoint ∧
    (setNoteWork w s).ntp.spans = s.ntp.spans := by
  simp [setNoteWork]

/-- What `updateReportRequest` leaves as it stands. -/
@[simp] theorem updateReportRequest_keeps (s : State) :
    (updateReportRequest s).trc = s.trc ∧
    (updateReportRequest s).mkt = s.mkt ∧
    (updateReportRequest s).rot = s.rot ∧
    (updateReportRequest s).knt = s.knt ∧
    (updateReportRequest s).ntp = s.ntp ∧
    (updateReportRequest s).lnd = s.lnd ∧
    (updateReportRequest s).skc = s.skc ∧
    (updateReportRequest s).tka = s.tka ∧
    (updateReportRequest s).jbc = s.jbc ∧
    (updateReportRequest s).rnc = s.rnc ∧
    (updateReportRequest s).rpw = s.rpw ∧
    (updateReportRequest s).choices = s.choices ∧
    (updateReportRequest s).pending = s.pending ∧
    (updateReportRequest s).pxm.memory = s.pxm.memory ∧
    (updateReportRequest s).pxm.mask = s.pxm.mask ∧
    (updateReportRequest s).pxm.burst = s.pxm.burst ∧
    (updateReportRequest s).pxm.waiting = s.pxm.waiting ∧
    (updateReportRequest s).pxm.tearLatch = s.pxm.tearLatch ∧
    (updateReportRequest s).pxm.dataOut = s.pxm.dataOut ∧
    (updateReportRequest s).pxm.resetAsserted = s.pxm.resetAsserted ∧
    (updateReportRequest s).pxm.attention = s.pxm.attention := by
  simp [updateReportRequest]

/-- What `queueRecord` leaves as it stands. -/
@[simp] theorem queueRecord_keeps (r : Record) (s : State) :
    (queueRecord r s).trc = s.trc ∧
    (queueRecord r s).mkt = s.mkt ∧
    (queueRecord r s).rot = s.rot ∧
    (queueRecord r s).knt = s.knt ∧
    (queueRecord r s).ntp = s.ntp ∧
    (queueRecord r s).lnd = s.lnd ∧
    (queueRecord r s).skc = s.skc ∧
    (queueRecord r s).tka = s.tka ∧
    (queueRecord r s).jbc = s.jbc ∧
    (queueRecord r s).rnc = s.rnc ∧
    (queueRecord r s).choices = s.choices ∧
    (queueRecord r s).pending = s.pending ∧
    (queueRecord r s).pxm.memory = s.pxm.memory ∧
    (queueRecord r s).pxm.mask = s.pxm.mask ∧
    (queueRecord r s).pxm.burst = s.pxm.burst ∧
    (queueRecord r s).pxm.waiting = s.pxm.waiting ∧
    (queueRecord r s).pxm.tearLatch = s.pxm.tearLatch ∧
    (queueRecord r s).pxm.dataOut = s.pxm.dataOut ∧
    (queueRecord r s).pxm.resetAsserted = s.pxm.resetAsserted ∧
    (queueRecord r s).pxm.attention = s.pxm.attention ∧
    (queueRecord r s).rpw.writer = s.rpw.writer ∧
    (queueRecord r s).rpw.fillIndex = s.rpw.fillIndex ∧
    (queueRecord r s).rpw.ageTimer = s.rpw.ageTimer ∧
    (queueRecord r s).rpw.halfWork = s.rpw.halfWork := by
  unfold queueRecord; (repeat' (first | split | dsimp only)) <;> simp

/-- What `setTrack` leaves as it stands. -/
@[simp] theorem setTrack_keeps (t : List Row) (s : State) :
    (setTrack t s).trc = s.trc ∧
    (setTrack t s).mkt = s.mkt ∧
    (setTrack t s).knt = s.knt ∧
    (setTrack t s).ntp = s.ntp ∧
    (setTrack t s).lnd = s.lnd ∧
    (setTrack t s).skc = s.skc ∧
    (setTrack t s).tka = s.tka ∧
    (setTrack t s).jbc = s.jbc ∧
    (setTrack t s).rnc = s.rnc ∧
    (setTrack t s).pxm = s.pxm ∧
    (setTrack t s).rpw = s.rpw ∧
    (setTrack t s).choices = s.choices ∧
    (setTrack t s).pending = s.pending ∧
    (setTrack t s).rot.lastNumber = s.rot.lastNumber ∧
    (setTrack t s).rot.overflowDetector = s.rot.overflowDetector := by
  simp [setTrack]

/-- What `tallyReject` leaves as it stands. -/
@[simp] theorem tallyReject_keeps (t : JobTag) (r : Reason) (s : State) :
    (tallyReject t r s).trc = s.trc ∧
    (tallyReject t r s).mkt = s.mkt ∧
    (tallyReject t r s).rot = s.rot ∧
    (tallyReject t r s).knt = s.knt ∧
    (tallyReject t r s).ntp = s.ntp ∧
    (tallyReject t r s).lnd = s.lnd ∧
    (tallyReject t r s).skc = s.skc ∧
    (tallyReject t r s).tka = s.tka ∧
    (tallyReject t r s).rnc = s.rnc ∧
    (tallyReject t r s).pxm = s.pxm ∧
    (tallyReject t r s).rpw = s.rpw ∧
    (tallyReject t r s).choices = s.choices ∧
    (tallyReject t r s).pending = s.pending ∧
    (tallyReject t r s).jbc.closePending = s.jbc.closePending := by
  unfold tallyReject; (repeat' (first | split | dsimp only)) <;> simp

/-- What `flapsToReject` leaves as it stands. -/
@[simp] theorem flapsToReject_keeps (s : State) :
    (flapsToReject s).trc = s.trc ∧
    (flapsToReject s).mkt = s.mkt ∧
    (flapsToReject s).rot = s.rot ∧
    (flapsToReject s).knt = s.knt ∧
    (flapsToReject s).ntp = s.ntp ∧
    (flapsToReject s).skc = s.skc ∧
    (flapsToReject s).tka = s.tka ∧
    (flapsToReject s).jbc = s.jbc ∧
    (flapsToReject s).rnc = s.rnc ∧
    (flapsToReject s).pxm = s.pxm ∧
    (flapsToReject s).rpw = s.rpw ∧
    (flapsToReject s).choices = s.choices ∧
    (flapsToReject s).pending = s.pending := by
  simp [flapsToReject]

/-- What `setRunState` leaves as it stands. -/
@[simp] theorem setRunState_keeps (r : RunState) (s : State) :
    (setRunState r s).trc = s.trc ∧
    (setRunState r s).mkt = s.mkt ∧
    (setRunState r s).rot = s.rot ∧
    (setRunState r s).knt = s.knt ∧
    (setRunState r s).ntp = s.ntp ∧
    (setRunState r s).skc = s.skc ∧
    (setRunState r s).tka = s.tka ∧
    (setRunState r s).jbc = s.jbc ∧
    (setRunState r s).rpw = s.rpw ∧
    (setRunState r s).choices = s.choices ∧
    (setRunState r s).pending = s.pending ∧
    (setRunState r s).pxm.memory = s.pxm.memory ∧
    (setRunState r s).pxm.mask = s.pxm.mask ∧
    (setRunState r s).pxm.burst = s.pxm.burst ∧
    (setRunState r s).pxm.waiting = s.pxm.waiting ∧
    (setRunState r s).pxm.tearLatch = s.pxm.tearLatch ∧
    (setRunState r s).pxm.dataOut = s.pxm.dataOut ∧
    (setRunState r s).pxm.resetAsserted = s.pxm.resetAsserted ∧
    (setRunState r s).pxm.requests = s.pxm.requests ∧
    (setRunState r s).rnc.faultCode = s.rnc.faultCode ∧
    (setRunState r s).rnc.lastCommand = s.rnc.lastCommand ∧
    (setRunState r s).rnc.result = s.rnc.result ∧
    (setRunState r s).rnc.configIndex = s.rnc.configIndex ∧
    (setRunState r s).rnc.stopRows = s.rnc.stopRows ∧
    (setRunState r s).rnc.stopPending = s.rnc.stopPending ∧
    (setRunState r s).rnc.record = s.rnc.record := by
  unfold setRunState; (repeat' (first | split | dsimp only)) <;> simp

/-- The run state is the one set (R155). -/
@[simp] theorem setRunState_runState (r : RunState) (s : State) :
    (setRunState r s).rnc.runState = r := by
  unfold setRunState; (repeat' split) <;> simp

/-- The flaps stay as they are on the way to RUN, DRAIN and HALTED, and rest at REJECT in OFF and READY
(R111). -/
@[simp] theorem setRunState_lnd (s : State) :
    (setRunState .run s).lnd = s.lnd ∧ (setRunState .drain s).lnd = s.lnd ∧
    (setRunState .halted s).lnd = s.lnd ∧
    (setRunState .off s).lnd = s.lnd.map Lnd.rejectFlap ∧
    (setRunState .ready s).lnd = s.lnd.map Lnd.rejectFlap := by
  refine ⟨?_, ?_, ?_, ?_, ?_⟩ <;> (simp only [setRunState]; split <;> simp [flapsToReject])

/-- A flap at REJECT keeps the rest of its decider. -/
@[simp] theorem Lnd.rejectFlap_keeps (x : Lnd) :
    x.rejectFlap.flap = .reject ∧ x.rejectFlap.flapLead = x.flapLead ∧
    x.rejectFlap.arrivals = x.arrivals := ⟨rfl, rfl, rfl⟩

/-- Dropping the stop rows keeps the rest of the Run Controller. -/
@[simp] theorem Rnc.noStops_keeps (r : Rnc) :
    r.noStops.runState = r.runState ∧ r.noStops.faultCode = r.faultCode ∧
    r.noStops.lastCommand = r.lastCommand ∧ r.noStops.result = r.result ∧
    r.noStops.configIndex = r.configIndex ∧ r.noStops.record = r.record ∧
    r.noStops.stopRows = Lanes.fill none ∧ r.noStops.stopPending = Lanes.fill false :=
  ⟨rfl, rfl, rfl, rfl, rfl, rfl, rfl, rfl⟩

/-- What `raiseHalting` leaves as it stands. -/
@[simp] theorem raiseHalting_keeps (h : HaltingFault) (f : Count) (s : State) :
    (raiseHalting h f s).trc = s.trc ∧
    (raiseHalting h f s).mkt = s.mkt ∧
    (raiseHalting h f s).rot = s.rot ∧
    (raiseHalting h f s).knt = s.knt ∧
    (raiseHalting h f s).ntp = s.ntp ∧
    (raiseHalting h f s).lnd = s.lnd ∧
    (raiseHalting h f s).skc = s.skc ∧
    (raiseHalting h f s).tka = s.tka ∧
    (raiseHalting h f s).jbc = s.jbc ∧
    (raiseHalting h f s).choices = s.choices ∧
    (raiseHalting h f s).pending = s.pending ∧
    (raiseHalting h f s).pxm.memory = s.pxm.memory ∧
    (raiseHalting h f s).pxm.mask = s.pxm.mask ∧
    (raiseHalting h f s).pxm.burst = s.pxm.burst ∧
    (raiseHalting h f s).pxm.waiting = s.pxm.waiting ∧
    (raiseHalting h f s).pxm.tearLatch = s.pxm.tearLatch ∧
    (raiseHalting h f s).pxm.dataOut = s.pxm.dataOut ∧
    (raiseHalting h f s).pxm.resetAsserted = s.pxm.resetAsserted ∧
    (raiseHalting h f s).rnc.lastCommand = s.rnc.lastCommand ∧
    (raiseHalting h f s).rnc.result = s.rnc.result ∧
    (raiseHalting h f s).rnc.configIndex = s.rnc.configIndex ∧
    (raiseHalting h f s).rnc.record = s.rnc.record ∧
    (raiseHalting h f s).rpw.writer = s.rpw.writer ∧
    (raiseHalting h f s).rpw.fillIndex = s.rpw.fillIndex ∧
    (raiseHalting h f s).rpw.ageTimer = s.rpw.ageTimer ∧
    (raiseHalting h f s).rpw.halfWork = s.rpw.halfWork := by
  unfold raiseHalting; (repeat' (first | split | dsimp only)) <;> simp

/-- What `raiseTimeout` leaves as it stands. -/
@[simp] theorem raiseTimeout_keeps (c : Conveyor) (f : Count) (s : State) :
    (raiseTimeout c f s).trc = s.trc ∧
    (raiseTimeout c f s).mkt = s.mkt ∧
    (raiseTimeout c f s).rot = s.rot ∧
    (raiseTimeout c f s).knt = s.knt ∧
    (raiseTimeout c f s).ntp = s.ntp ∧
    (raiseTimeout c f s).lnd = s.lnd ∧
    (raiseTimeout c f s).skc = s.skc ∧
    (raiseTimeout c f s).tka = s.tka ∧
    (raiseTimeout c f s).jbc = s.jbc ∧
    (raiseTimeout c f s).rnc = s.rnc ∧
    (raiseTimeout c f s).choices = s.choices ∧
    (raiseTimeout c f s).pending = s.pending ∧
    (raiseTimeout c f s).pxm.memory = s.pxm.memory ∧
    (raiseTimeout c f s).pxm.mask = s.pxm.mask ∧
    (raiseTimeout c f s).pxm.burst = s.pxm.burst ∧
    (raiseTimeout c f s).pxm.waiting = s.pxm.waiting ∧
    (raiseTimeout c f s).pxm.tearLatch = s.pxm.tearLatch ∧
    (raiseTimeout c f s).pxm.dataOut = s.pxm.dataOut ∧
    (raiseTimeout c f s).pxm.resetAsserted = s.pxm.resetAsserted ∧
    (raiseTimeout c f s).rpw.writer = s.rpw.writer ∧
    (raiseTimeout c f s).rpw.fillIndex = s.rpw.fillIndex ∧
    (raiseTimeout c f s).rpw.ageTimer = s.rpw.ageTimer ∧
    (raiseTimeout c f s).rpw.halfWork = s.rpw.halfWork := by
  simp [raiseTimeout]

/-- What `recordCommand` leaves as it stands. -/
@[simp] theorem recordCommand_keeps (b : Byte) (r : CommandResult) (s : State) :
    (recordCommand b r s).trc = s.trc ∧
    (recordCommand b r s).mkt = s.mkt ∧
    (recordCommand b r s).rot = s.rot ∧
    (recordCommand b r s).knt = s.knt ∧
    (recordCommand b r s).ntp = s.ntp ∧
    (recordCommand b r s).lnd = s.lnd ∧
    (recordCommand b r s).skc = s.skc ∧
    (recordCommand b r s).tka = s.tka ∧
    (recordCommand b r s).jbc = s.jbc ∧
    (recordCommand b r s).rpw = s.rpw ∧
    (recordCommand b r s).choices = s.choices ∧
    (recordCommand b r s).pending = s.pending ∧
    (recordCommand b r s).pxm.memory = s.pxm.memory ∧
    (recordCommand b r s).pxm.mask = s.pxm.mask ∧
    (recordCommand b r s).pxm.burst = s.pxm.burst ∧
    (recordCommand b r s).pxm.waiting = s.pxm.waiting ∧
    (recordCommand b r s).pxm.tearLatch = s.pxm.tearLatch ∧
    (recordCommand b r s).pxm.dataOut = s.pxm.dataOut ∧
    (recordCommand b r s).pxm.resetAsserted = s.pxm.resetAsserted ∧
    (recordCommand b r s).pxm.requests = s.pxm.requests ∧
    (recordCommand b r s).rnc.runState = s.rnc.runState ∧
    (recordCommand b r s).rnc.faultCode = s.rnc.faultCode ∧
    (recordCommand b r s).rnc.configIndex = s.rnc.configIndex ∧
    (recordCommand b r s).rnc.stopRows = s.rnc.stopRows ∧
    (recordCommand b r s).rnc.stopPending = s.rnc.stopPending ∧
    (recordCommand b r s).rnc.record = s.rnc.record := by
  simp [recordCommand]

end Sys2Proof.Machine
end

