-- ==== Sys2Proof/Laws/Access.lean ====
section
/-! SUPPORT. What the memory's bursts and the press controller's accesses do to one another: when an access
is served and when it waits, and what the end of a burst leaves. -/

namespace Sys2Proof.Machine

/-- With no half state access due, nothing begins by itself. -/
@[simp] theorem beginNext_none (s : State) (h : s.rpw.halfWork = []) : beginNext s = s := by
  simp [beginNext, h]

/-- A half state access that has no turn, or meets a burst, does not begin. -/
theorem beginNext_noTurn (s : State) (h : (s.pxm.burst.isNone && hasTurn .reports s) = false) :
    beginNext s = s := by
  unfold beginNext; split
  · rfl
  · simp [h]

/-- With no access waiting there is none to serve. -/
@[simp] theorem serveWaiting_none (s : State) (h : s.pxm.waiting = []) : serveWaiting s = s := by
  cases s; rename_i x _ _ _
  cases x; simp_all [serveWaiting, State.setPxm]

/-- With nothing waiting, the end of a burst leaves the memory as it stands. -/
theorem afterBurst_idle (s : State) (hw : s.pxm.waiting = []) (hh : s.rpw.halfWork = []) :
    afterBurst s = s := by simp [afterBurst, hw, hh]

/-- With no burst that has the memory, there is none to end. -/
@[simp] theorem endBurst_none (s : State) (h : s.pxm.burst = none) : endBurst s = s := by
  simp [endBurst, h]

/-- A burst that only reads goes on until the command that ends it. -/
theorem settleMemory_read (s : State) (h : readBurst s = true) : settleMemory s = s := by
  simp [settleMemory, h]

/-- A free memory with nothing waiting is settled already. -/
theorem settleMemory_self (s : State) (hb : s.pxm.burst = none) (hw : s.pxm.waiting = [])
    (hn : beginNext s = s) : settleMemory s = s := by
  unfold settleMemory; split
  · rfl
  · simp [afterBurst, hb, hw, hn]

/-- A memory that no burst has is free, once it is settled. -/
theorem freeMemory_of_settled (s : State) (hb : (settleMemory s).pxm.burst = none) :
    freeMemory s = settleMemory s := by simp [freeMemory, settleBursts, hb]

/-- A free memory with nothing waiting stays as it is. -/
theorem freeMemory_self (s : State) (hb : s.pxm.burst = none) (hw : s.pxm.waiting = [])
    (hn : beginNext s = s) : freeMemory s = s := by
  have h := settleMemory_self s hb hw hn
  rw [freeMemory_of_settled s (by rw [h]; exact hb), h]

/-- A burst that only reads is waited for: the memory is as free as it gets. -/
theorem freeMemory_read (s : State) (h : readBurst s = true) : freeMemory s = s := by
  have hb : s.pxm.burst = none := by
    simp only [readBurst, Bool.and_eq_true, Option.isNone_iff_eq_none] at h; exact h.1
  have hs := settleMemory_read s h
  rw [freeMemory_of_settled s (by rw [hs]; exact hb), hs]

/-- An access is served at once when no burst is in progress and none waits. -/
theorem pressAccess_served (x : PressAccess) (s : State) (hw : s.pxm.waiting = [])
    (hm : memoryHeld s = false) : pressAccess x s = beginNext (serveAccess x s) := by
  simp [pressAccess, hw, hm]

/-- An access that finds a burst in progress waits for its end, and does nothing else. -/
theorem pressAccess_held (x : PressAccess) (s : State) (hw : s.pxm.waiting = [])
    (hm : memoryHeld s = true) :
    pressAccess x s = s.setPxm { s.pxm with waiting := [x] } := by
  simp [pressAccess, hw, hm]

/-! ### What an access and the end of a burst leave alone -/

/-- What the memory's own events leave alone: every block but the port, the page work, and the Report
Writer's writer and half state accesses. -/
structure MemoryFrame (s t : State) : Prop where
  trc : t.trc = s.trc
  mkt : t.mkt = s.mkt
  rot : t.rot = s.rot
  knt : t.knt = s.knt
  lnd : t.lnd = s.lnd
  skc : t.skc = s.skc
  tka : t.tka = s.tka
  jbc : t.jbc = s.jbc
  rnc : t.rnc = s.rnc
  choices : t.choices = s.choices
  pending : t.pending = s.pending
  ntp : ∃ w, t.ntp = { s.ntp with work := w }
  queue : t.rpw.queue = s.rpw.queue
  dropped : t.rpw.droppedCount = s.rpw.droppedCount ∧ t.rpw.dropPending = s.rpw.dropPending
  attention : t.pxm.attention = s.pxm.attention
  mask : t.pxm.mask = s.pxm.mask
  resetAsserted : t.pxm.resetAsserted = s.pxm.resetAsserted

theorem MemoryFrame.refl (s : State) : MemoryFrame s s := by
  constructor <;> first | rfl | exact ⟨_, rfl⟩ | exact ⟨rfl, rfl⟩

theorem MemoryFrame.trans {s t u : State} (h1 : MemoryFrame s t) (h2 : MemoryFrame t u) :
    MemoryFrame s u := by
  obtain ⟨w1, e1⟩ := h1.ntp
  obtain ⟨w2, e2⟩ := h2.ntp
  exact ⟨h2.1.trans h1.1, h2.2.trans h1.2, h2.3.trans h1.3, h2.4.trans h1.4, h2.5.trans h1.5,
    h2.6.trans h1.6, h2.7.trans h1.7, h2.8.trans h1.8, h2.9.trans h1.9, h2.10.trans h1.10,
    h2.11.trans h1.11, ⟨w2, by rw [e2, e1]⟩, h2.13.trans h1.13,
    ⟨h2.14.1.trans h1.14.1, h2.14.2.trans h1.14.2⟩, h2.15.trans h1.15, h2.16.trans h1.16,
    h2.17.trans h1.17⟩

/-- An update of the port's memory side alone keeps the frame. -/
theorem setPxm_memoryFrame (s : State) (x : Pxm) (ha : x.attention = s.pxm.attention)
    (hm : x.mask = s.pxm.mask) (hr : x.resetAsserted = s.pxm.resetAsserted) :
    MemoryFrame s (s.setPxm x) := by
  constructor <;> first | rfl | assumption | exact ⟨_, rfl⟩ | exact ⟨rfl, rfl⟩

/-- An update of the Report Writer's own state keeps the frame. -/
theorem setRpw_memoryFrame (s : State) (x : Rpw) (hq : x.queue = s.rpw.queue)
    (hd : x.droppedCount = s.rpw.droppedCount) (hp : x.dropPending = s.rpw.dropPending) :
    MemoryFrame s (s.setRpw x) := by
  constructor <;> first | rfl | assumption | exact ⟨_, rfl⟩ | exact ⟨hd, hp⟩

theorem askFor_memoryFrame (b : BurstSource) (n : Bool) (s : State) :
    MemoryFrame s (askFor b n s) := by
  constructor <;> first | (simp; done) | exact ⟨s.ntp.work, by simp⟩

theorem setNoteWork_memoryFrame (w : List NoteBurst) (s : State) :
    MemoryFrame s (setNoteWork w s) := by
  constructor <;> first
    | (simp; done)
    | exact ⟨w, by simp [setNoteWork]⟩

theorem takeHalf_memoryFrame (h : Half) (s : State) : MemoryFrame s (takeHalf h s) :=
  (setRpw_memoryFrame s { s.rpw with
    writer := .filling h, fillIndex := 0, ageTimer := none, halfWork := [.writeFilling h] }
    rfl rfl rfl).trans (askFor_memoryFrame _ _ _)

theorem storeWord_memoryFrame (a : Nat) (w : Word) (s : State) :
    MemoryFrame s (storeWord a w s) := setPxm_memoryFrame s _ rfl rfl rfl

theorem burstWrite_memoryFrame (a : Nat) (ws : List Word) (s : State) :
    MemoryFrame s (burstWrite a ws s) := setPxm_memoryFrame s _ rfl rfl rfl

theorem serveAccess_memoryFrame (x : PressAccess) (s : State) :
    MemoryFrame s (serveAccess x s) := by
  cases x with
  | read a => exact setPxm_memoryFrame s _ rfl rfl rfl
  | write a w =>
    have h := storeWord_memoryFrame (byteAddress a) w s
    simp only [serveAccess, pressWrite]
    split
    · refine h.trans ?_
      unfold pagePostedAct takePage; repeat' split
      all_goals first | exact .refl _ | exact setNoteWork_memoryFrame _ _
    · refine h.trans ?_
      unfold halfFreedAct; split
      · exact takeHalf_memoryFrame _ _
      · exact .refl _
    · exact h

theorem serveWaiting_memoryFrame (s : State) : MemoryFrame s (serveWaiting s) := by
  unfold serveWaiting
  have h := setPxm_memoryFrame s { s.pxm with waiting := [] } rfl rfl rfl
  refine h.trans ?_
  clear h
  generalize s.setPxm { s.pxm with waiting := [] } = u
  generalize s.pxm.waiting = q
  induction q generalizing u with
  | nil => exact .refl u
  | cons x q ih => exact (serveAccess_memoryFrame x u).trans (ih _)

theorem halfAccess_memoryFrame (x : HalfAccess) (rest : List HalfAccess) (s : State) :
    MemoryFrame s (halfAccess x rest s) := by
  have h : MemoryFrame s ((beginBurst .reports s).setRpw
      { (beginBurst .reports s).rpw with halfWork := rest }) :=
    (setPxm_memoryFrame s { s.pxm with
      requests := s.pxm.requests.tail, burst := some ⟨.reports, []⟩ } rfl rfl rfl).trans
      (setRpw_memoryFrame _ { (beginBurst .reports s).rpw with halfWork := rest } rfl rfl rfl)
  refine h.trans ?_
  cases x with
  | writeClosed h => exact burstWrite_memoryFrame _ _ _
  | writeFilling h => exact burstWrite_memoryFrame _ _ _
  | look h =>
    simp only [halfAccess]
    split
    · exact takeHalf_memoryFrame _ _
    · exact setRpw_memoryFrame _ _ rfl rfl rfl

theorem beginNext_memoryFrame (s : State) : MemoryFrame s (beginNext s) := by
  unfold beginNext; repeat' split
  all_goals first | exact .refl s | exact halfAccess_memoryFrame _ _ s

theorem afterBurst_memoryFrame (s : State) : MemoryFrame s (afterBurst s) :=
  (serveWaiting_memoryFrame s).trans (beginNext_memoryFrame _)

theorem endBurst_memoryFrame (s : State) : MemoryFrame s (endBurst s) := by
  unfold endBurst; split
  · exact .refl s
  · have h := setPxm_memoryFrame s { s.pxm with burst := none } rfl rfl rfl
    refine h.trans ?_
    split
    · exact askFor_memoryFrame _ _ _
    · exact askFor_memoryFrame _ _ _
    · exact .refl _
    · exact .refl _

/-- The end of a burst, with all it brings about at the memory, leaves what `MemoryFrame` names. -/
theorem settleMemory_memoryFrame (s : State) : MemoryFrame s (settleMemory s) := by
  unfold settleMemory; split
  · exact .refl s
  · exact (endBurst_memoryFrame s).trans (afterBurst_memoryFrame _)

/-- So does the freeing of the memory. -/
theorem freeMemory_memoryFrame (s : State) : MemoryFrame s (freeMemory s) := by
  have h : ∀ n u, MemoryFrame u (settleBursts n u) := by
    intro n
    induction n with
    | zero => exact fun u => .refl u
    | succ n ih =>
      intro u; unfold settleBursts; split
      · exact (settleMemory_memoryFrame u).trans (ih _)
      · exact .refl u
  exact (settleMemory_memoryFrame s).trans (h _ _)

/-- A press-controller access leaves what `MemoryFrame` names. -/
theorem pressAccess_memoryFrame (x : PressAccess) (s : State) :
    MemoryFrame s (pressAccess x s) := by
  unfold pressAccess
  dsimp only
  generalize hu : (if s.pxm.waiting.isEmpty = true then s else settleMemory s) = u
  have h : MemoryFrame s u := by
    rw [← hu]; split
    · exact .refl s
    · exact settleMemory_memoryFrame s
  split
  · exact h.trans (setPxm_memoryFrame u { u.pxm with waiting := u.pxm.waiting ++ [x] } rfl rfl rfl)
  · exact (h.trans (serveAccess_memoryFrame x u)).trans (beginNext_memoryFrame _)

end Sys2Proof.Machine
end

