-- ==== Sys2Proof/Laws/Due.lean ====
section
/-! SUPPORT. Acts that one event makes due together: `permute` takes each of them once, and what every act
keeps, the taking of all of them keeps, whatever the order. -/

namespace Sys2Proof.Machine

/-- A permuted list is a permutation of the list: each act is taken once. -/
theorem permute_perm {α : Type} (n code : Nat) (l : List α) (h : l.length ≤ n) :
    (permute code n l).Perm l := by
  induction n generalizing code l with
  | zero => exact List.Perm.refl _
  | succ n ih =>
    cases l with
    | nil => exact List.Perm.refl _
    | cons x xs =>
      have hlt : code % (xs.length + 1) < (x :: xs).length := Nat.mod_lt _ (Nat.succ_pos _)
      simp only [permute]
      rw [List.getD_eq_getElem _ _ hlt]
      refine (List.Perm.cons _ (ih _ _ ?_)).trans (List.getElem_cons_eraseIdx_perm hlt)
      rw [List.length_eraseIdx_of_lt hlt]
      simp only [List.length_cons] at h ⊢
      omega

/-- A relation that every act keeps is kept by acts taken one after another. -/
theorem takeAll_rel {α : Type} {R : State → State → Prop} (refl : ∀ s, R s s)
    (trans : ∀ {s t u}, R s t → R t u → R s u) {act : α → State → State}
    (hact : ∀ t s, R s (act t s)) (ts : List α) (s : State) : R s (takeAll act ts s) := by
  induction ts generalizing s with
  | nil => exact refl s
  | cons t ts ih => exact trans (hact t s) (ih _)

/-- A relation that every act keeps, and that does not look at the count of free choices, is kept by the
taking of the due acts, whatever their order. -/
theorem takeDue_rel {α : Type} {R : State → State → Prop} (refl : ∀ s, R s s)
    (trans : ∀ {s t u}, R s t → R t u → R s u) (choice : ∀ s n, R s (s.setChoices n))
    {due : α → State → Bool} {act : α → State → State} (hact : ∀ t s, R s (act t s)) (ts : List α)
    (s : State) : R s (takeDue due act ts s) := by
  unfold takeDue
  split
  · exact refl s
  · exact hact _ s
  · exact trans (choice s _) (takeAll_rel refl trans hact _ _)

/-- A value that every act leaves, and that is not the count of free choices, is left by the taking of the
due acts. -/
theorem takeDue_keeps {α β : Type} {g : State → β} (choice : ∀ s n, g (s.setChoices n) = g s)
    {due : α → State → Bool} {act : α → State → State} (hact : ∀ t s, g (act t s) = g s)
    (ts : List α) (s : State) : g (takeDue due act ts s) = g s :=
  takeDue_rel (R := fun s t => g t = g s) (fun _ => rfl) (fun h1 h2 => h2.trans h1) choice hact ts s

/-- A property that every act keeps is kept by the taking of the due acts. -/
theorem takeDue_inv {α : Type} {P : State → Prop} (choice : ∀ s n, P s → P (s.setChoices n))
    {due : α → State → Bool} {act : α → State → State} (hact : ∀ t s, P s → P (act t s))
    (ts : List α) {s : State} (h : P s) : P (takeDue due act ts s) :=
  takeDue_rel (R := fun s t => P s → P t) (fun _ h => h) (fun h1 h2 h => h2 (h1 h))
    (fun s n h => choice s n h) hact ts s h

/-- With no act due nothing is done. -/
theorem takeDue_none {α : Type} {due : α → State → Bool} {act : α → State → State} {ts : List α}
    {s : State} (h : ∀ t ∈ ts, due t s = false) : takeDue due act ts s = s := by
  unfold takeDue
  have : ts.filter (fun t => due t s) = [] := by
    rw [List.filter_eq_nil_iff]
    intro t ht
    simp [h t ht]
  rw [this]

/-- A relation that every step of a fold keeps is kept by the fold. -/
theorem foldl_rel {α : Type} {R : State → State → Prop} (refl : ∀ s, R s s)
    (trans : ∀ {s t u}, R s t → R t u → R s u) {f : State → α → State} (h : ∀ s x, R s (f s x))
    (l : List α) (s : State) : R s (l.foldl f s) := by
  induction l generalizing s with
  | nil => exact refl s
  | cons x xs ih => exact trans (h s x) (ih _)

/-- A property that every step of a fold keeps is kept by the fold. -/
theorem foldl_inv {α : Type} {P : State → Prop} {f : State → α → State}
    (h : ∀ s x, P s → P (f s x)) (l : List α) {s : State} (hs : P s) : P (l.foldl f s) :=
  foldl_rel (R := fun s t => P s → P t) (fun _ h => h) (fun h1 h2 h => h2 (h1 h)) h l s hs

end Sys2Proof.Machine
end

