-- ==== Sys2Proof/Laws/Stacks.lean ====
section
/-! SUPPORT. Stack lines and the Takeaway Arbiter: for each operation, what it leaves as it stands. -/

namespace Sys2Proof.Machine

/-- What `setLane` leaves as it stands. -/
@[simp] theorem setLane_keeps (l : Lane) (x : SkcLane) (s : State) :
    (setLane l x s).trc = s.trc ∧
    (setLane l x s).mkt = s.mkt ∧
    (setLane l x s).rot = s.rot ∧
    (setLane l x s).knt = s.knt ∧
    (setLane l x s).ntp = s.ntp ∧
    (setLane l x s).lnd = s.lnd ∧
    (setLane l x s).tka = s.tka ∧
    (setLane l x s).jbc = s.jbc ∧
    (setLane l x s).rnc = s.rnc ∧
    (setLane l x s).pxm = s.pxm ∧
    (setLane l x s).rpw = s.rpw ∧
    (setLane l x s).choices = s.choices ∧
    (setLane l x s).pending = s.pending := by
  simp [setLane]

/-- A lane's record is the one set, and the other lanes' are as before. -/
theorem setLane_get (l k : Lane) (x : SkcLane) (s : State) :
    (setLane l x s).skc.get k = if k = l then x else s.skc.get k := by
  simp [setLane, Lanes.get_set]

/-- What `setLine` leaves as it stands. -/
@[simp] theorem setLine_keeps (l : Lane) (q : List Stack) (s : State) :
    (setLine l q s).trc = s.trc ∧
    (setLine l q s).mkt = s.mkt ∧
    (setLine l q s).rot = s.rot ∧
    (setLine l q s).knt = s.knt ∧
    (setLine l q s).ntp = s.ntp ∧
    (setLine l q s).lnd = s.lnd ∧
    (setLine l q s).tka = s.tka ∧
    (setLine l q s).jbc = s.jbc ∧
    (setLine l q s).rnc = s.rnc ∧
    (setLine l q s).pxm = s.pxm ∧
    (setLine l q s).rpw = s.rpw ∧
    (setLine l q s).choices = s.choices ∧
    (setLine l q s).pending = s.pending := by
  simp [setLine]

/-- A lane's line is the one set, and the other lanes' lines are as before. -/
theorem setLine_line (l k : Lane) (q : List Stack) (s : State) :
    ((setLine l q s).skc.get k).line = if k = l then q else (s.skc.get k).line := by
  simp only [setLine, setLane_get]; split <;> simp_all

/-- A line set leaves everything else of every lane. -/
@[simp] theorem setLine_lane (l k : Lane) (q : List Stack) (s : State) :
    ((setLine l q s).skc.get k).hold = (s.skc.get k).hold ∧
    ((setLine l q s).skc.get k).nextId = (s.skc.get k).nextId ∧
    ((setLine l q s).skc.get k).targetCurrent = (s.skc.get k).targetCurrent ∧
    ((setLine l q s).skc.get k).targetPrevious = (s.skc.get k).targetPrevious ∧
    ((setLine l q s).skc.get k).shelfLimit = (s.skc.get k).shelfLimit := by
  simp only [setLine, setLane_get]; split <;> simp_all

/-- What `setDecider` leaves as it stands. -/
@[simp] theorem setDecider_keeps (l : Lane) (x : Lnd) (s : State) :
    (setDecider l x s).trc = s.trc ∧
    (setDecider l x s).mkt = s.mkt ∧
    (setDecider l x s).rot = s.rot ∧
    (setDecider l x s).knt = s.knt ∧
    (setDecider l x s).ntp = s.ntp ∧
    (setDecider l x s).skc = s.skc ∧
    (setDecider l x s).tka = s.tka ∧
    (setDecider l x s).jbc = s.jbc ∧
    (setDecider l x s).rnc = s.rnc ∧
    (setDecider l x s).pxm = s.pxm ∧
    (setDecider l x s).rpw = s.rpw ∧
    (setDecider l x s).choices = s.choices ∧
    (setDecider l x s).pending = s.pending := by
  simp [setDecider]

/-- A lane's decider is the one set, and the others are as before. -/
theorem setDecider_get (l k : Lane) (x : Lnd) (s : State) :
    (setDecider l x s).lnd.get k = if k = l then x else s.lnd.get k := by
  simp [setDecider, Lanes.get_set]

/-- What `setArrivals` leaves as it stands. -/
@[simp] theorem setArrivals_keeps (l : Lane) (q : List Arrival) (s : State) :
    (setArrivals l q s).trc = s.trc ∧
    (setArrivals l q s).mkt = s.mkt ∧
    (setArrivals l q s).rot = s.rot ∧
    (setArrivals l q s).knt = s.knt ∧
    (setArrivals l q s).ntp = s.ntp ∧
    (setArrivals l q s).skc = s.skc ∧
    (setArrivals l q s).tka = s.tka ∧
    (setArrivals l q s).jbc = s.jbc ∧
    (setArrivals l q s).rnc = s.rnc ∧
    (setArrivals l q s).pxm = s.pxm ∧
    (setArrivals l q s).rpw = s.rpw ∧
    (setArrivals l q s).choices = s.choices ∧
    (setArrivals l q s).pending = s.pending := by
  simp [setArrivals]

/-- A lane's arrival list is the one set, and the other lanes' are as before. -/
theorem setArrivals_arrivals (l k : Lane) (q : List Arrival) (s : State) :
    ((setArrivals l q s).lnd.get k).arrivals = if k = l then q else (s.lnd.get k).arrivals := by
  simp only [setArrivals, setDecider_get]; split <;> simp_all

/-- An arrival list set leaves the flap and the flap lead of every lane. -/
@[simp] theorem setArrivals_lane (l k : Lane) (q : List Arrival) (s : State) :
    ((setArrivals l q s).lnd.get k).flap = (s.lnd.get k).flap ∧
    ((setArrivals l q s).lnd.get k).flapLead = (s.lnd.get k).flapLead := by
  simp only [setArrivals, setDecider_get]; split <;> simp_all

/-- What `setWaiting` leaves as it stands. -/
@[simp] theorem setWaiting_keeps (c : Conveyor) (w : Lanes (Option Nat)) (s : State) :
    (setWaiting c w s).trc = s.trc ∧
    (setWaiting c w s).mkt = s.mkt ∧
    (setWaiting c w s).rot = s.rot ∧
    (setWaiting c w s).knt = s.knt ∧
    (setWaiting c w s).ntp = s.ntp ∧
    (setWaiting c w s).lnd = s.lnd ∧
    (setWaiting c w s).skc = s.skc ∧
    (setWaiting c w s).jbc = s.jbc ∧
    (setWaiting c w s).rnc = s.rnc ∧
    (setWaiting c w s).pxm = s.pxm ∧
    (setWaiting c w s).rpw = s.rpw ∧
    (setWaiting c w s).choices = s.choices ∧
    (setWaiting c w s).pending = s.pending ∧
    (setWaiting c w s).tka.conveyors = s.tka.conveyors ∧
    (setWaiting c w s).tka.reservations = s.tka.reservations := by
  simp [setWaiting]

/-- What `setConveyor` leaves as it stands. -/
@[simp] theorem setConveyor_keeps (c : Conveyor) (x : ConveyorState) (s : State) :
    (setConveyor c x s).trc = s.trc ∧
    (setConveyor c x s).mkt = s.mkt ∧
    (setConveyor c x s).rot = s.rot ∧
    (setConveyor c x s).knt = s.knt ∧
    (setConveyor c x s).ntp = s.ntp ∧
    (setConveyor c x s).lnd = s.lnd ∧
    (setConveyor c x s).skc = s.skc ∧
    (setConveyor c x s).jbc = s.jbc ∧
    (setConveyor c x s).rnc = s.rnc ∧
    (setConveyor c x s).pxm = s.pxm ∧
    (setConveyor c x s).rpw = s.rpw ∧
    (setConveyor c x s).choices = s.choices ∧
    (setConveyor c x s).pending = s.pending ∧
    (setConveyor c x s).tka.waiting = s.tka.waiting ∧
    (setConveyor c x s).tka.reservations = s.tka.reservations := by
  simp [setConveyor]

/-- What `joinWaiting` leaves as it stands. -/
@[simp] theorem joinWaiting_keeps (l : Lane) (s : State) :
    (joinWaiting l s).trc = s.trc ∧
    (joinWaiting l s).mkt = s.mkt ∧
    (joinWaiting l s).rot = s.rot ∧
    (joinWaiting l s).knt = s.knt ∧
    (joinWaiting l s).ntp = s.ntp ∧
    (joinWaiting l s).lnd = s.lnd ∧
    (joinWaiting l s).skc = s.skc ∧
    (joinWaiting l s).jbc = s.jbc ∧
    (joinWaiting l s).rnc = s.rnc ∧
    (joinWaiting l s).pxm = s.pxm ∧
    (joinWaiting l s).rpw = s.rpw ∧
    (joinWaiting l s).choices = s.choices ∧
    (joinWaiting l s).pending = s.pending ∧
    (joinWaiting l s).tka.conveyors = s.tka.conveyors ∧
    (joinWaiting l s).tka.reservations = s.tka.reservations := by
  unfold joinWaiting; (repeat' (first | split | dsimp only)) <;> simp

/-- What `grant` leaves as it stands. -/
@[simp] theorem grant_keeps (m : MachineRecord) (c : Conveyor) (l : Lane) (s : State) :
    (grant m c l s).trc = s.trc ∧
    (grant m c l s).mkt = s.mkt ∧
    (grant m c l s).rot = s.rot ∧
    (grant m c l s).knt = s.knt ∧
    (grant m c l s).ntp = s.ntp ∧
    (grant m c l s).lnd = s.lnd ∧
    (grant m c l s).jbc = s.jbc ∧
    (grant m c l s).rnc = s.rnc ∧
    (grant m c l s).pxm = s.pxm ∧
    (grant m c l s).rpw = s.rpw ∧
    (grant m c l s).choices = s.choices ∧
    (grant m c l s).pending = s.pending := by
  simp [grant]

/-- What `grant` leaves in every lane. -/
@[simp] theorem grant_lane (m : MachineRecord) (c : Conveyor) (l : Lane) (s : State) (k : Lane) :
    ((grant m c l s).skc.get k).hold = (s.skc.get k).hold ∧
    ((grant m c l s).skc.get k).nextId = (s.skc.get k).nextId ∧
    ((grant m c l s).skc.get k).targetCurrent = (s.skc.get k).targetCurrent ∧
    ((grant m c l s).skc.get k).targetPrevious = (s.skc.get k).targetPrevious ∧
    ((grant m c l s).skc.get k).shelfLimit = (s.skc.get k).shelfLimit := by
  simp [grant]

/-- What `grantTurn` leaves as it stands. -/
@[simp] theorem grantTurn_keeps (c : Conveyor) (s : State) :
    (grantTurn c s).trc = s.trc ∧
    (grantTurn c s).mkt = s.mkt ∧
    (grantTurn c s).rot = s.rot ∧
    (grantTurn c s).knt = s.knt ∧
    (grantTurn c s).ntp = s.ntp ∧
    (grantTurn c s).lnd = s.lnd ∧
    (grantTurn c s).jbc = s.jbc ∧
    (grantTurn c s).rnc = s.rnc ∧
    (grantTurn c s).pxm = s.pxm ∧
    (grantTurn c s).rpw = s.rpw ∧
    (grantTurn c s).choices = s.choices ∧
    (grantTurn c s).pending = s.pending := by
  unfold grantTurn; (repeat' (first | split | dsimp only)) <;> simp

/-- What `grantTurn` leaves in every lane. -/
@[simp] theorem grantTurn_lane (c : Conveyor) (s : State) (k : Lane) :
    ((grantTurn c s).skc.get k).hold = (s.skc.get k).hold ∧
    ((grantTurn c s).skc.get k).nextId = (s.skc.get k).nextId ∧
    ((grantTurn c s).skc.get k).targetCurrent = (s.skc.get k).targetCurrent ∧
    ((grantTurn c s).skc.get k).targetPrevious = (s.skc.get k).targetPrevious ∧
    ((grantTurn c s).skc.get k).shelfLimit = (s.skc.get k).shelfLimit := by
  unfold grantTurn; (repeat' (first | split | dsimp only)) <;> simp

/-- A grant leaves a conveyor that is not AVAILABLE as it is (R132, R133). -/
theorem grantTurn_busy (k c : Conveyor) (s : State) (h : s.tka.conveyors.get c ≠ .available) :
    (grantTurn k s).tka.conveyors.get c = s.tka.conveyors.get c := by
  unfold grantTurn
  (repeat' split) <;> try rfl
  rename_i hk _ _ _ _
  have hc : c ≠ k := fun he => h (he ▸ hk)
  simp [grant, setConveyor, setWaiting, Conveyors.get_set, hc]

/-- What `grantPass` leaves as it stands. -/
@[simp] theorem grantPass_keeps (s : State) :
    (grantPass s).trc = s.trc ∧
    (grantPass s).mkt = s.mkt ∧
    (grantPass s).rot = s.rot ∧
    (grantPass s).knt = s.knt ∧
    (grantPass s).ntp = s.ntp ∧
    (grantPass s).lnd = s.lnd ∧
    (grantPass s).jbc = s.jbc ∧
    (grantPass s).rnc = s.rnc ∧
    (grantPass s).pxm = s.pxm ∧
    (grantPass s).rpw = s.rpw ∧
    (grantPass s).choices = s.choices ∧
    (grantPass s).pending = s.pending := by
  simp [grantPass]

/-- What `grantPass` leaves in every lane. -/
@[simp] theorem grantPass_lane (s : State) (k : Lane) :
    ((grantPass s).skc.get k).hold = (s.skc.get k).hold ∧
    ((grantPass s).skc.get k).nextId = (s.skc.get k).nextId ∧
    ((grantPass s).skc.get k).targetCurrent = (s.skc.get k).targetCurrent ∧
    ((grantPass s).skc.get k).targetPrevious = (s.skc.get k).targetPrevious ∧
    ((grantPass s).skc.get k).shelfLimit = (s.skc.get k).shelfLimit := by
  simp [grantPass]

/-- A grant pass leaves a conveyor that is not AVAILABLE as it is (R132, R133). -/
theorem grantPass_busy (c : Conveyor) (s : State) (h : s.tka.conveyors.get c ≠ .available) :
    (grantPass s).tka.conveyors.get c = s.tka.conveyors.get c := by
  unfold grantPass
  rw [grantTurn_busy .c1 c _ (by rw [grantTurn_busy .c0 c s h]; exact h), grantTurn_busy .c0 c s h]

/-- What `setShelfLimit` leaves as it stands. -/
@[simp] theorem setShelfLimit_keeps (l : Lane) (s : State) :
    (setShelfLimit l s).trc = s.trc ∧
    (setShelfLimit l s).mkt = s.mkt ∧
    (setShelfLimit l s).rot = s.rot ∧
    (setShelfLimit l s).knt = s.knt ∧
    (setShelfLimit l s).ntp = s.ntp ∧
    (setShelfLimit l s).lnd = s.lnd ∧
    (setShelfLimit l s).tka = s.tka ∧
    (setShelfLimit l s).jbc = s.jbc ∧
    (setShelfLimit l s).rnc = s.rnc ∧
    (setShelfLimit l s).pxm = s.pxm ∧
    (setShelfLimit l s).rpw = s.rpw ∧
    (setShelfLimit l s).choices = s.choices ∧
    (setShelfLimit l s).pending = s.pending := by
  unfold setShelfLimit; (repeat' (first | split | dsimp only)) <;> simp

/-- What `setShelfLimit` leaves in every lane. -/
@[simp] theorem setShelfLimit_lane (l : Lane) (s : State) (k : Lane) :
    ((setShelfLimit l s).skc.get k).hold = (s.skc.get k).hold ∧
    ((setShelfLimit l s).skc.get k).nextId = (s.skc.get k).nextId ∧
    ((setShelfLimit l s).skc.get k).targetCurrent = (s.skc.get k).targetCurrent ∧
    ((setShelfLimit l s).skc.get k).targetPrevious = (s.skc.get k).targetPrevious := by
  unfold setShelfLimit; split <;> simp [setLane_get]; split <;> simp_all

/-- What `setShelfLimits` leaves as it stands. -/
@[simp] theorem setShelfLimits_keeps (s : State) :
    (setShelfLimits s).trc = s.trc ∧
    (setShelfLimits s).mkt = s.mkt ∧
    (setShelfLimits s).rot = s.rot ∧
    (setShelfLimits s).knt = s.knt ∧
    (setShelfLimits s).ntp = s.ntp ∧
    (setShelfLimits s).lnd = s.lnd ∧
    (setShelfLimits s).tka = s.tka ∧
    (setShelfLimits s).jbc = s.jbc ∧
    (setShelfLimits s).rnc = s.rnc ∧
    (setShelfLimits s).pxm = s.pxm ∧
    (setShelfLimits s).rpw = s.rpw ∧
    (setShelfLimits s).choices = s.choices ∧
    (setShelfLimits s).pending = s.pending := by
  simp [setShelfLimits]

/-- What `setShelfLimits` leaves in every lane. -/
@[simp] theorem setShelfLimits_lane (s : State) (k : Lane) :
    ((setShelfLimits s).skc.get k).hold = (s.skc.get k).hold ∧
    ((setShelfLimits s).skc.get k).nextId = (s.skc.get k).nextId ∧
    ((setShelfLimits s).skc.get k).targetCurrent = (s.skc.get k).targetCurrent ∧
    ((setShelfLimits s).skc.get k).targetPrevious = (s.skc.get k).targetPrevious := by
  simp [setShelfLimits]

/-- What `resolve` leaves as it stands. -/
@[simp] theorem resolve_keeps (l : Lane) (id : Nat) (b : Bool) (s : State) :
    (resolve l id b s).trc = s.trc ∧
    (resolve l id b s).mkt = s.mkt ∧
    (resolve l id b s).rot = s.rot ∧
    (resolve l id b s).knt = s.knt ∧
    (resolve l id b s).ntp = s.ntp ∧
    (resolve l id b s).lnd = s.lnd ∧
    (resolve l id b s).jbc = s.jbc ∧
    (resolve l id b s).rnc = s.rnc ∧
    (resolve l id b s).pxm = s.pxm ∧
    (resolve l id b s).rpw = s.rpw ∧
    (resolve l id b s).choices = s.choices ∧
    (resolve l id b s).pending = s.pending ∧
    (resolve l id b s).tka.conveyors = s.tka.conveyors ∧
    (resolve l id b s).tka.reservations = s.tka.reservations := by
  simp [resolve]

/-- What `resolve` leaves in every lane. -/
@[simp] theorem resolve_lane (l : Lane) (id : Nat) (b : Bool) (s : State) (k : Lane) :
    ((resolve l id b s).skc.get k).hold = (s.skc.get k).hold ∧
    ((resolve l id b s).skc.get k).nextId = (s.skc.get k).nextId ∧
    ((resolve l id b s).skc.get k).targetCurrent = (s.skc.get k).targetCurrent ∧
    ((resolve l id b s).skc.get k).targetPrevious = (s.skc.get k).targetPrevious ∧
    ((resolve l id b s).skc.get k).shelfLimit = (s.skc.get k).shelfLimit := by
  simp [resolve]

/-- What `shortClose` leaves as it stands. -/
@[simp] theorem shortClose_keeps (k : CloseKind) (l : Lane) (s : State) :
    (shortClose k l s).trc = s.trc ∧
    (shortClose k l s).mkt = s.mkt ∧
    (shortClose k l s).rot = s.rot ∧
    (shortClose k l s).knt = s.knt ∧
    (shortClose k l s).ntp = s.ntp ∧
    (shortClose k l s).lnd = s.lnd ∧
    (shortClose k l s).jbc = s.jbc ∧
    (shortClose k l s).rnc = s.rnc ∧
    (shortClose k l s).pxm = s.pxm ∧
    (shortClose k l s).rpw = s.rpw ∧
    (shortClose k l s).choices = s.choices ∧
    (shortClose k l s).pending = s.pending ∧
    (shortClose k l s).tka.conveyors = s.tka.conveyors ∧
    (shortClose k l s).tka.reservations = s.tka.reservations := by
  unfold shortClose; (repeat' (first | split | dsimp only)) <;> simp

/-- What `shortClose` leaves in every lane. -/
@[simp] theorem shortClose_lane (c : CloseKind) (l : Lane) (s : State) (k : Lane) :
    ((shortClose c l s).skc.get k).hold = (s.skc.get k).hold ∧
    ((shortClose c l s).skc.get k).nextId = (s.skc.get k).nextId ∧
    ((shortClose c l s).skc.get k).targetCurrent = (s.skc.get k).targetCurrent ∧
    ((shortClose c l s).skc.get k).targetPrevious = (s.skc.get k).targetPrevious ∧
    ((shortClose c l s).skc.get k).shelfLimit = (s.skc.get k).shelfLimit := by
  unfold shortClose; (repeat' (first | split | dsimp only)) <;> simp

/-- What `suspectMark` leaves as it stands. -/
@[simp] theorem suspectMark_keeps (l : Lane) (id : Nat) (n : RowNum) (s : State) :
    (suspectMark l id n s).trc = s.trc ∧
    (suspectMark l id n s).mkt = s.mkt ∧
    (suspectMark l id n s).rot = s.rot ∧
    (suspectMark l id n s).knt = s.knt ∧
    (suspectMark l id n s).ntp = s.ntp ∧
    (suspectMark l id n s).lnd = s.lnd ∧
    (suspectMark l id n s).tka = s.tka ∧
    (suspectMark l id n s).jbc = s.jbc ∧
    (suspectMark l id n s).rnc = s.rnc ∧
    (suspectMark l id n s).choices = s.choices ∧
    (suspectMark l id n s).pending = s.pending ∧
    (suspectMark l id n s).pxm.memory = s.pxm.memory ∧
    (suspectMark l id n s).pxm.mask = s.pxm.mask ∧
    (suspectMark l id n s).pxm.burst = s.pxm.burst ∧
    (suspectMark l id n s).pxm.waiting = s.pxm.waiting ∧
    (suspectMark l id n s).pxm.tearLatch = s.pxm.tearLatch ∧
    (suspectMark l id n s).pxm.dataOut = s.pxm.dataOut ∧
    (suspectMark l id n s).pxm.resetAsserted = s.pxm.resetAsserted ∧
    (suspectMark l id n s).pxm.attention = s.pxm.attention ∧
    (suspectMark l id n s).rpw.writer = s.rpw.writer ∧
    (suspectMark l id n s).rpw.fillIndex = s.rpw.fillIndex ∧
    (suspectMark l id n s).rpw.ageTimer = s.rpw.ageTimer ∧
    (suspectMark l id n s).rpw.halfWork = s.rpw.halfWork := by
  unfold suspectMark; (repeat' (first | split | dsimp only)) <;> simp

/-- What `suspectMark` leaves in every lane. -/
@[simp] theorem suspectMark_lane (l : Lane) (id : Nat) (n : RowNum) (s : State) (k : Lane) :
    ((suspectMark l id n s).skc.get k).hold = (s.skc.get k).hold ∧
    ((suspectMark l id n s).skc.get k).nextId = (s.skc.get k).nextId ∧
    ((suspectMark l id n s).skc.get k).targetCurrent = (s.skc.get k).targetCurrent ∧
    ((suspectMark l id n s).skc.get k).targetPrevious = (s.skc.get k).targetPrevious ∧
    ((suspectMark l id n s).skc.get k).shelfLimit = (s.skc.get k).shelfLimit := by
  unfold suspectMark; (repeat' (first | split | dsimp only)) <;> simp

/-- What `departFront` leaves as it stands. -/
@[simp] theorem departFront_keeps (l : Lane) (s : State) :
    (departFront l s).trc = s.trc ∧
    (departFront l s).mkt = s.mkt ∧
    (departFront l s).rot = s.rot ∧
    (departFront l s).knt = s.knt ∧
    (departFront l s).ntp = s.ntp ∧
    (departFront l s).lnd = s.lnd ∧
    (departFront l s).jbc = s.jbc ∧
    (departFront l s).rnc = s.rnc ∧
    (departFront l s).pxm = s.pxm ∧
    (departFront l s).rpw = s.rpw ∧
    (departFront l s).choices = s.choices ∧
    (departFront l s).pending = s.pending := by
  unfold departFront; dsimp only; (repeat' split) <;> simp

/-- What `departFront` leaves in every lane. -/
@[simp] theorem departFront_lane (l : Lane) (s : State) (k : Lane) :
    ((departFront l s).skc.get k).hold = (s.skc.get k).hold ∧
    ((departFront l s).skc.get k).nextId = (s.skc.get k).nextId ∧
    ((departFront l s).skc.get k).targetCurrent = (s.skc.get k).targetCurrent ∧
    ((departFront l s).skc.get k).targetPrevious = (s.skc.get k).targetPrevious := by
  unfold departFront; (repeat' (first | split | dsimp only)) <;> simp

/-- What `releaseReservation` leaves as it stands. -/
@[simp] theorem releaseReservation_keeps (s : State) :
    (releaseReservation s).trc = s.trc ∧
    (releaseReservation s).mkt = s.mkt ∧
    (releaseReservation s).rot = s.rot ∧
    (releaseReservation s).knt = s.knt ∧
    (releaseReservation s).ntp = s.ntp ∧
    (releaseReservation s).lnd = s.lnd ∧
    (releaseReservation s).jbc = s.jbc ∧
    (releaseReservation s).rnc = s.rnc ∧
    (releaseReservation s).pxm = s.pxm ∧
    (releaseReservation s).rpw = s.rpw ∧
    (releaseReservation s).choices = s.choices ∧
    (releaseReservation s).pending = s.pending := by
  simp [releaseReservation]

/-- What `releaseReservation` leaves in every lane. -/
@[simp] theorem releaseReservation_lane (s : State) (k : Lane) :
    ((releaseReservation s).skc.get k).hold = (s.skc.get k).hold ∧
    ((releaseReservation s).skc.get k).nextId = (s.skc.get k).nextId ∧
    ((releaseReservation s).skc.get k).targetCurrent = (s.skc.get k).targetCurrent ∧
    ((releaseReservation s).skc.get k).targetPrevious = (s.skc.get k).targetPrevious ∧
    ((releaseReservation s).skc.get k).shelfLimit = (s.skc.get k).shelfLimit := by
  simp [releaseReservation]

/-- What `clearTargets` leaves as it stands. -/
@[simp] theorem clearTargets_keeps (s : State) :
    (clearTargets s).trc = s.trc ∧
    (clearTargets s).mkt = s.mkt ∧
    (clearTargets s).rot = s.rot ∧
    (clearTargets s).knt = s.knt ∧
    (clearTargets s).ntp = s.ntp ∧
    (clearTargets s).lnd = s.lnd ∧
    (clearTargets s).tka = s.tka ∧
    (clearTargets s).jbc = s.jbc ∧
    (clearTargets s).rnc = s.rnc ∧
    (clearTargets s).pxm = s.pxm ∧
    (clearTargets s).rpw = s.rpw ∧
    (clearTargets s).choices = s.choices ∧
    (clearTargets s).pending = s.pending := by
  simp [clearTargets]

/-- What `clearTargets` leaves in every lane. -/
@[simp] theorem clearTargets_lane (s : State) (k : Lane) :
    ((clearTargets s).skc.get k).hold = (s.skc.get k).hold ∧
    ((clearTargets s).skc.get k).nextId = (s.skc.get k).nextId := by
  simp [clearTargets]

end Sys2Proof.Machine
end

