-- ==== Sys2Proof/Laws/Jobs.lean ====
section
/-! SUPPORT. Job Control and the end of DRAIN: for each operation, what it leaves as it stands. -/

namespace Sys2Proof.Machine

/-- What `clearPreviousTargets` leaves as it stands. -/
@[simp] theorem clearPreviousTargets_keeps (s : State) :
    (clearPreviousTargets s).trc = s.trc ∧
    (clearPreviousTargets s).mkt = s.mkt ∧
    (clearPreviousTargets s).rot = s.rot ∧
    (clearPreviousTargets s).knt = s.knt ∧
    (clearPreviousTargets s).ntp = s.ntp ∧
    (clearPreviousTargets s).lnd = s.lnd ∧
    (clearPreviousTargets s).tka = s.tka ∧
    (clearPreviousTargets s).jbc = s.jbc ∧
    (clearPreviousTargets s).rnc = s.rnc ∧
    (clearPreviousTargets s).pxm = s.pxm ∧
    (clearPreviousTargets s).rpw = s.rpw ∧
    (clearPreviousTargets s).choices = s.choices ∧
    (clearPreviousTargets s).pending = s.pending := by
  simp [clearPreviousTargets]

/-- What `clearPreviousTargets` leaves in every lane. -/
@[simp] theorem clearPreviousTargets_lane (s : State) (k : Lane) :
    ((clearPreviousTargets s).skc.get k).hold = (s.skc.get k).hold ∧
    ((clearPreviousTargets s).skc.get k).nextId = (s.skc.get k).nextId := by
  simp [clearPreviousTargets]

/-- What `freePrevious` leaves as it stands. -/
@[simp] theorem freePrevious_keeps (c : JobContext) (s : State) :
    (freePrevious c s).trc = s.trc ∧
    (freePrevious c s).mkt = s.mkt ∧
    (freePrevious c s).knt = s.knt ∧
    (freePrevious c s).ntp = s.ntp ∧
    (freePrevious c s).lnd = s.lnd ∧
    (freePrevious c s).tka = s.tka ∧
    (freePrevious c s).rnc = s.rnc ∧
    (freePrevious c s).choices = s.choices ∧
    (freePrevious c s).pending = s.pending ∧
    (freePrevious c s).pxm.memory = s.pxm.memory ∧
    (freePrevious c s).pxm.mask = s.pxm.mask ∧
    (freePrevious c s).pxm.burst = s.pxm.burst ∧
    (freePrevious c s).pxm.waiting = s.pxm.waiting ∧
    (freePrevious c s).pxm.tearLatch = s.pxm.tearLatch ∧
    (freePrevious c s).pxm.dataOut = s.pxm.dataOut ∧
    (freePrevious c s).pxm.resetAsserted = s.pxm.resetAsserted ∧
    (freePrevious c s).pxm.attention = s.pxm.attention ∧
    (freePrevious c s).rpw.writer = s.rpw.writer ∧
    (freePrevious c s).rpw.fillIndex = s.rpw.fillIndex ∧
    (freePrevious c s).rpw.ageTimer = s.rpw.ageTimer ∧
    (freePrevious c s).rpw.halfWork = s.rpw.halfWork ∧
    (freePrevious c s).rot.lastNumber = s.rot.lastNumber ∧
    (freePrevious c s).rot.overflowDetector = s.rot.overflowDetector ∧
    (freePrevious c s).jbc.current = s.jbc.current := by
  simp [freePrevious]

/-- What `freePrevious` leaves in every lane. -/
@[simp] theorem freePrevious_lane (c : JobContext) (s : State) (k : Lane) :
    ((freePrevious c s).skc.get k).hold = (s.skc.get k).hold ∧
    ((freePrevious c s).skc.get k).nextId = (s.skc.get k).nextId := by
  simp [freePrevious]

/-- What `freeingTest` leaves as it stands. -/
@[simp] theorem freeingTest_keeps (s : State) :
    (freeingTest s).trc = s.trc ∧
    (freeingTest s).mkt = s.mkt ∧
    (freeingTest s).knt = s.knt ∧
    (freeingTest s).ntp = s.ntp ∧
    (freeingTest s).lnd = s.lnd ∧
    (freeingTest s).tka = s.tka ∧
    (freeingTest s).rnc = s.rnc ∧
    (freeingTest s).choices = s.choices ∧
    (freeingTest s).pending = s.pending ∧
    (freeingTest s).pxm.memory = s.pxm.memory ∧
    (freeingTest s).pxm.mask = s.pxm.mask ∧
    (freeingTest s).pxm.burst = s.pxm.burst ∧
    (freeingTest s).pxm.waiting = s.pxm.waiting ∧
    (freeingTest s).pxm.tearLatch = s.pxm.tearLatch ∧
    (freeingTest s).pxm.dataOut = s.pxm.dataOut ∧
    (freeingTest s).pxm.resetAsserted = s.pxm.resetAsserted ∧
    (freeingTest s).pxm.attention = s.pxm.attention ∧
    (freeingTest s).rpw.writer = s.rpw.writer ∧
    (freeingTest s).rpw.fillIndex = s.rpw.fillIndex ∧
    (freeingTest s).rpw.ageTimer = s.rpw.ageTimer ∧
    (freeingTest s).rpw.halfWork = s.rpw.halfWork ∧
    (freeingTest s).rot.lastNumber = s.rot.lastNumber ∧
    (freeingTest s).rot.overflowDetector = s.rot.overflowDetector ∧
    (freeingTest s).jbc.current = s.jbc.current := by
  unfold freeingTest; (repeat' (first | split | dsimp only)) <;> simp

/-- What `freeingTest` leaves in every lane. -/
@[simp] theorem freeingTest_lane (s : State) (k : Lane) :
    ((freeingTest s).skc.get k).hold = (s.skc.get k).hold ∧
    ((freeingTest s).skc.get k).nextId = (s.skc.get k).nextId := by
  unfold freeingTest; (repeat' (first | split | dsimp only)) <;> simp

/-- What `queueJobEnd` leaves as it stands. -/
@[simp] theorem queueJobEnd_keeps (x : Option JobContext) (s : State) :
    (queueJobEnd x s).trc = s.trc ∧
    (queueJobEnd x s).mkt = s.mkt ∧
    (queueJobEnd x s).rot = s.rot ∧
    (queueJobEnd x s).knt = s.knt ∧
    (queueJobEnd x s).ntp = s.ntp ∧
    (queueJobEnd x s).lnd = s.lnd ∧
    (queueJobEnd x s).skc = s.skc ∧
    (queueJobEnd x s).tka = s.tka ∧
    (queueJobEnd x s).jbc = s.jbc ∧
    (queueJobEnd x s).rnc = s.rnc ∧
    (queueJobEnd x s).choices = s.choices ∧
    (queueJobEnd x s).pending = s.pending ∧
    (queueJobEnd x s).pxm.memory = s.pxm.memory ∧
    (queueJobEnd x s).pxm.mask = s.pxm.mask ∧
    (queueJobEnd x s).pxm.burst = s.pxm.burst ∧
    (queueJobEnd x s).pxm.waiting = s.pxm.waiting ∧
    (queueJobEnd x s).pxm.tearLatch = s.pxm.tearLatch ∧
    (queueJobEnd x s).pxm.dataOut = s.pxm.dataOut ∧
    (queueJobEnd x s).pxm.resetAsserted = s.pxm.resetAsserted ∧
    (queueJobEnd x s).pxm.attention = s.pxm.attention ∧
    (queueJobEnd x s).rpw.writer = s.rpw.writer ∧
    (queueJobEnd x s).rpw.fillIndex = s.rpw.fillIndex ∧
    (queueJobEnd x s).rpw.ageTimer = s.rpw.ageTimer ∧
    (queueJobEnd x s).rpw.halfWork = s.rpw.halfWork := by
  unfold queueJobEnd; (repeat' (first | split | dsimp only)) <;> simp

/-- What `endContexts` leaves as it stands. -/
@[simp] theorem endContexts_keeps (s : State) :
    (endContexts s).trc = s.trc ∧
    (endContexts s).mkt = s.mkt ∧
    (endContexts s).rot = s.rot ∧
    (endContexts s).knt = s.knt ∧
    (endContexts s).ntp = s.ntp ∧
    (endContexts s).lnd = s.lnd ∧
    (endContexts s).tka = s.tka ∧
    (endContexts s).rnc = s.rnc ∧
    (endContexts s).choices = s.choices ∧
    (endContexts s).pending = s.pending ∧
    (endContexts s).pxm.memory = s.pxm.memory ∧
    (endContexts s).pxm.mask = s.pxm.mask ∧
    (endContexts s).pxm.burst = s.pxm.burst ∧
    (endContexts s).pxm.waiting = s.pxm.waiting ∧
    (endContexts s).pxm.tearLatch = s.pxm.tearLatch ∧
    (endContexts s).pxm.dataOut = s.pxm.dataOut ∧
    (endContexts s).pxm.resetAsserted = s.pxm.resetAsserted ∧
    (endContexts s).pxm.attention = s.pxm.attention ∧
    (endContexts s).rpw.writer = s.rpw.writer ∧
    (endContexts s).rpw.fillIndex = s.rpw.fillIndex ∧
    (endContexts s).rpw.ageTimer = s.rpw.ageTimer ∧
    (endContexts s).rpw.halfWork = s.rpw.halfWork := by
  simp [endContexts]

/-- What `endContexts` leaves in every lane. -/
@[simp] theorem endContexts_lane (s : State) (k : Lane) :
    ((endContexts s).skc.get k).hold = (s.skc.get k).hold ∧
    ((endContexts s).skc.get k).nextId = (s.skc.get k).nextId := by
  simp [endContexts]

/-- What `dropClosePending` leaves as it stands. -/
@[simp] theorem dropClosePending_keeps (l : Lane) (s : State) :
    (dropClosePending l s).trc = s.trc ∧
    (dropClosePending l s).mkt = s.mkt ∧
    (dropClosePending l s).rot = s.rot ∧
    (dropClosePending l s).knt = s.knt ∧
    (dropClosePending l s).ntp = s.ntp ∧
    (dropClosePending l s).lnd = s.lnd ∧
    (dropClosePending l s).skc = s.skc ∧
    (dropClosePending l s).tka = s.tka ∧
    (dropClosePending l s).rnc = s.rnc ∧
    (dropClosePending l s).pxm = s.pxm ∧
    (dropClosePending l s).rpw = s.rpw ∧
    (dropClosePending l s).choices = s.choices ∧
    (dropClosePending l s).pending = s.pending ∧
    (dropClosePending l s).jbc.current = s.jbc.current ∧
    (dropClosePending l s).jbc.previous = s.jbc.previous := by
  simp [dropClosePending]

/-- What `jobClose` leaves as it stands. -/
@[simp] theorem jobClose_keeps (l : Lane) (s : State) :
    (jobClose l s).trc = s.trc ∧
    (jobClose l s).mkt = s.mkt ∧
    (jobClose l s).rot = s.rot ∧
    (jobClose l s).knt = s.knt ∧
    (jobClose l s).ntp = s.ntp ∧
    (jobClose l s).lnd = s.lnd ∧
    (jobClose l s).rnc = s.rnc ∧
    (jobClose l s).pxm = s.pxm ∧
    (jobClose l s).rpw = s.rpw ∧
    (jobClose l s).choices = s.choices ∧
    (jobClose l s).pending = s.pending ∧
    (jobClose l s).jbc.current = s.jbc.current ∧
    (jobClose l s).jbc.previous = s.jbc.previous ∧
    (jobClose l s).tka.conveyors = s.tka.conveyors ∧
    (jobClose l s).tka.reservations = s.tka.reservations := by
  simp [jobClose]

/-- What `jobClose` leaves in every lane. -/
@[simp] theorem jobClose_lane (l : Lane) (s : State) (k : Lane) :
    ((jobClose l s).skc.get k).hold = (s.skc.get k).hold ∧
    ((jobClose l s).skc.get k).nextId = (s.skc.get k).nextId := by
  simp [jobClose]

/-- What `activateJob` leaves as it stands. -/
@[simp] theorem activateJob_keeps (j : JobRecord) (s : State) :
    (activateJob j s).trc = s.trc ∧
    (activateJob j s).rot = s.rot ∧
    (activateJob j s).knt = s.knt ∧
    (activateJob j s).ntp = s.ntp ∧
    (activateJob j s).tka = s.tka ∧
    (activateJob j s).choices = s.choices ∧
    (activateJob j s).pending = s.pending ∧
    (activateJob j s).pxm.memory = s.pxm.memory ∧
    (activateJob j s).pxm.mask = s.pxm.mask ∧
    (activateJob j s).pxm.burst = s.pxm.burst ∧
    (activateJob j s).pxm.waiting = s.pxm.waiting ∧
    (activateJob j s).pxm.tearLatch = s.pxm.tearLatch ∧
    (activateJob j s).pxm.dataOut = s.pxm.dataOut ∧
    (activateJob j s).pxm.resetAsserted = s.pxm.resetAsserted ∧
    (activateJob j s).rpw.writer = s.rpw.writer ∧
    (activateJob j s).rpw.fillIndex = s.rpw.fillIndex ∧
    (activateJob j s).rpw.ageTimer = s.rpw.ageTimer ∧
    (activateJob j s).rpw.halfWork = s.rpw.halfWork ∧
    (activateJob j s).rnc.faultCode = s.rnc.faultCode ∧
    (activateJob j s).rnc.lastCommand = s.rnc.lastCommand ∧
    (activateJob j s).rnc.result = s.rnc.result ∧
    (activateJob j s).rnc.configIndex = s.rnc.configIndex ∧
    (activateJob j s).rnc.stopRows = s.rnc.stopRows ∧
    (activateJob j s).rnc.stopPending = s.rnc.stopPending ∧
    (activateJob j s).rnc.record = s.rnc.record := by
  simp [activateJob]

/-- What `activateJob` leaves in every lane. -/
@[simp] theorem activateJob_lane (j : JobRecord) (s : State) (k : Lane) :
    ((activateJob j s).skc.get k).hold = (s.skc.get k).hold ∧
    ((activateJob j s).skc.get k).nextId = (s.skc.get k).nextId := by
  simp [activateJob, activationTargets]

/-- What `emptyTrack` leaves as it stands. -/
@[simp] theorem emptyTrack_keeps (s : State) :
    (emptyTrack s).trc = s.trc ∧
    (emptyTrack s).ntp = s.ntp ∧
    (emptyTrack s).lnd = s.lnd ∧
    (emptyTrack s).skc = s.skc ∧
    (emptyTrack s).tka = s.tka ∧
    (emptyTrack s).jbc = s.jbc ∧
    (emptyTrack s).rnc = s.rnc ∧
    (emptyTrack s).pxm = s.pxm ∧
    (emptyTrack s).rpw = s.rpw ∧
    (emptyTrack s).choices = s.choices ∧
    (emptyTrack s).pending = s.pending ∧
    (emptyTrack s).rot.lastNumber = s.rot.lastNumber ∧
    (emptyTrack s).knt.lead = s.knt.lead ∧
    (emptyTrack s).knt.lastFire = s.knt.lastFire ∧
    (emptyTrack s).knt.stallCount = s.knt.stallCount ∧
    (emptyTrack s).knt.inhibit = s.knt.inhibit ∧
    (emptyTrack s).knt.output = s.knt.output ∧
    (emptyTrack s).mkt.state = s.mkt.state ∧
    (emptyTrack s).mkt.stretch = s.mkt.stretch ∧
    (emptyTrack s).mkt.deglitch = s.mkt.deglitch ∧
    (emptyTrack s).mkt.expected = s.mkt.expected ∧
    (emptyTrack s).mkt.coastCount = s.mkt.coastCount ∧
    (emptyTrack s).mkt.strayCount = s.mkt.strayCount ∧
    (emptyTrack s).mkt.glitchCount = s.mkt.glitchCount ∧
    (emptyTrack s).mkt.reacquirePoint = s.mkt.reacquirePoint ∧
    (emptyTrack s).mkt.exemption = s.mkt.exemption ∧
    (emptyTrack s).mkt.markActive = s.mkt.markActive := by
  simp [emptyTrack, Knt.untrack, Mkt.noNewest]

/-- What `trackerToIdle` leaves as it stands. -/
@[simp] theorem trackerToIdle_keeps (s : State) :
    (trackerToIdle s).trc = s.trc ∧
    (trackerToIdle s).rot = s.rot ∧
    (trackerToIdle s).knt = s.knt ∧
    (trackerToIdle s).ntp = s.ntp ∧
    (trackerToIdle s).lnd = s.lnd ∧
    (trackerToIdle s).skc = s.skc ∧
    (trackerToIdle s).tka = s.tka ∧
    (trackerToIdle s).jbc = s.jbc ∧
    (trackerToIdle s).rnc = s.rnc ∧
    (trackerToIdle s).pxm = s.pxm ∧
    (trackerToIdle s).rpw = s.rpw ∧
    (trackerToIdle s).choices = s.choices ∧
    (trackerToIdle s).pending = s.pending ∧
    (trackerToIdle s).mkt.newest = s.mkt.newest ∧
    (trackerToIdle s).mkt.stretch = s.mkt.stretch ∧
    (trackerToIdle s).mkt.strayCount = s.mkt.strayCount ∧
    (trackerToIdle s).mkt.glitchCount = s.mkt.glitchCount ∧
    (trackerToIdle s).mkt.reacquirePoint = s.mkt.reacquirePoint ∧
    (trackerToIdle s).mkt.exemption = s.mkt.exemption ∧
    (trackerToIdle s).mkt.markActive = s.mkt.markActive := by
  simp [trackerToIdle, Mkt.toIdle]

/-- What `clearStops` leaves as it stands. -/
@[simp] theorem clearStops_keeps (s : State) :
    (clearStops s).trc = s.trc ∧
    (clearStops s).mkt = s.mkt ∧
    (clearStops s).rot = s.rot ∧
    (clearStops s).knt = s.knt ∧
    (clearStops s).ntp = s.ntp ∧
    (clearStops s).lnd = s.lnd ∧
    (clearStops s).skc = s.skc ∧
    (clearStops s).tka = s.tka ∧
    (clearStops s).jbc = s.jbc ∧
    (clearStops s).pxm = s.pxm ∧
    (clearStops s).rpw = s.rpw ∧
    (clearStops s).choices = s.choices ∧
    (clearStops s).pending = s.pending ∧
    (clearStops s).rnc.runState = s.rnc.runState ∧
    (clearStops s).rnc.faultCode = s.rnc.faultCode ∧
    (clearStops s).rnc.lastCommand = s.rnc.lastCommand ∧
    (clearStops s).rnc.result = s.rnc.result ∧
    (clearStops s).rnc.configIndex = s.rnc.configIndex ∧
    (clearStops s).rnc.record = s.rnc.record := by
  simp [clearStops, Rnc.noStops]

/-- What `endDrain` leaves as it stands. -/
@[simp] theorem endDrain_keeps (s : State) :
    (endDrain s).trc = s.trc ∧
    (endDrain s).ntp = s.ntp ∧
    (endDrain s).tka = s.tka ∧
    (endDrain s).choices = s.choices ∧
    (endDrain s).pending = s.pending ∧
    (endDrain s).pxm.memory = s.pxm.memory ∧
    (endDrain s).pxm.mask = s.pxm.mask ∧
    (endDrain s).pxm.burst = s.pxm.burst ∧
    (endDrain s).pxm.waiting = s.pxm.waiting ∧
    (endDrain s).pxm.tearLatch = s.pxm.tearLatch ∧
    (endDrain s).pxm.dataOut = s.pxm.dataOut ∧
    (endDrain s).pxm.resetAsserted = s.pxm.resetAsserted ∧
    (endDrain s).rpw.writer = s.rpw.writer ∧
    (endDrain s).rpw.fillIndex = s.rpw.fillIndex ∧
    (endDrain s).rpw.ageTimer = s.rpw.ageTimer ∧
    (endDrain s).rpw.halfWork = s.rpw.halfWork ∧
    (endDrain s).rot.lastNumber = s.rot.lastNumber ∧
    (endDrain s).knt.lead = s.knt.lead ∧
    (endDrain s).knt.lastFire = s.knt.lastFire ∧
    (endDrain s).knt.stallCount = s.knt.stallCount ∧
    (endDrain s).knt.inhibit = s.knt.inhibit ∧
    (endDrain s).knt.output = s.knt.output ∧
    (endDrain s).rnc.faultCode = s.rnc.faultCode ∧
    (endDrain s).rnc.lastCommand = s.rnc.lastCommand ∧
    (endDrain s).rnc.result = s.rnc.result ∧
    (endDrain s).rnc.configIndex = s.rnc.configIndex ∧
    (endDrain s).rnc.record = s.rnc.record ∧
    (endDrain s).mkt.markActive = s.mkt.markActive := by
  simp [endDrain]

/-- What `endDrain` leaves in every lane. -/
@[simp] theorem endDrain_lane (s : State) (k : Lane) :
    ((endDrain s).skc.get k).hold = (s.skc.get k).hold ∧
    ((endDrain s).skc.get k).nextId = (s.skc.get k).nextId := by
  simp [endDrain]

/-- What `endTest` leaves as it stands. -/
@[simp] theorem endTest_keeps (s : State) :
    (endTest s).trc = s.trc ∧
    (endTest s).ntp = s.ntp ∧
    (endTest s).tka = s.tka ∧
    (endTest s).choices = s.choices ∧
    (endTest s).pending = s.pending ∧
    (endTest s).pxm.memory = s.pxm.memory ∧
    (endTest s).pxm.mask = s.pxm.mask ∧
    (endTest s).pxm.burst = s.pxm.burst ∧
    (endTest s).pxm.waiting = s.pxm.waiting ∧
    (endTest s).pxm.tearLatch = s.pxm.tearLatch ∧
    (endTest s).pxm.dataOut = s.pxm.dataOut ∧
    (endTest s).pxm.resetAsserted = s.pxm.resetAsserted ∧
    (endTest s).rpw.writer = s.rpw.writer ∧
    (endTest s).rpw.fillIndex = s.rpw.fillIndex ∧
    (endTest s).rpw.ageTimer = s.rpw.ageTimer ∧
    (endTest s).rpw.halfWork = s.rpw.halfWork ∧
    (endTest s).rot.lastNumber = s.rot.lastNumber ∧
    (endTest s).knt.lead = s.knt.lead ∧
    (endTest s).knt.lastFire = s.knt.lastFire ∧
    (endTest s).knt.stallCount = s.knt.stallCount ∧
    (endTest s).knt.inhibit = s.knt.inhibit ∧
    (endTest s).knt.output = s.knt.output ∧
    (endTest s).rnc.faultCode = s.rnc.faultCode ∧
    (endTest s).rnc.lastCommand = s.rnc.lastCommand ∧
    (endTest s).rnc.result = s.rnc.result ∧
    (endTest s).rnc.configIndex = s.rnc.configIndex ∧
    (endTest s).rnc.record = s.rnc.record ∧
    (endTest s).mkt.markActive = s.mkt.markActive := by
  unfold endTest; (repeat' (first | split | dsimp only)) <;> simp

/-- What `endTest` leaves in every lane. -/
@[simp] theorem endTest_lane (s : State) (k : Lane) :
    ((endTest s).skc.get k).hold = (s.skc.get k).hold ∧
    ((endTest s).skc.get k).nextId = (s.skc.get k).nextId := by
  unfold endTest; (repeat' (first | split | dsimp only)) <;> simp

/-- What `stopClose` leaves as it stands. -/
@[simp] theorem stopClose_keeps (l : Lane) (s : State) :
    (stopClose l s).trc = s.trc ∧
    (stopClose l s).mkt = s.mkt ∧
    (stopClose l s).rot = s.rot ∧
    (stopClose l s).knt = s.knt ∧
    (stopClose l s).ntp = s.ntp ∧
    (stopClose l s).lnd = s.lnd ∧
    (stopClose l s).jbc = s.jbc ∧
    (stopClose l s).pxm = s.pxm ∧
    (stopClose l s).rpw = s.rpw ∧
    (stopClose l s).choices = s.choices ∧
    (stopClose l s).pending = s.pending ∧
    (stopClose l s).tka.conveyors = s.tka.conveyors ∧
    (stopClose l s).tka.reservations = s.tka.reservations ∧
    (stopClose l s).rnc.runState = s.rnc.runState ∧
    (stopClose l s).rnc.faultCode = s.rnc.faultCode ∧
    (stopClose l s).rnc.lastCommand = s.rnc.lastCommand ∧
    (stopClose l s).rnc.result = s.rnc.result ∧
    (stopClose l s).rnc.configIndex = s.rnc.configIndex ∧
    (stopClose l s).rnc.record = s.rnc.record ∧
    (stopClose l s).rnc.stopRows = s.rnc.stopRows := by
  simp [stopClose]

/-- What `stopClose` leaves in every lane. -/
@[simp] theorem stopClose_lane (l : Lane) (s : State) (k : Lane) :
    ((stopClose l s).skc.get k).hold = (s.skc.get k).hold ∧
    ((stopClose l s).skc.get k).nextId = (s.skc.get k).nextId := by
  simp [stopClose]

end Sys2Proof.Machine
end

