-- ==== Sys2Proof/Laws/Frame.lean ====
section
/-! SUPPORT. Every reaction of the run keeps `ReactionFrame`: one lemma per operation. -/

namespace Sys2Proof.Machine

theorem ReactionFrame.refl (s : State) : ReactionFrame s s := by constructor <;> intros <;> rfl

theorem ReactionFrame.trans {s t u : State} (h1 : ReactionFrame s t) (h2 : ReactionFrame t u) :
    ReactionFrame s u :=
  ⟨h2.1.trans h1.1, h2.2.trans h1.2, h2.3.trans h1.3, h2.4.trans h1.4, h2.5.trans h1.5,
   h2.6.trans h1.6, h2.7.trans h1.7, h2.8.trans h1.8, h2.9.trans h1.9, h2.10.trans h1.10,
   h2.11.trans h1.11, h2.12.trans h1.12, h2.13.trans h1.13, h2.14.trans h1.14,
   fun l => (h2.15 l).trans (h1.15 l), fun l => (h2.16 l).trans (h1.16 l), h2.17.trans h1.17,
   h2.18.trans h1.18, h2.19.trans h1.19, h2.20.trans h1.20, h2.21.trans h1.21, h2.22.trans h1.22,
   h2.23.trans h1.23, h2.24.trans h1.24, h2.25.trans h1.25⟩

/-- A count of free choices set. -/
theorem setChoices_reacts (s : State) (n : Nat) : ReactionFrame s (s.setChoices n) := by
  constructor <;> intros <;> simp

/-- Due acts that keep the frame keep it together, in any order. -/
theorem takeDue_reacts {α : Type} {due : α → State → Bool} {act : α → State → State}
    (h : ∀ t s, ReactionFrame s (act t s)) (ts : List α) (s : State) :
    ReactionFrame s (takeDue due act ts s) :=
  takeDue_rel ReactionFrame.refl ReactionFrame.trans setChoices_reacts h ts s

/-- A fold of steps that keep the frame keeps it. -/
theorem foldl_reacts {α : Type} {f : State → α → State} (h : ∀ s x, ReactionFrame s (f s x))
    (l : List α) (s : State) : ReactionFrame s (l.foldl f s) :=
  foldl_rel ReactionFrame.refl ReactionFrame.trans h l s

/-! ### Shared operations -/

theorem setRot_reacts (x : Rot) (s : State) : ReactionFrame s (s.setRot x) := by
  constructor <;> intros <;> simp
theorem setTka_reacts (x : Tka) (s : State) : ReactionFrame s (s.setTka x) := by
  constructor <;> intros <;> simp
theorem setJbc_reacts (x : Jbc) (s : State) : ReactionFrame s (s.setJbc x) := by
  constructor <;> intros <;> simp
theorem setTrack_reacts (x : List Row) (s : State) : ReactionFrame s (setTrack x s) := by
  constructor <;> intros <;> simp
/-- The tracker replaced, the level of MARK kept. -/
theorem setMkt_reacts (x : Mkt) (s : State) (h : x.markActive = s.mkt.markActive) :
    ReactionFrame s (s.setMkt x) := by constructor <;> intros <;> simp [h]
/-- The knife replaced, its lead kept. -/
theorem setKnt_reacts (x : Knt) (s : State) (h : x.lead = s.knt.lead) :
    ReactionFrame s (s.setKnt x) := by constructor <;> intros <;> simp [h]
/-- A decider replaced, its flap lead kept. -/
theorem setDecider_reacts (l : Lane) (x : Lnd) (s : State)
    (h : x.flapLead = (s.lnd.get l).flapLead) : ReactionFrame s (setDecider l x s) := by
  constructor <;> intros <;> first | (simp; done) | skip
  rename_i k
  rw [setDecider_get]; split <;> simp_all
theorem setArrivals_reacts (l : Lane) (q : List Arrival) (s : State) :
    ReactionFrame s (setArrivals l q s) := by constructor <;> intros <;> simp
theorem setLine_reacts (l : Lane) (q : List Stack) (s : State) :
    ReactionFrame s (setLine l q s) := by constructor <;> intros <;> simp
/-- A lane replaced, its hold flag kept. -/
theorem setLane_reacts (l : Lane) (x : SkcLane) (s : State)
    (h : x.hold = (s.skc.get l).hold) : ReactionFrame s (setLane l x s) := by
  constructor <;> intros <;> first | (simp; done) | skip
  rename_i k
  rw [setLane_get]; split <;> simp_all
theorem setConveyor_reacts (c : Conveyor) (x : ConveyorState) (s : State) :
    ReactionFrame s (setConveyor c x s) := by constructor <;> intros <;> simp
theorem queueRecord_reacts (r : Record) (s : State) : ReactionFrame s (queueRecord r s) := by
  constructor <;> intros <;> simp
theorem tallyReject_reacts (t : JobTag) (r : Reason) (s : State) :
    ReactionFrame s (tallyReject t r s) := by constructor <;> intros <;> simp
theorem setRunState_reacts (r : RunState) (s : State) : ReactionFrame s (setRunState r s) := by
  constructor <;> intros <;> first | (simp; done) | skip
  cases r <;> simp
theorem raiseHalting_reacts (h : HaltingFault) (f : Count) (s : State) :
    ReactionFrame s (raiseHalting h f s) := by constructor <;> intros <;> simp
theorem raiseTimeout_reacts (c : Conveyor) (f : Count) (s : State) :
    ReactionFrame s (raiseTimeout c f s) := by constructor <;> intros <;> simp
theorem joinWaiting_reacts (l : Lane) (s : State) : ReactionFrame s (joinWaiting l s) := by
  constructor <;> intros <;> simp
theorem grantPass_reacts (s : State) : ReactionFrame s (grantPass s) := by
  constructor <;> intros <;> simp
theorem resolve_reacts (l : Lane) (id : Nat) (b : Bool) (s : State) :
    ReactionFrame s (resolve l id b s) := by constructor <;> intros <;> simp
theorem shortClose_reacts (k : CloseKind) (l : Lane) (s : State) :
    ReactionFrame s (shortClose k l s) := by constructor <;> intros <;> simp
theorem suspectMark_reacts (l : Lane) (id : Nat) (n : RowNum) (s : State) :
    ReactionFrame s (suspectMark l id n s) := by constructor <;> intros <;> simp
theorem departFront_reacts (l : Lane) (s : State) : ReactionFrame s (departFront l s) := by
  constructor <;> intros <;> simp
theorem passIfJoined_reacts (b s : State) : ReactionFrame s (passIfJoined b s) := by
  unfold passIfJoined; split
  · exact .refl s
  · exact grantPass_reacts s

/-! ### Jobs and the end of DRAIN -/

theorem freeingTest_reacts (s : State) : ReactionFrame s (freeingTest s) := by
  constructor <;> intros <;> simp
theorem endContexts_reacts (s : State) : ReactionFrame s (endContexts s) := by
  constructor <;> intros <;> simp
theorem endDrain_reacts (s : State) : ReactionFrame s (endDrain s) := by
  constructor <;> intros <;> first | (simp; done) | skip
  simp [endDrain]
theorem endTest_reacts (s : State) : ReactionFrame s (endTest s) := by
  unfold endTest; split
  · exact endDrain_reacts s
  · exact .refl s
theorem jobClose_reacts (l : Lane) (s : State) : ReactionFrame s (jobClose l s) := by
  constructor <;> intros <;> simp
theorem stopClose_reacts (l : Lane) (s : State) : ReactionFrame s (stopClose l s) := by
  constructor <;> intros <;> simp
theorem closeIfDecided_reacts (n : RowNum) (s : State) (l : Lane) :
    ReactionFrame s (closeIfDecided n s l) := by
  unfold closeIfDecided; split
  · exact jobClose_reacts l s
  · exact .refl s
theorem dueJobCloses_reacts (n : Option RowNum) (s : State) :
    ReactionFrame s (dueJobCloses n s) := by
  unfold dueJobCloses; split
  · exact .refl s
  · exact (foldl_reacts (closeIfDecided_reacts _) _ s).trans (passIfJoined_reacts _ _)
theorem activateJob_reacts (j : JobRecord) (s : State) : ReactionFrame s (activateJob j s) := by
  constructor <;> intros <;> first | (simp; done) | skip
  · simp [activateJob]
  · simp [activateJob, Mkt.activate]
theorem changeover_reacts (j : JobRecord) (s : State) : ReactionFrame s (changeover j s) := by
  unfold changeover
  refine ReactionFrame.trans ?_ (freeingTest_reacts _)
  refine ReactionFrame.trans ?_ (queueRecord_reacts _ _)
  refine ReactionFrame.trans ?_ (dueJobCloses_reacts _ _)
  constructor <;> intros <;> simp [Mkt.reenter, changeoverTargets]

/-! ### Deciders -/

theorem freezeEntry_reacts (l : Lane) (n : RowNum) (e : LaneEntry) (s : State) :
    ReactionFrame s (freezeEntry l n e s) := setTrack_reacts _ s
theorem openStack_reacts (l : Lane) (r : Row) (s s' : State) (id : Nat)
    (h : openStack l r s = some (s', id)) : ReactionFrame s s' := by
  unfold openStack at h
  dsimp only at h
  split at h
  · cases h
  · simp only [Option.some.injEq, Prod.mk.injEq] at h
    rw [← h.1]
    exact setLane_reacts _ _ _ rfl
theorem allot_reacts (l : Lane) (r : Row) (s s' : State) (id : Nat)
    (h : allot l r s = some (s', id)) : ReactionFrame s s' := by
  unfold allot allotLast at h
  dsimp only at h
  repeat' split at h
  all_goals first
    | exact openStack_reacts _ _ _ _ _ h
    | (simp only [Option.some.injEq, Prod.mk.injEq] at h; rw [← h.1]; exact setLine_reacts _ _ _)
    | cases h
theorem placeFor_reacts (l : Lane) (r : Row) (s s' : State) (id : Nat)
    (h : placeFor l r s = some (s', id)) : ReactionFrame s s' := by
  unfold placeFor at h
  split at h
  · exact allot_reacts _ _ _ _ _ h
  · cases h
theorem passGood_reacts (m : MachineRecord) (l : Lane) (r : Row) (id : Nat) (s : State) :
    ReactionFrame s (passGood m l r id s) :=
  (freezeEntry_reacts _ _ _ s).trans (setDecider_reacts _ _ _ rfl)
theorem passReject_reacts (l : Lane) (r : Row) (x : Reasons) (s : State) :
    ReactionFrame s (passReject l r x s) := by
  unfold passReject
  have h := (freezeEntry_reacts l r.number (.reject x) s).trans
    (setDecider_reacts l ((freezeEntry l r.number (.reject x) s).lnd.get l).rejectFlap _ rfl)
  dsimp only
  split
  · exact h.trans (tallyReject_reacts _ _ _)
  · exact h
theorem judge_reacts (m : MachineRecord) (l : Lane) (r : Row) (x : Reasons) (s : State) :
    ReactionFrame s (judge m l r x s) := by
  unfold judge
  dsimp only
  split
  · exact passReject_reacts _ _ _ _
  · split
    · rename_i h
      exact (placeFor_reacts _ _ _ _ _ h).trans (passGood_reacts _ _ _ _ _)
    · exact passReject_reacts _ _ _ _
theorem laneDecided_reacts (l : Lane) (n : RowNum) (s : State) :
    ReactionFrame s (laneDecided l n s) := by
  refine ReactionFrame.trans (takeDue_reacts ?_ _ s) (passIfJoined_reacts _ _)
  intro k s
  cases k
  · exact jobClose_reacts l s
  · exact stopClose_reacts l s
theorem afterDecision_reacts (n : RowNum) (b : Bool) (s : State) :
    ReactionFrame s (afterDecision n b s) := by
  unfold afterDecision
  (repeat' (first | split | dsimp only)) <;> first
    | exact .refl s
    | exact endTest_reacts s
    | exact freeingTest_reacts s
    | exact (freeingTest_reacts s).trans (endTest_reacts _)
theorem decideRow_reacts (l : Lane) (r : Row) (s : State) : ReactionFrame s (decideRow l r s) := by
  unfold decideRow
  split
  · exact ((judge_reacts _ _ _ _ s).trans (laneDecided_reacts _ _ _)).trans
      (afterDecision_reacts _ _ _)
  · exact .refl s
theorem decideWhileDue_reacts (l : Lane) (n : Nat) (s : State) :
    ReactionFrame s (decideWhileDue l n s) := by
  induction n generalizing s with
  | zero => exact .refl s
  | succ n ih =>
    unfold decideWhileDue
    split
    · exact (decideRow_reacts _ _ s).trans (ih _)
    · exact .refl s
theorem decideTest_reacts (l : Lane) (s : State) : ReactionFrame s (decideTest l s) :=
  decideWhileDue_reacts l _ s
theorem passEndTest_reacts (l : Lane) (s : State) : ReactionFrame s (passEndTest l s) := by
  unfold passEndTest; split
  · exact setDecider_reacts _ _ _ rfl
  · exact .refl s
theorem laneTest_reacts (l : Lane) (s : State) : ReactionFrame s (laneTest l s) :=
  (passEndTest_reacts l s).trans (decideTest_reacts l _)
theorem afterResolution_reacts (b s : State) : ReactionFrame s (afterResolution b s) :=
  (passIfJoined_reacts b s).trans (freeingTest_reacts _)
theorem resolveOldest_reacts (l : Lane) (b : Bool) (s : State) :
    ReactionFrame s (resolveOldest l b s) := by
  unfold resolveOldest; split
  · exact .refl s
  · exact ((setArrivals_reacts _ _ s).trans (resolve_reacts _ _ _ _)).trans
      (afterResolution_reacts _ _)
theorem windowTest_reacts (l : Lane) (s : State) : ReactionFrame s (windowTest l s) := by
  unfold windowTest; split
  · exact resolveOldest_reacts _ _ s
  · exact .refl s
theorem matchEye_reacts (l : Lane) (s : State) : ReactionFrame s (matchEye l s) := by
  unfold matchEye; repeat' split
  · exact setLine_reacts _ _ s
  · exact resolveOldest_reacts _ _ s
  · exact setLine_reacts _ _ s

/-! ### Takeaway -/

theorem handOver_reacts (l : Lane) (b : Bool) (s : State) : ReactionFrame s (handOver l b s) := by
  unfold handOver; split
  · exact queueRecord_reacts _ s
  · exact .refl s
theorem deliver_reacts (c : Conveyor) (l : Lane) (s : State) : ReactionFrame s (deliver c l s) :=
  ((((handOver_reacts l false s).trans (departFront_reacts l _)).trans
    (setConveyor_reacts _ _ _)).trans (grantPass_reacts _)).trans (endTest_reacts _)
theorem remove_reacts (c : Conveyor) (l : Lane) (s : State) : ReactionFrame s (remove c l s) :=
  ((((handOver_reacts l true s).trans (departFront_reacts l _)).trans
    (setConveyor_reacts _ _ _)).trans (raiseTimeout_reacts _ _ _)).trans (endTest_reacts _)

/-! ### The knife -/

theorem fireCut_reacts (g : Bool) (r : Row) (s : State) : ReactionFrame s (fireCut g r s) := by
  unfold fireCut
  refine ReactionFrame.trans (setKnt_reacts _ s ?_) (setTrack_reacts _ _)
  rfl
theorem fireTest_reacts (g : Bool) (s : State) : ReactionFrame s (fireTest g s) := by
  unfold fireTest; split
  · exact fireCut_reacts _ _ s
  · exact .refl s
/-- What `fireTest` leaves as it stands: everything but the knife and the row it fires. -/
@[simp] theorem fireTest_keeps (g : Bool) (s : State) :
    (fireTest g s).trc = s.trc ∧ (fireTest g s).mkt = s.mkt ∧ (fireTest g s).ntp = s.ntp ∧
    (fireTest g s).lnd = s.lnd ∧ (fireTest g s).skc = s.skc ∧ (fireTest g s).tka = s.tka ∧
    (fireTest g s).jbc = s.jbc ∧ (fireTest g s).rnc = s.rnc ∧ (fireTest g s).pxm = s.pxm ∧
    (fireTest g s).rpw = s.rpw ∧ (fireTest g s).choices = s.choices ∧
    (fireTest g s).pending = s.pending := by
  unfold fireTest; split
  · simp [fireCut, setTrack]
  · simp
/-- In HALTED, and where none is raised, `haltPart` is the fault alone; elsewhere the knife's test
follows it. -/
theorem haltPart_eq (h : HaltingFault) (f : Count) (s : State) :
    haltPart h f s = if s.rnc.runState = .run ∨ s.rnc.runState = .drain
      then fireTest false (raiseHalting h f s) else raiseHalting h f s := by
  unfold haltPart raiseHalting
  cases e : s.rnc.runState <;> simp [e]
theorem haltPart_reacts (h : HaltingFault) (f : Count) (s : State) :
    ReactionFrame s (haltPart h f s) := by
  unfold haltPart; dsimp only; split
  · exact raiseHalting_reacts h f s
  · exact (raiseHalting_reacts h f s).trans (fireTest_reacts _ _)
theorem targetAct_reacts (g : Bool) (t : TargetAct) (s : State) :
    ReactionFrame s (targetAct g t s) := by
  cases t
  · exact fireTest_reacts g s
  · exact decideTest_reacts _ s
theorem testTargets_reacts (g k : Bool) (b s : State) : ReactionFrame s (testTargets g k b s) :=
  takeDue_reacts (targetAct_reacts g) _ s
theorem endStroke_reacts (c : Cycle) (t : TrailCut) (b : Bool) (n : Nat) (s : State) :
    ReactionFrame s (endStroke c t b n s) :=
  (setTrack_reacts _ s).trans (setKnt_reacts _ _ rfl)
theorem stallFault_reacts (s : State) : ReactionFrame s (stallFault s) := by
  unfold stallFault; split
  · exact (setKnt_reacts { s.knt with inhibit := true } s rfl).trans (raiseHalting_reacts _ _ _)
  · exact .refl s

/-! ### The tracker -/

theorem createRow_reacts (c : JobContext) (m : MachineRecord) (q : RowRequest) (n : TrackerState)
    (t : List Row) (s : State) : ReactionFrame s (createRow c m q n t s) := by
  unfold createRow
  refine ReactionFrame.trans ?_ (testTargets_reacts _ _ _ _)
  constructor <;> intros <;> simp [trackerAfter]
theorem refuseRow_reacts (s : State) : ReactionFrame s (refuseRow s) := by
  unfold refuseRow
  have h := setMkt_reacts s.mkt.reenter s rfl
  dsimp only
  split
  · exact (h.trans (setRot_reacts _ _)).trans (haltPart_reacts _ _ _)
  · exact h
theorem requestRow_reacts (q : RowRequest) (n : TrackerState) (s : State) :
    ReactionFrame s (requestRow q n s).1 := by
  unfold requestRow; repeat' split
  · exact createRow_reacts _ _ _ _ _ s
  · exact refuseRow_reacts s
  · exact .refl s
theorem countCoast_reacts (j : JobRecord) (x : Count) (s : State) :
    ReactionFrame s (countCoast j x s) := by
  unfold countCoast
  have h := setMkt_reacts { s.mkt with coastCount := riseTo 255 s.mkt.coastCount } s rfl
  (repeat' (first | split | dsimp only))
  · exact .refl s
  · exact h.trans (haltPart_reacts _ _ _)
  · exact h
theorem takeCoast_reacts (x : Count) (s : State) : ReactionFrame s (takeCoast x s) := by
  unfold takeCoast
  split
  · exact .refl s
  · have h := requestRow_reacts ⟨.coasted, nextClass (by assumption : JobContext).job s.mkt, x⟩
      (coastState s.mkt.state) s
    split <;> rename_i he <;> rw [he] at h
    · exact h.trans (countCoast_reacts _ _ _)
    · exact h
theorem coastTest_reacts (s : State) : ReactionFrame s (coastTest s) := by
  unfold coastTest; split
  · exact takeCoast_reacts _ s
  · exact .refl s
theorem takeStray_reacts (s : State) : ReactionFrame s (takeStray s) :=
  (setMkt_reacts { s.mkt with strayCount := riseTo 65535 s.mkt.strayCount } s rfl).trans
    (coastTest_reacts _)
theorem judgeMark_reacts (e : Count) (s : State) : ReactionFrame s (judgeMark e s) := by
  unfold judgeMark; repeat' split
  · exact requestRow_reacts _ _ s
  · exact takeStray_reacts s
  · exact .refl s
theorem keptTest_reacts (s : State) : ReactionFrame s (keptTest s) := by
  unfold keptTest; split
  · exact (setMkt_reacts { s.mkt with deglitch := none } s rfl).trans (judgeMark_reacts _ _)
  · exact .refl s
theorem reacquireTest_reacts (s : State) : ReactionFrame s (reacquireTest s) := by
  unfold reacquireTest; split
  · exact setMkt_reacts _ s rfl
  · exact .refl s
theorem takePoint_markActive (q : Count) (n : Nat) (k : Mkt) :
    (takePoint q n k).markActive = k.markActive := by
  unfold takePoint; repeat' split
  all_goals rfl
theorem handPoint_reacts (q : Count) (n : Nat) (s : State) : ReactionFrame s (handPoint q n s) :=
  (setMkt_reacts _ s (takePoint_markActive _ _ _)).trans (reacquireTest_reacts _)

/-! ### The front and the samples -/

theorem frontAct_reacts (t : FrontAct) (s : State) : ReactionFrame s (frontAct t s) := by
  cases t
  · exact reacquireTest_reacts s
  · exact keptTest_reacts s
  · exact coastTest_reacts s
  · exact fireTest_reacts _ s
  · exact laneTest_reacts _ s
  · exact windowTest_reacts _ s
/-- What a front advance brings about in the blocks leaves the frame (R7). -/
theorem frontAdvance_reacts (s : State) : ReactionFrame s (frontAdvance s) :=
  takeDue_reacts frontAct_reacts _ s
theorem sampleAct_reacts (t : TargetAct) (s : State) : ReactionFrame s (sampleAct t s) := by
  cases t
  · exact fireTest_reacts _ s
  · exact laneTest_reacts _ s

/-! ### Spans -/

theorem visitLane_reacts (n : RowNum) (x : Reason) (a : Collected) (l : Lane) :
    ReactionFrame a.state (visitLane n x a l).state := by
  unfold visitLane; repeat' split
  · exact .refl _
  · exact .refl _
  · exact setTrack_reacts _ _
  · exact suspectMark_reacts _ _ _ _
  · exact .refl _
theorem visitRow_reacts (n : RowNum) (x : Reason) (ls : LaneSet) (a : Collected) :
    ReactionFrame a.state (visitRow n x ls a).state := by
  unfold visitRow
  generalize lanesOf ls = q
  induction q generalizing a with
  | nil => exact .refl _
  | cons l q ih => exact (visitLane_reacts n x a l).trans (ih _)
theorem applyTracked_reacts (a b : Count) (x : SpanReach) (r : Reason) (s : State) :
    ReactionFrame s (applyTracked a b x r s).state := by
  unfold applyTracked
  suffices h : ∀ (q : List Row) (c : Collected), ReactionFrame c.state
      (q.foldl (fun a w => visitRow w.number r (reachIn x w.tag s) a) c).state from
    h _ ⟨s, false, Lanes.fill false⟩
  intro q
  induction q with
  | nil => exact fun _ => .refl _
  | cons w q ih => exact fun c => (visitRow_reacts _ _ _ c).trans (ih _)
theorem holdRemainder_reacts (w : Option WebSpan) (k : LaneSet) (r : SpanReason) (s : State) :
    ReactionFrame s (holdRemainder w k r s).1 := by
  unfold holdRemainder; repeat' split
  all_goals (constructor <;> intros <;> simp)
theorem applySplice_reacts (a b : Count) (s : State) : ReactionFrame s (applySplice a b s) := by
  unfold applySplice; split
  · exact .refl s
  · exact (applyTracked_reacts _ _ _ _ s).trans (holdRemainder_reacts _ _ _ _)

end Sys2Proof.Machine
end

