-- ==== Sys2Proof/Laws/RunControl.lean ====
section
/-! SUPPORT. The Run Controller's shared operations: for each, what it leaves as it stands. -/

namespace Sys2Proof.Machine

/-- What `passIfJoined` leaves as it stands: everything but the lines and the arbiter. -/
@[simp] theorem passIfJoined_keeps (b s : State) :
    (passIfJoined b s).trc = s.trc ∧ (passIfJoined b s).mkt = s.mkt ∧
    (passIfJoined b s).rot = s.rot ∧ (passIfJoined b s).knt = s.knt ∧
    (passIfJoined b s).ntp = s.ntp ∧ (passIfJoined b s).lnd = s.lnd ∧
    (passIfJoined b s).jbc = s.jbc ∧ (passIfJoined b s).rnc = s.rnc ∧
    (passIfJoined b s).pxm = s.pxm ∧ (passIfJoined b s).rpw = s.rpw ∧
    (passIfJoined b s).choices = s.choices ∧ (passIfJoined b s).pending = s.pending := by
  unfold passIfJoined; split <;> simp

/-- What `passIfJoined` leaves in every lane. -/
@[simp] theorem passIfJoined_lane (b s : State) (k : Lane) :
    ((passIfJoined b s).skc.get k).hold = (s.skc.get k).hold ∧
    ((passIfJoined b s).skc.get k).nextId = (s.skc.get k).nextId ∧
    ((passIfJoined b s).skc.get k).targetCurrent = (s.skc.get k).targetCurrent ∧
    ((passIfJoined b s).skc.get k).targetPrevious = (s.skc.get k).targetPrevious ∧
    ((passIfJoined b s).skc.get k).shelfLimit = (s.skc.get k).shelfLimit := by
  unfold passIfJoined; split <;> simp

/-- A conveyor that is not AVAILABLE stays as it is. -/
theorem passIfJoined_busy (b s : State) (c : Conveyor) (h : s.tka.conveyors.get c ≠ .available) :
    (passIfJoined b s).tka.conveyors.get c = s.tka.conveyors.get c := by
  unfold passIfJoined; split
  · rfl
  · exact grantPass_busy c s h

/-- What `missAll` leaves as it stands. -/
@[simp] theorem missAll_keeps (l : Lane) (q : List Arrival) (s : State) :
    (missAll l q s).trc = s.trc ∧ (missAll l q s).mkt = s.mkt ∧ (missAll l q s).knt = s.knt ∧
    (missAll l q s).ntp = s.ntp ∧ (missAll l q s).rnc = s.rnc ∧
    (missAll l q s).choices = s.choices ∧ (missAll l q s).pending = s.pending ∧
    (missAll l q s).pxm.memory = s.pxm.memory ∧ (missAll l q s).pxm.attention = s.pxm.attention ∧
    (missAll l q s).rot.lastNumber = s.rot.lastNumber ∧
    (missAll l q s).jbc.current = s.jbc.current ∧
    (missAll l q s).tka.conveyors = s.tka.conveyors := by
  induction q generalizing s with
  | nil => simp [missAll]
  | cons a q ih => simp [missAll, ih]

/-- What `missAll` leaves in every lane. -/
@[simp] theorem missAll_lane (l : Lane) (q : List Arrival) (s : State) (k : Lane) :
    ((missAll l q s).skc.get k).hold = (s.skc.get k).hold ∧
    ((missAll l q s).skc.get k).nextId = (s.skc.get k).nextId := by
  induction q generalizing s with
  | nil => simp [missAll]
  | cons a q ih => simp [missAll, ih]

/-- `missAll` of a lane's whole list empties that list. -/
theorem missAll_arrivals (l : Lane) (q : List Arrival) (s : State)
    (h : (s.lnd.get l).arrivals = q) : ((missAll l q s).lnd.get l).arrivals = [] := by
  induction q generalizing s with
  | nil => simpa [missAll] using h
  | cons a q ih => exact ih _ (by simp [setArrivals_arrivals])

/-- `missAll` of one lane leaves the other lanes' deciders. -/
theorem missAll_other (l k : Lane) (q : List Arrival) (s : State) (h : k ≠ l) :
    (missAll l q s).lnd.get k = s.lnd.get k := by
  induction q generalizing s with
  | nil => rfl
  | cons a q ih => rw [missAll, ih]; simp [setArrivals, setDecider_get, h]

/-- What `missLane` leaves as it stands. -/
@[simp] theorem missLane_keeps (s : State) (l : Lane) :
    (missLane s l).trc = s.trc ∧ (missLane s l).mkt = s.mkt ∧ (missLane s l).knt = s.knt ∧
    (missLane s l).ntp = s.ntp ∧ (missLane s l).rnc = s.rnc ∧
    (missLane s l).choices = s.choices ∧ (missLane s l).pending = s.pending ∧
    (missLane s l).pxm.memory = s.pxm.memory ∧ (missLane s l).pxm.attention = s.pxm.attention ∧
    (missLane s l).rot.lastNumber = s.rot.lastNumber ∧
    (missLane s l).jbc.current = s.jbc.current ∧
    (missLane s l).tka.conveyors = s.tka.conveyors := by
  simp [missLane]

theorem missAll_reacts (l : Lane) (q : List Arrival) (s : State) :
    ReactionFrame s (missAll l q s) := by
  induction q generalizing s with
  | nil => exact .refl s
  | cons a q ih =>
    exact (((setArrivals_reacts _ _ s).trans (resolve_reacts _ _ _ _)).trans
      (freeingTest_reacts _)).trans (ih _)

theorem missLane_reacts (s : State) (l : Lane) : ReactionFrame s (missLane s l) :=
  missAll_reacts _ _ _

/-- `tallyStopped` changes tallies alone. -/
@[simp] theorem tallyStopped_keeps (s : State) :
    (tallyStopped s).trc = s.trc ∧ (tallyStopped s).mkt = s.mkt ∧ (tallyStopped s).rot = s.rot ∧
    (tallyStopped s).knt = s.knt ∧ (tallyStopped s).ntp = s.ntp ∧ (tallyStopped s).lnd = s.lnd ∧
    (tallyStopped s).skc = s.skc ∧ (tallyStopped s).tka = s.tka ∧ (tallyStopped s).rnc = s.rnc ∧
    (tallyStopped s).pxm = s.pxm ∧ (tallyStopped s).rpw = s.rpw ∧
    (tallyStopped s).choices = s.choices ∧ (tallyStopped s).pending = s.pending ∧
    (tallyStopped s).jbc.closePending = s.jbc.closePending := by
  unfold tallyStopped
  generalize s.rot.track = q
  induction q generalizing s with
  | nil => simp
  | cons r q ih =>
    simp only [List.foldl_cons]
    obtain ⟨h1, h2, h3, h4, h5, h6, h7, h8, h9, h10, h11, h12, h13, h14⟩ :=
      ih (List.foldl (tallyOpen r) s allLanes)
    rw [h1, h2, h3, h4, h5, h6, h7, h8, h9, h10, h11, h12, h13, h14]
    simp only [allLanes, List.foldl_cons, List.foldl_nil, tallyOpen]
    (repeat' split) <;> simp

theorem tallyStopped_reacts (s : State) : ReactionFrame s (tallyStopped s) := by
  constructor <;> intros <;> simp

theorem emptyTrack_reacts (s : State) : ReactionFrame s (emptyTrack s) := by
  constructor <;> intros <;> simp

/-- What `closeAll` leaves as it stands: everything but the lines and the waiting sets. -/
@[simp] theorem closeAll_keeps (k : CloseKind) (s : State) :
    (closeAll k s).trc = s.trc ∧ (closeAll k s).mkt = s.mkt ∧ (closeAll k s).rot = s.rot ∧
    (closeAll k s).knt = s.knt ∧ (closeAll k s).ntp = s.ntp ∧ (closeAll k s).lnd = s.lnd ∧
    (closeAll k s).jbc = s.jbc ∧ (closeAll k s).rnc = s.rnc ∧ (closeAll k s).pxm = s.pxm ∧
    (closeAll k s).rpw = s.rpw ∧ (closeAll k s).choices = s.choices ∧
    (closeAll k s).pending = s.pending ∧ (closeAll k s).tka.conveyors = s.tka.conveyors ∧
    (closeAll k s).tka.reservations = s.tka.reservations := by
  simp [closeAll, allLanes]

/-- What `closeAll` leaves in every lane. -/
@[simp] theorem closeAll_lane (c : CloseKind) (s : State) (k : Lane) :
    ((closeAll c s).skc.get k).hold = (s.skc.get k).hold ∧
    ((closeAll c s).skc.get k).nextId = (s.skc.get k).nextId := by
  simp [closeAll, allLanes]

theorem closeAll_reacts (k : CloseKind) (s : State) : ReactionFrame s (closeAll k s) :=
  foldl_reacts (fun s l => shortClose_reacts k l s) _ s

/-- What `stopCloses` leaves as it stands: everything but the lines and the arbiter. -/
@[simp] theorem stopCloses_keeps (s : State) :
    (stopCloses s).trc = s.trc ∧ (stopCloses s).mkt = s.mkt ∧ (stopCloses s).rot = s.rot ∧
    (stopCloses s).knt = s.knt ∧ (stopCloses s).ntp = s.ntp ∧ (stopCloses s).lnd = s.lnd ∧
    (stopCloses s).jbc = s.jbc ∧ (stopCloses s).rnc = s.rnc ∧ (stopCloses s).pxm = s.pxm ∧
    (stopCloses s).rpw = s.rpw ∧ (stopCloses s).choices = s.choices ∧
    (stopCloses s).pending = s.pending := by
  simp only [stopCloses, allLanes, List.foldl_cons, List.foldl_nil, passIfJoined_keeps]
  (repeat' split) <;> simp

theorem stopCloses_reacts (s : State) : ReactionFrame s (stopCloses s) := by
  refine (foldl_reacts (f := fun a l => if stopWaits l s then a else shortClose .shortStop l a)
    (fun a l => ?_) allLanes s).trans (passIfJoined_reacts _ _)
  split
  · exact .refl a
  · exact shortClose_reacts _ _ a

/-- What steps 1 to 5 of ABORT leave in every lane. -/
@[simp] theorem abandonRun_lane (c : CloseKind) (s : State) (k : Lane) :
    ((abandonRun c s).skc.get k).hold = (s.skc.get k).hold ∧
    ((abandonRun c s).skc.get k).nextId = (s.skc.get k).nextId := by
  simp [abandonRun, allLanes, missLane, endContexts, clearTargets]

/-- Steps 1 to 5 of ABORT keep the frame. -/
theorem abandonRun_reacts (k : CloseKind) (s : State) : ReactionFrame s (abandonRun k s) := by
  unfold abandonRun
  have h1 := foldl_reacts missLane_reacts allLanes s
  have h2 := (h1.trans (tallyStopped_reacts _)).trans (emptyTrack_reacts _)
  have h3 := (h2.trans (closeAll_reacts k _)).trans (passIfJoined_reacts s _)
  refine h3.trans ?_
  constructor <;> intros <;> simp

end Sys2Proof.Machine
end

