-- ==== Sys2Proof/Laws/Commands.lean ====
section
/-! SUPPORT. What a whole command leaves alone: the commands that are reactions of the run keep
`ReactionFrame`, and the notes keep all of it but the page in work, the bursts and the hold flags. -/

namespace Sys2Proof.Machine

/-- The commands whose whole effect is a reaction of the run. -/
def Instr.isReaction : Instr → Bool
  | .markKept | .coast | .reacquirePointReached | .splice | .fire | .knifeFireReassert | .home
  | .stall | .decision _ | .passEnd _ | .windowPassed _ | .eye _ | .delivery _ | .removal _ => true
  | _ => false

theorem home_reacts (s t : State) (h : execHome s = .next t) : ReactionFrame s t := by
  unfold execHome at h
  split at h <;> cases h
  · exact .refl s
  · exact (endStroke_reacts _ _ _ _ s).trans (testTargets_reacts _ _ _ _)
theorem stall_reacts (s t : State) (h : execStall s = .next t) : ReactionFrame s t := by
  unfold execStall at h
  split at h <;> cases h
  · exact .refl s
  · exact (endStroke_reacts _ _ _ _ s).trans ((stallFault_reacts _).trans (testTargets_reacts _ _ _ _))
theorem splice_reacts (s t : State) (h : execSplice s = .next t) : ReactionFrame s t := by
  unfold execSplice at h
  split at h <;> cases h
  · exact .refl s
  · exact .refl s
  · exact (applySplice_reacts _ _ s).trans (handPoint_reacts _ _ _)

/-- A reaction of the run leaves what `ReactionFrame` names. -/
theorem exec_reacts (c : Instr) (s t : State) (hc : Instr.isReaction c = true)
    (h : exec c s = .next t) : ReactionFrame s t := by
  cases c <;> first | (cases hc; done) | skip
  case markKept => cases h; exact keptTest_reacts s
  case coast => cases h; exact coastTest_reacts s
  case reacquirePointReached => cases h; exact reacquireTest_reacts s
  case splice => exact splice_reacts s t h
  case fire => cases h; exact fireTest_reacts _ s
  case knifeFireReassert =>
    simp only [exec, execKnifeFireReassert] at h
    split at h <;> cases h
    · exact setKnt_reacts _ s rfl
    · exact .refl s
    · exact .refl s
  case home => exact home_reacts s t h
  case stall => exact stall_reacts s t h
  case decision l => cases h; exact decideTest_reacts l s
  case passEnd l => cases h; exact passEndTest_reacts l s
  case windowPassed l => cases h; exact windowTest_reacts l s
  case eye l =>
    simp only [exec, execEye] at h
    split at h <;> cases h
    · exact matchEye_reacts l s
    · exact .refl s
  case delivery c =>
    simp only [exec, execDelivery] at h
    split at h <;> cases h
    · exact deliver_reacts c _ s
    · exact .refl s
    · exact .refl s
  case removal c =>
    simp only [exec, execRemoval] at h
    split at h <;> cases h
    · exact remove_reacts c _ s
    · exact .refl s
    · exact .refl s

/-! ### Notes -/

/-- What a note leaves alone: `ReactionFrame` without the page in work, the bursts and the hold flags. -/
structure NoteFrame (s t : State) : Prop where
  trc : t.trc = s.trc
  pending : t.pending = s.pending
  memory : t.pxm.memory = s.pxm.memory
  mask : t.pxm.mask = s.pxm.mask
  tearLatch : t.pxm.tearLatch = s.pxm.tearLatch
  expectedPage : t.ntp.expectedPage = s.ntp.expectedPage
  horizon : t.ntp.horizon = s.ntp.horizon
  lead : t.knt.lead = s.knt.lead
  flapLead : ∀ l, (t.lnd.get l).flapLead = (s.lnd.get l).flapLead
  record : t.rnc.record = s.rnc.record
  waiting : t.pxm.waiting = s.pxm.waiting
  halfWork : t.rpw.halfWork = s.rpw.halfWork

theorem ReactionFrame.note {s t : State} (h : ReactionFrame s t) : NoteFrame s t :=
  ⟨h.trc, h.pending, h.memory, h.mask, h.tearLatch, h.expectedPage, h.horizon, h.lead, h.flapLead,
   h.record, h.waiting, h.halfWork⟩
theorem NoteFrame.refl (s : State) : NoteFrame s s := (ReactionFrame.refl s).note
theorem NoteFrame.trans {s t u : State} (h1 : NoteFrame s t) (h2 : NoteFrame t u) :
    NoteFrame s u :=
  ⟨h2.1.trans h1.1, h2.2.trans h1.2, h2.3.trans h1.3, h2.4.trans h1.4, h2.5.trans h1.5,
   h2.6.trans h1.6, h2.7.trans h1.7, h2.8.trans h1.8, fun l => (h2.9 l).trans (h1.9 l),
   h2.10.trans h1.10, h2.11.trans h1.11, h2.12.trans h1.12⟩

theorem setNoteWork_note (w : List NoteBurst) (s : State) : NoteFrame s (setNoteWork w s) := by
  constructor <;> intros <;> simp
theorem serveRead_note (w : List NoteBurst) (s : State) : NoteFrame s (serveRead w s) := by
  unfold serveRead; constructor <;> intros <;> simp
theorem requestBurst_note (b : BurstSource) (s : State) : NoteFrame s (requestBurst b s) := by
  constructor <;> intros <;> simp
theorem requestTogether_note (b s : State) : NoteFrame s (requestTogether b s) := by
  unfold requestTogether
  split
  · refine NoteFrame.trans (t := withdrawBurst .reports s) ?_ ?_
    · constructor <;> intros <;> simp
    · exact takeDue_rel NoteFrame.refl NoteFrame.trans
        (fun s n => (setChoices_reacts s n).note) (fun t s => requestBurst_note t s) _ _
  · exact requestBurst_note _ s
theorem giveFate_note (b : State) (p : Page) (i : Nat) (w : List NoteBurst) (s : State)
    (f : Fate × Nat) : NoteFrame s (giveFate b p i w (s, f)) := by
  refine NoteFrame.trans ?_ (requestTogether_note b _)
  constructor <;> intros <;> simp
theorem finishNote_note (b : State) (p : PageInWork) (s : State) (f : Fate × Nat) :
    NoteFrame s (finishNote b p (s, f)) := by
  refine NoteFrame.trans ?_ (giveFate_note b _ _ _ _ _)
  constructor <;> intros <;> simp
theorem finishLate_note (b : State) (p : Page) (i : Nat) (s : State) (f : Fate × Nat) :
    NoteFrame s (finishLate b p i (s, f)) := giveFate_note b _ _ _ _ _

theorem setHolds_note (x : LaneSet) (v : Bool) (s : State) : NoteFrame s (setHolds x v s) := by
  unfold setHolds; constructor <;> intros <;> simp
theorem setTargets_note (j : JobRecord) (x : LaneSet) (n : Nat) (s : State) :
    NoteFrame s (setTargets j x n s) := by
  unfold setTargets; constructor <;> intros <;> simp
theorem closeLanes_note (x : LaneSet) (s : State) : NoteFrame s (closeLanes x s) :=
  ((foldl_reacts (fun s l => shortClose_reacts .shortCmd l s) _ s).trans
    (passIfJoined_reacts s _)).note
theorem applyActions_note (j : JobRecord) (x : LaneSet) (a : LaneActions) (n : Nat) (s : State) :
    NoteFrame s (applyActions j x a n s) := by
  have h1 : NoteFrame s (if a.hold then setHolds x true s else s) := by
    split
    · exact setHolds_note _ _ s
    · exact .refl s
  refine h1.trans ?_
  have h2 : ∀ u, NoteFrame u (if a.release then setHolds x false u else u) := by
    intro u; split
    · exact setHolds_note _ _ u
    · exact .refl u
  have h3 : ∀ u, NoteFrame u (if a.closeShort then closeLanes x u else u) := by
    intro u; split
    · exact closeLanes_note _ u
    · exact .refl u
  have h4 : ∀ u, NoteFrame u (if a.target then setTargets j x n u else u) := by
    intro u; split
    · exact setTargets_note _ _ _ u
    · exact .refl u
  exact (h2 _).trans ((h3 _).trans (h4 _))

theorem spanOutcome_reacts (s : State) (n : Note) : ReactionFrame s (spanOutcome s n).1 := by
  unfold spanOutcome; split
  · exact (applyTracked_reacts _ _ _ _ s).trans (holdRemainder_reacts _ _ _ _)
  · exact .refl s
theorem rowOutcome_reacts (s : State) (n : Note) : ReactionFrame s (rowOutcome s n).1 := by
  unfold rowOutcome; split
  · unfold applyRowNote; repeat' split
    all_goals first | exact .refl s | exact visitRow_reacts _ _ _ ⟨s, false, Lanes.fill false⟩
  · exact .refl s
theorem conveyorOutcome_reacts (s : State) (n : Note) : ReactionFrame s (conveyorOutcome s n).1 := by
  unfold conveyorOutcome; split
  · unfold applyConveyorNote; split
    · exact (setConveyor_reacts _ _ s).trans (grantPass_reacts _)
    · exact .refl s
    · exact .refl s
  · exact .refl s
theorem laneOutcome_note (s : State) (n : Note) : NoteFrame s (laneOutcome s n).1 := by
  unfold laneOutcome; split
  · unfold applyLaneNote; split
    · exact .refl s
    · split
      · exact .refl s
      · exact applyActions_note _ _ _ _ s
  · exact .refl s
theorem jobOutcome_reacts (k : Nat) (s : State) : ReactionFrame s (jobOutcome k s).1 := by
  unfold jobOutcome
  split
  · dsimp only; split
    · exact activateJob_reacts _ s
    · exact .refl s
  · dsimp only; split
    · exact changeover_reacts _ s
    · exact .refl s
  · exact .refl s

theorem noteEvent_note (s : State) (p : PageInWork) (f : Note → State × Fate × Nat)
    (h : ∀ n, NoteFrame s (f n).1) : NoteFrame s (noteEvent s p f) := by
  unfold noteEvent; split
  · exact finishNote_note s p _ _
  · exact (h _).trans (finishNote_note s p _ _)

/-- An idle memory is free. -/
theorem MemoryIdle.free {s : State} (h : MemoryIdle s) : freeMemory s = s :=
  freeMemory_self s h.burst h.waiting (beginNext_none s h.halfWork)

/-- What a note leaves of an idle memory is followed by nothing. -/
theorem MemoryIdle.after {s t : State} (h : MemoryIdle s) (n : NoteFrame s t) : afterBurst t = t :=
  afterBurst_idle t (n.waiting.trans h.waiting) (n.halfWork.trans h.halfWork)
theorem MemoryIdle.keeps {s t : State} (h : MemoryIdle s) (n : NoteFrame s t) :
    NoteFrame s (afterBurst t) := by rw [h.after n]; exact n

theorem noteStep_note (k : NoteKind) (f : State → Note → State × Fate × Nat) (s : State)
    (hq : MemoryIdle s) (h : ∀ u n, NoteFrame u (f u n).1) : NoteFrame s (noteStep k f s) := by
  unfold noteStep
  simp only [hq.free]
  (repeat' split) <;> first
    | exact .refl s
    | exact hq.keeps (noteEvent_note s _ (f s) (h s))
    | exact hq.keeps (finishLate_note s _ _ s _)
theorem jobNoteRead_note (b : Nat) (f : State × Fate × Nat → State) (k : Nat → NoteBurst)
    (s : State) (h : ∀ o, NoteFrame s (f (s, o))) : NoteFrame s (jobNoteRead b f k s) := by
  unfold jobNoteRead
  repeat' split
  · exact h _
  · exact serveRead_note _ s
  · exact serveRead_note _ s
  · exact .refl s
  · exact h _
theorem jobNoteStep_note (s : State) (hq : MemoryIdle s) : NoteFrame s (jobNoteStep s) := by
  unfold jobNoteStep
  simp only [hq.free]
  split
  · split
    · exact hq.keeps (jobNoteRead_note _ _ _ s (finishNote_note s _ s))
    · exact .refl s
  · exact hq.keeps ((jobOutcome_reacts _ s).note.trans (finishNote_note s _ _ _))
  · split
    · exact hq.keeps (jobNoteRead_note _ _ _ s (finishLate_note s _ _ s))
    · exact .refl s
  · exact hq.keeps ((jobOutcome_reacts _ s).note.trans (finishLate_note s _ _ _ _))
  · exact .refl s

/-- The commands that apply a note. -/
def Instr.isNote : Instr → Bool
  | .spanNote | .rowNote | .laneNote | .conveyorNote | .jobNote | .badNote => true
  | _ => false

/-- A note leaves what `NoteFrame` names, when the memory is idle. -/
theorem exec_note (c : Instr) (s t : State) (hc : Instr.isNote c = true)
    (hq : MemoryIdle s) (h : exec c s = .next t) : NoteFrame s t := by
  cases c <;> first | (cases hc; done) | skip
  case spanNote => cases h; exact noteStep_note _ _ s hq fun u n => (spanOutcome_reacts u n).note
  case rowNote => cases h; exact noteStep_note _ _ s hq fun u n => (rowOutcome_reacts u n).note
  case laneNote => cases h; exact noteStep_note _ _ s hq laneOutcome_note
  case conveyorNote =>
    cases h; exact noteStep_note _ _ s hq fun u n => (conveyorOutcome_reacts u n).note
  case badNote => cases h; exact noteStep_note _ _ s hq fun u _ => .refl u
  case jobNote => cases h; exact jobNoteStep_note s hq

end Sys2Proof.Machine
end

