-- ==== Sys2Proof/Laws/Memory.lean ====
section
/-! SUPPORT. Exchange memory: a read after a write, and that every memory operation keeps the canonical
form. -/

namespace Sys2Proof.Machine

/-- A byte below every listed address is not listed. -/
theorem Memory.readByte_below {m : Memory} {k a : Nat} (h : Memory.wfFrom m k = true) (ha : a < k) :
    Memory.readByte m a = 0#8 := by
  induction m generalizing k with
  | nil => rfl
  | cons c m ih =>
    obtain ⟨b, v⟩ := c
    simp only [Memory.wfFrom, Bool.and_eq_true, decide_eq_true_eq] at h
    simp only [Memory.readByte]
    rw [if_neg (by omega)]
    exact ih h.2 (by omega)

/-- The lower bound of a canonical list may be lowered. -/
theorem Memory.wfFrom_mono {m : Memory} {k j : Nat} (h : Memory.wfFrom m k = true) (hj : j ≤ k) :
    Memory.wfFrom m j = true := by
  cases m with
  | nil => rfl
  | cons c m =>
    obtain ⟨b, v⟩ := c
    simp only [Memory.wfFrom, Bool.and_eq_true, decide_eq_true_eq] at h ⊢
    exact ⟨⟨⟨by omega, h.1.1.2⟩, h.1.2⟩, h.2⟩

/-- A read after a write of the same byte gives the byte written. -/
theorem Memory.readByte_writeByte_self {m : Memory} {k a : Nat} {v : Byte}
    (h : Memory.wfFrom m k = true) : Memory.readByte (Memory.writeByte m a v) a = v := by
  induction m generalizing k with
  | nil =>
    simp only [Memory.writeByte]
    split <;> simp_all [Memory.readByte]
  | cons c m ih =>
    obtain ⟨b, w⟩ := c
    simp only [Memory.wfFrom, Bool.and_eq_true, decide_eq_true_eq] at h
    simp only [Memory.writeByte]
    split
    · split
      · rename_i hlt hv
        subst hv
        simp only [Memory.readByte]
        rw [if_neg (by omega)]
        exact Memory.readByte_below h.2 (by omega)
      · simp [Memory.readByte]
    · split
      · rename_i he
        subst he
        split
        · rename_i hv
          subst hv
          exact Memory.readByte_below h.2 (by omega)
        · simp [Memory.readByte]
      · simp only [Memory.readByte]
        rw [if_neg (by omega)]
        exact ih h.2

/-- A write of one byte leaves every other byte as it reads. -/
theorem Memory.readByte_writeByte_ne {m : Memory} {a b : Nat} {v : Byte} (hb : b ≠ a) :
    Memory.readByte (Memory.writeByte m a v) b = Memory.readByte m b := by
  induction m with
  | nil =>
    simp only [Memory.writeByte]
    split <;> simp [Memory.readByte, hb]
  | cons c m ih =>
    obtain ⟨d, w⟩ := c
    simp only [Memory.writeByte]
    split
    · split <;> simp [Memory.readByte, hb]
    · split
      · rename_i he
        subst he
        split <;> simp [Memory.readByte, hb]
      · simp only [Memory.readByte, ih]

/-- A write keeps the canonical form. -/
theorem Memory.wfFrom_writeByte {m : Memory} {k a : Nat} {v : Byte} (h : Memory.wfFrom m k = true)
    (hk : k ≤ a) (ha : a < 8192) : Memory.wfFrom (Memory.writeByte m a v) k = true := by
  induction m generalizing k with
  | nil =>
    simp only [Memory.writeByte]
    split
    · rfl
    · rename_i hv
      simp [Memory.wfFrom, Config.memoryBytes, hk, ha, hv]
  | cons c m ih =>
    obtain ⟨b, w⟩ := c
    have h' := h
    simp only [Memory.wfFrom, Bool.and_eq_true, decide_eq_true_eq] at h
    simp only [Memory.writeByte]
    split
    · split
      · exact h'
      · rename_i hlt hv
        simp only [Memory.wfFrom, Bool.and_eq_true, decide_eq_true_eq]
        exact ⟨⟨⟨hk, ha⟩, by simpa using hv⟩, ⟨⟨by omega, h.1.1.2⟩, h.1.2⟩, h.2⟩
    · split
      · rename_i he
        subst he
        split
        · exact Memory.wfFrom_mono h.2 (by omega)
        · rename_i hv
          simp only [Memory.wfFrom, Bool.and_eq_true, decide_eq_true_eq]
          exact ⟨⟨⟨hk, ha⟩, by simpa using hv⟩, h.2⟩
      · simp only [Memory.wfFrom, Bool.and_eq_true, decide_eq_true_eq]
        exact ⟨h.1, ih h.2 (by omega)⟩

/-- A write of one byte of exchange memory keeps the canonical form. -/
theorem Memory.wf_writeByte {m : Memory} {a : Nat} {v : Byte} (h : m.wf = true) (ha : a < 8192) :
    (Memory.writeByte m a v).wf = true :=
  Memory.wfFrom_writeByte h (Nat.zero_le a) ha

/-- A write of one word keeps the canonical form. -/
theorem Memory.wf_writeWord {m : Memory} {a : Nat} {w : Word} (h : m.wf = true)
    (ha : a + 1 < 8192) : (Memory.writeWord m a w).wf = true :=
  Memory.wf_writeByte (Memory.wf_writeByte h (by omega)) ha

/-- A write of consecutive words keeps the canonical form. -/
theorem Memory.wf_writeWords {ws : List Word} {m : Memory} {a : Nat} (h : m.wf = true)
    (ha : a + 2 * ws.length ≤ 8192) : (Memory.writeWords m a ws).wf = true := by
  induction ws generalizing m a with
  | nil => exact h
  | cons w ws ih =>
    simp only [List.length_cons] at ha
    exact ih (Memory.wf_writeWord h (by omega)) (by omega)

/-- A byte read after a write of a word at `a`: the word's bytes at `a` and `a + 1`. -/
theorem Memory.readByte_writeWord {m : Memory} {a : Nat} {w : Word} (h : m.wf = true)
    (ha : a + 1 < 8192) (k : Nat) :
    Memory.readByte (Memory.writeWord m a w) k =
      if k = a then w.extractLsb' 0 8 else if k = a + 1 then w.extractLsb' 8 8
      else Memory.readByte m k := by
  have h1 : (Memory.writeByte m a (w.extractLsb' 0 8)).wf = true := Memory.wf_writeByte h (by omega)
  unfold Memory.writeWord
  by_cases hk : k = a + 1
  · subst hk
    rw [Memory.readByte_writeByte_self h1, if_neg (by omega), if_pos rfl]
  · rw [Memory.readByte_writeByte_ne hk, if_neg hk]
    by_cases hk' : k = a
    · subst hk'
      rw [Memory.readByte_writeByte_self h, if_pos rfl]
    · rw [Memory.readByte_writeByte_ne hk', if_neg hk']

/-- A byte outside the two bytes of a written word reads as before. -/
theorem Memory.readByte_writeWord_ne {m : Memory} {a k : Nat} {w : Word} (h0 : k ≠ a)
    (h1 : k ≠ a + 1) : Memory.readByte (Memory.writeWord m a w) k = Memory.readByte m k := by
  unfold Memory.writeWord
  rw [Memory.readByte_writeByte_ne h1, Memory.readByte_writeByte_ne h0]

/-- A word is put together again from its two bytes. -/
theorem word_of_bytes (w : Word) : w.extractLsb' 8 8 ++ w.extractLsb' 0 8 = w := by
  apply BitVec.eq_of_getLsbD_eq
  intro i hi
  simp only [BitVec.getLsbD_append, BitVec.getLsbD_extractLsb']
  by_cases h : i < 8
  · simp [h]
  · simp only [h, decide_false, Bool.false_and]
    have : i - 8 < 8 := by omega
    simp [this]
    congr 1
    omega

/-- A read of a word after a write of that word gives the word written. -/
theorem Memory.readWord_writeWord_self {m : Memory} {a : Nat} {w : Word} (h : m.wf = true)
    (ha : a + 1 < 8192) : Memory.readWord (Memory.writeWord m a w) a = w := by
  unfold Memory.readWord
  rw [Memory.readByte_writeWord h ha, Memory.readByte_writeWord h ha, if_neg (by omega), if_pos rfl,
    if_pos rfl]
  exact word_of_bytes w

/-- A word apart from a written word reads as before. -/
theorem Memory.readWord_writeWord_ne {m : Memory} {a b : Nat} {w : Word}
    (h : b + 2 ≤ a ∨ a + 2 ≤ b) :
    Memory.readWord (Memory.writeWord m a w) b = Memory.readWord m b := by
  unfold Memory.readWord
  rw [Memory.readByte_writeWord_ne (by omega) (by omega),
    Memory.readByte_writeWord_ne (by omega) (by omega)]

/-- A byte outside a run of written words reads as before. -/
theorem Memory.readByte_writeWords_ne {ws : List Word} {m : Memory} {a k : Nat}
    (h : k < a ∨ a + 2 * ws.length ≤ k) :
    Memory.readByte (Memory.writeWords m a ws) k = Memory.readByte m k := by
  induction ws generalizing m a with
  | nil => rfl
  | cons w ws ih =>
    simp only [List.length_cons] at h
    simp only [Memory.writeWords]
    rw [ih (by omega), Memory.readByte_writeWord_ne (by omega) (by omega)]

/-- A word read within a run of written words is the word written there. -/
theorem Memory.readWord_writeWords {ws : List Word} {m : Memory} {a : Nat} (h : m.wf = true)
    (ha : a + 2 * ws.length ≤ 8192) (i : Nat) (w : Word) (hi : ws[i]? = some w) :
    Memory.readWord (Memory.writeWords m a ws) (a + 2 * i) = w := by
  induction ws generalizing m a i with
  | nil => simp at hi
  | cons x xs ih =>
    simp only [List.length_cons] at ha
    simp only [Memory.writeWords]
    cases i with
    | zero =>
      simp only [List.getElem?_cons_zero, Option.some.injEq] at hi
      subst hi
      unfold Memory.readWord
      rw [Memory.readByte_writeWords_ne (by omega), Memory.readByte_writeWords_ne (by omega)]
      exact Memory.readWord_writeWord_self h (by omega)
    | succ i =>
      simp only [List.getElem?_cons_succ] at hi
      have := ih (m := Memory.writeWord m a x) (a := a + 2) (Memory.wf_writeWord h (by omega))
        (by omega) i hi
      rw [show a + 2 * (i + 1) = a + 2 + 2 * i by omega]
      exact this

/-- Memory after reset has the canonical form. -/
theorem reset_memory_wf : State.reset.pxm.memory.wf = true := by decide

end Sys2Proof.Machine
end

