-- ==== Sys2Proof/Laws/Rows.lean ====
section
/-! SUPPORT. What the decisions, fires and passed windows of one event leave of the track and of the blocks
that made it: outside DRAIN, and with row numbers that differ, every row keeps its place and its points,
and an OPEN entry can only be decided. -/

namespace Sys2Proof.Machine

/-- A row after decisions, fires and freeings: what made it stays, an ended job may retag it, and an OPEN
entry may be decided. -/
structure RowKept (r r' : Row) : Prop where
  number : r'.number = r.number
  jobId : r'.jobId = r.jobId
  origin : r'.origin = r.origin
  mark : r'.mark = r.mark
  lead : r'.lead = r.lead
  cut : r'.cut = r.cut
  fireBase : r'.fireBase = r.fireBase
  leadCut : r'.leadCut = r.leadCut
  tag : r'.tag = r.tag ∨ (r.tag = .previous ∧ r'.tag = .ended)
  entries : ∀ l, r'.entries.get l = r.entries.get l ∨
    (openIn l r = true ∧ ∃ e, r'.entries.get l = some e ∧ e.isOpen = false)

theorem RowKept.refl (r : Row) : RowKept r r :=
  ⟨rfl, rfl, rfl, rfl, rfl, rfl, rfl, rfl, .inl rfl, fun _ => .inl rfl⟩

theorem RowKept.trans {a b c : Row} (h : RowKept a b) (k : RowKept b c) : RowKept a c := by
  refine ⟨k.1.trans h.1, k.2.trans h.2, k.3.trans h.3, k.4.trans h.4, k.5.trans h.5,
    k.6.trans h.6, k.7.trans h.7, k.8.trans h.8, ?_, fun l => ?_⟩
  · rcases h.tag with h1 | ⟨h1, h2⟩ <;> rcases k.tag with k1 | ⟨k1, k2⟩ <;> simp_all
  · rcases h.entries l with h1 | ⟨h1, e, h2, h3⟩
    · rcases k.entries l with k1 | ⟨k1, e, k2, k3⟩
      · exact .inl (k1.trans h1)
      · refine .inr ⟨?_, e, k2, k3⟩
        unfold openIn at k1 ⊢; rw [← h1]; exact k1
    · rcases k.entries l with k1 | ⟨k1, e', k2, k3⟩
      · exact .inr ⟨h1, e, k1.trans h2, h3⟩
      · unfold openIn at k1; rw [h2] at k1; simp [h3] at k1

/-- What decisions, fires and passed windows leave alone outside DRAIN. -/
structure DecideFrame (s t : State) : Prop where
  mkt : t.mkt = s.mkt
  ntp : t.ntp = s.ntp
  runState : t.rnc.runState = s.rnc.runState
  faultCode : t.rnc.faultCode = s.rnc.faultCode
  attention : t.pxm.attention = s.pxm.attention
  lastNumber : t.rot.lastNumber = s.rot.lastNumber
  detector : t.rot.overflowDetector = s.rot.overflowDetector
  rows : List.Forall₂ RowKept s.rot.track t.rot.track
  current : ∀ c, s.jbc.current = some c → ∃ c', t.jbc.current = some c' ∧ c'.job = c.job ∧
    c'.firstRow = c.firstRow ∧ c'.lastRow = c.lastRow

theorem RowKept.refls (q : List Row) : List.Forall₂ RowKept q q :=
  List.forall₂_same.mpr fun r _ => .refl r

theorem RowKept.transs {a b c : List Row} (h : List.Forall₂ RowKept a b)
    (k : List.Forall₂ RowKept b c) : List.Forall₂ RowKept a c := by
  induction h generalizing c with
  | nil => cases k; exact .nil
  | cons h1 _ ih => cases k with | cons k1 k2 => exact .cons (h1.trans k1) (ih k2)

theorem RowKept.numbers {a b : List Row} (h : List.Forall₂ RowKept a b) :
    b.map (fun r => r.number) = a.map fun r => r.number := by
  induction h with
  | nil => rfl
  | cons h1 _ ih => simp [h1.number, ih]

/-- The premises under which decisions keep the frame. -/
def Steady (s : State) : Prop := s.rnc.runState ≠ .drain ∧ (trackNumbers s).Nodup

/-- Under the premises, the frame is kept. -/
def Decides (s t : State) : Prop := Steady s → DecideFrame s t

theorem DecideFrame.steady {s t : State} (h : DecideFrame s t) (hs : Steady s) : Steady t := by
  refine ⟨h.runState ▸ hs.1, ?_⟩
  unfold trackNumbers
  rw [RowKept.numbers h.rows]
  exact hs.2

theorem Decides.refl (s : State) : Decides s s := fun _ =>
  ⟨rfl, rfl, rfl, rfl, rfl, rfl, rfl, RowKept.refls _, fun c h => ⟨c, h, rfl, rfl, rfl⟩⟩

theorem Decides.trans {s t u : State} (h : Decides s t) (k : Decides t u) : Decides s u := by
  intro hs
  have h1 := h hs
  have k1 := k (h1.steady hs)
  refine ⟨k1.1.trans h1.1, k1.2.trans h1.2, k1.3.trans h1.3, k1.4.trans h1.4, k1.5.trans h1.5,
    k1.6.trans h1.6, k1.7.trans h1.7, RowKept.transs h1.rows k1.rows, fun c hc => ?_⟩
  obtain ⟨c1, e1, e2, e3, e4⟩ := h1.current c hc
  obtain ⟨c2, f1, f2, f3, f4⟩ := k1.current c1 e1
  exact ⟨c2, f1, f2.trans e2, f3.trans e3, f4.trans e4⟩

/-- An operation that leaves all of it as it stands keeps the frame. -/
theorem Decides.of_eq {s t : State} (h1 : t.mkt = s.mkt) (h2 : t.ntp = s.ntp)
    (h3 : t.rnc.runState = s.rnc.runState) (h4 : t.rnc.faultCode = s.rnc.faultCode)
    (h5 : t.pxm.attention = s.pxm.attention) (h6 : t.rot = s.rot)
    (h7 : t.jbc.current = s.jbc.current) : Decides s t := fun _ =>
  ⟨h1, h2, h3, h4, h5, by rw [h6], by rw [h6], by rw [h6]; exact RowKept.refls _,
    fun c hc => ⟨c, h7.trans hc, rfl, rfl, rfl⟩⟩

theorem setChoices_decides (s : State) (n : Nat) : Decides s (s.setChoices n) :=
  .of_eq rfl rfl rfl rfl rfl rfl rfl
theorem setDecider_decides (l : Lane) (x : Lnd) (s : State) : Decides s (setDecider l x s) := by
  apply Decides.of_eq <;> simp
theorem shortClose_decides (k : CloseKind) (l : Lane) (s : State) :
    Decides s (shortClose k l s) := by apply Decides.of_eq <;> simp
theorem grantPass_decides (s : State) : Decides s (grantPass s) := by
  apply Decides.of_eq <;> simp
theorem passIfJoined_decides (b s : State) : Decides s (passIfJoined b s) := by
  apply Decides.of_eq <;> simp
theorem queueRecord_decides (r : Record) (s : State) : Decides s (queueRecord r s) := by
  apply Decides.of_eq <;> simp
theorem jobClose_decides (l : Lane) (s : State) : Decides s (jobClose l s) := by
  apply Decides.of_eq <;> simp [jobClose, dropClosePending]
theorem stopClose_decides (l : Lane) (s : State) : Decides s (stopClose l s) := by
  apply Decides.of_eq <;> simp [stopClose]

/-- The tallies of a context rise and nothing else of it changes. -/
theorem tallyReject_decides (t : JobTag) (r : Reason) (s : State) :
    Decides s (tallyReject t r s) := fun _ => by
  have h : (tallyReject t r s).rot = s.rot := by simp
  refine ⟨by simp, by simp, ?_, ?_, ?_, by rw [h], by rw [h], by rw [h]; exact RowKept.refls _,
    fun c hc => ?_⟩
  iterate 3 · cases t <;> rfl
  · cases t
    · exact ⟨c.raise r, by simp [tallyReject, hc], rfl, rfl, rfl⟩
    · exact ⟨c, by simpa [tallyReject] using hc, rfl, rfl, rfl⟩
    · exact ⟨c, hc, rfl, rfl, rfl⟩

/-- A map of the track's rows that keeps each row keeps the frame. -/
theorem setTrack_decides (f : Row → Row) (s : State)
    (h : Steady s → ∀ r ∈ s.rot.track, RowKept r (f r)) :
    Decides s (setTrack (s.rot.track.map f) s) := fun hs => by
  refine ⟨rfl, rfl, rfl, rfl, rfl, rfl, rfl, ?_, fun c hc => ⟨c, hc, rfl, rfl, rfl⟩⟩
  show List.Forall₂ RowKept s.rot.track (s.rot.track.map f)
  rw [List.forall₂_map_right_iff]
  exact List.forall₂_same.mpr (h hs)

theorem freePrevious_decides (c : JobContext) (s : State) : Decides s (freePrevious c s) := by
  have h := queueRecord_decides (jobEndRecord c) s
  generalize hu : queueRecord (jobEndRecord c) s = u at h
  have k : Decides u (setTrack (retag .previous .ended u.rot.track) u) := by
    refine setTrack_decides _ u fun _ r _ => ?_
    split
    · exact ⟨rfl, rfl, rfl, rfl, rfl, rfl, rfl, rfl, .inr ⟨by assumption, rfl⟩,
        fun _ => .inl rfl⟩
    · exact .refl r
  refine h.trans (k.trans ?_)
  unfold freePrevious
  rw [hu]
  apply Decides.of_eq <;> simp
theorem freeingTest_decides (s : State) : Decides s (freeingTest s) := by
  unfold freeingTest; repeat' split
  · exact .refl s
  · exact freePrevious_decides _ s
  · exact .refl s
/-- Outside DRAIN the end test does nothing. -/
theorem endTest_decides (s : State) : Decides s (endTest s) := by
  intro hs
  have : drainOver s = false := by
    have := hs.1
    unfold drainOver
    cases h : s.rnc.runState <;> simp_all
  unfold endTest; rw [this]; exact Decides.refl s hs

/-! ### Decisions -/

/-- The only row of the track with a row's number is that row. -/
theorem unique_row {s : State} (h : (trackNumbers s).Nodup) {r q : Row} (hr : r ∈ s.rot.track)
    (hq : q ∈ s.rot.track) (he : q.number = r.number) : q = r :=
  List.inj_on_of_nodup_map h hq hr he

theorem freezeEntry_decides (l : Lane) (r : Row) (e : LaneEntry) (s : State)
    (hr : r ∈ s.rot.track) (ho : openIn l r = true) (he : e.isOpen = false) :
    Decides s (freezeEntry l r.number e s) := by
  refine setTrack_decides _ s fun hs q hq => ?_
  split
  · rename_i hn
    have hqr := unique_row hs.2 hr hq hn
    subst hqr
    refine ⟨rfl, rfl, rfl, rfl, rfl, rfl, rfl, rfl, .inl rfl, fun k => ?_⟩
    by_cases hk : k = l
    · subst hk; exact .inr ⟨ho, e, by simp, he⟩
    · exact .inl (Lanes.get_set_ne _ _ hk)
  · exact .refl q

theorem openStack_keeps (l : Lane) (r : Row) (s s' : State) (id : Nat)
    (h : openStack l r s = some (s', id)) : ∃ x, s' = setLane l x s := by
  unfold openStack at h
  dsimp only at h
  split at h
  · cases h
  · simp only [Option.some.injEq, Prod.mk.injEq] at h
    exact ⟨_, h.1.symm⟩
/-- An allotment changes the lane's line and ids alone. -/
theorem allot_keeps (l : Lane) (r : Row) (s s' : State) (id : Nat)
    (h : allot l r s = some (s', id)) : ∃ x, s' = setLane l x s := by
  unfold allot at h
  dsimp only at h
  repeat' split at h
  all_goals first
    | exact openStack_keeps l r s s' id h
    | (unfold allotLast setLine at h; simp only [Option.some.injEq, Prod.mk.injEq] at h
       exact ⟨_, h.1.symm⟩)
    | cases h
theorem placeFor_keeps (l : Lane) (r : Row) (s s' : State) (id : Nat)
    (h : placeFor l r s = some (s', id)) : ∃ x, s' = setLane l x s := by
  unfold placeFor at h
  split at h
  · exact allot_keeps l r s s' id h
  · cases h

theorem passReject_decides (l : Lane) (r : Row) (x : Reasons) (s : State)
    (hr : r ∈ s.rot.track) (ho : openIn l r = true) : Decides s (passReject l r x s) := by
  unfold passReject
  refine (freezeEntry_decides l r (.reject x) s hr ho rfl).trans ?_
  dsimp only
  split
  · exact (setDecider_decides _ _ _).trans (tallyReject_decides _ _ _)
  · exact setDecider_decides _ _ _
theorem judge_decides (m : MachineRecord) (l : Lane) (r : Row) (x : Reasons) (s : State)
    (hr : r ∈ s.rot.track) (ho : openIn l r = true) : Decides s (judge m l r x s) := by
  unfold judge
  dsimp only
  split
  · exact passReject_decides l r _ s hr ho
  · split
    · rename_i s1 id h
      obtain ⟨y, rfl⟩ := placeFor_keeps l r s s1 id h
      refine Decides.trans (t := setLane l y s) (by apply Decides.of_eq <;> simp) ?_
      unfold passGood
      refine Decides.trans (freezeEntry_decides l r (.good id) _ (by simpa using hr) ho rfl) ?_
      exact setDecider_decides _ _ _
    · exact passReject_decides l r _ s hr ho
theorem laneDecided_decides (l : Lane) (n : RowNum) (s : State) :
    Decides s (laneDecided l n s) := by
  unfold laneDecided
  refine Decides.trans ?_ (passIfJoined_decides _ _)
  refine takeDue_rel Decides.refl Decides.trans setChoices_decides (fun t u => ?_) _ s
  cases t
  · exact jobClose_decides l u
  · exact stopClose_decides l u
theorem afterDecision_decides (n : RowNum) (b : Bool) (s : State) :
    Decides s (afterDecision n b s) := by
  have h : Decides s (if rowDecided n s then freeingTest s else s) := by
    split
    · exact freeingTest_decides s
    · exact .refl s
  unfold afterDecision
  dsimp only
  split
  · exact h.trans (endTest_decides _)
  · exact h
theorem decideRow_decides (l : Lane) (r : Row) (s : State) (hr : r ∈ s.rot.track)
    (ho : openIn l r = true) : Decides s (decideRow l r s) := by
  unfold decideRow
  split
  · exact (judge_decides _ l r _ s hr ho).trans
      ((laneDecided_decides _ _ _).trans (afterDecision_decides _ _ _))
  · exact .refl s
theorem dueRow_mem {l : Lane} {s : State} {r : Row} (h : dueRow l s = some r) :
    r ∈ s.rot.track ∧ openIn l r = true := by
  unfold dueRow at h
  split at h
  · split at h
    · cases h
      rename_i hn _
      exact ⟨List.mem_of_find?_eq_some hn, by simpa using List.find?_some hn⟩
    · cases h
  · cases h
theorem decideWhileDue_decides (l : Lane) (n : Nat) (s : State) :
    Decides s (decideWhileDue l n s) := by
  induction n generalizing s with
  | zero => exact .refl s
  | succ n ih =>
    unfold decideWhileDue
    split
    · rename_i r h
      exact (decideRow_decides l r s (dueRow_mem h).1 (dueRow_mem h).2).trans (ih _)
    · exact .refl s
theorem decideTest_decides (l : Lane) (s : State) : Decides s (decideTest l s) :=
  decideWhileDue_decides l _ s
theorem passEndTest_decides (l : Lane) (s : State) : Decides s (passEndTest l s) := by
  unfold passEndTest; split
  · exact setDecider_decides _ _ s
  · exact .refl s
theorem laneTest_decides (l : Lane) (s : State) : Decides s (laneTest l s) :=
  (passEndTest_decides l s).trans (decideTest_decides l _)

/-! ### Fires -/

theorem fireCut_decides (g : Bool) (r : Row) (s : State) : Decides s (fireCut g r s) := by
  unfold fireCut
  dsimp only
  generalize hk : s.setKnt _ = u
  have h : Decides s u := by subst hk; exact .of_eq rfl rfl rfl rfl rfl rfl rfl
  refine h.trans (setTrack_decides _ u fun _ q _ => ?_)
  split
  · exact ⟨rfl, rfl, rfl, rfl, rfl, rfl, rfl, rfl, .inl rfl, fun _ => .inl rfl⟩
  · exact .refl q
theorem fireTest_decides (g : Bool) (s : State) : Decides s (fireTest g s) := by
  unfold fireTest; split
  · exact fireCut_decides _ _ s
  · exact .refl s
theorem targetAct_decides (g : Bool) (t : TargetAct) (s : State) :
    Decides s (targetAct g t s) := by
  cases t
  · exact fireTest_decides g s
  · exact decideTest_decides _ s
/-- The fires and decisions that follow an event keep the frame. -/
theorem testTargets_decides (g k : Bool) (b s : State) : Decides s (testTargets g k b s) :=
  takeDue_rel Decides.refl Decides.trans setChoices_decides (targetAct_decides g) _ s

end Sys2Proof.Machine
end

