-- ==== Sys2Proof/Tests/Slice0.lean ====
section
/-! SUPPORT. Small tests of single commands, their expected results taken from the worked sequences and
tables of spec/ (each test names its source); the smoke test of WellFormed; and for every statement with
hypotheses a concrete state and operands that meet them (witness theorems). -/

namespace Sys2Proof.Tests

open Sys2Proof.Machine

set_option Elab.async false

/-! ### Small states -/

/-- The state a command leaves; the state itself where it stops. -/
def after (c : Instr) (s : State) : State :=
  match exec c s with
  | .next t => t
  | _ => s

/-- The machine record of the worked sequences of chapters 2 to 7. -/
def mach : MachineRecord :=
  { dCam := 20000, dKnife := 16250, kFlap := Lanes.fill 6000, kEye := Lanes.fill 9000,
    eyeTol := 60, dSplice := 30000, spliceMargin := 2000, knifeLatency := 3200,
    flapLatency := 3200, leadMax := 4000, knifeTimeout := 40, conveyorOfLane := ⟨0, 0, 1, 1⟩,
    conveyorTimeout := 50, lanePriority := ⟨2, 2, 5, 5⟩, vCrawl := 30, vOver := 180,
    zoneHyst := 5, reverseLimit := 400, reportAge := 250 }

/-- Two words of a number. -/
def two (n : Nat) : List Word := countWords (BitVec.ofNat 32 n)

/-- The same record laid out by the table of chapter 12. -/
def machineWords : List Word :=
  two 20000 ++ two 16250 ++ two 6000 ++ two 6000 ++ two 6000 ++ two 6000 ++ two 9000 ++ two 9000 ++
  two 9000 ++ two 9000 ++ two 30000 ++
  [60#16, 2000#16, 3200#16, 3200#16, 4000#16, 30#16, 180#16, 400#16, 250#16, 0x3228#16, 0#16,
   0x0101#16, 0x0202#16, 0x0505#16, 5#16]

/-- Exchange memory that holds the machine record. -/
def machMem : Memory := Memory.writeWords [] 0x40 machineWords

/-- The job of the worked sequences, on two lanes. -/
def job : JobRecord :=
  { jobId := 310, lanes := 2, dualPitch := false, coastAccept := false, pitchA := 1524,
    pitchB := 0, offsetA := 1400, offsetB := 0, markWindow := 40, knifeTol := 24, markMin := 6,
    coastLimit := 2,
    lane := ⟨⟨100, 1000, 200, 4⟩, ⟨1100, 2000, 200, 4⟩, ⟨0, 0, 0, 0⟩, ⟨0, 0, 0, 0⟩⟩ }

/-- The same job in slot 3, laid out by the table of chapter 12. -/
def jobMem : Memory := Memory.writeWords [] (0x100 + 96 * 3)
  [310#16, 2#16, 1524#16, 0#16, 1400#16, 0#16, 40#16, 24#16, 0x0206#16, 100#16, 1000#16, 1100#16,
   2000#16, 0#16, 0#16, 0#16, 0#16, 200#16, 200#16, 0#16, 0#16, 0x0404#16]

/-- The job held with its rows. -/
def context : JobContext := ⟨job, some 1#32, some 100#32, zeroTallies⟩

/-- The state with the web and the front at a count. -/
def webAt (f : Count) (s : State) : State := s.setTrc { s.trc with web := f, front := f }

/-- The state in a run state. -/
def runIn (r : RunState) (s : State) : State := s.setRnc { s.rnc with runState := r }

/-- The machine record is in use, in OFF. -/
def recorded : State := State.reset.setRnc { Rnc.reset with record := some mach }

/-- RUN with the job CURRENT, the zone RUN and no row. -/
def inRun : State :=
  runIn .run ((recorded.setJbc { Jbc.reset with current := some context }).setTrc
    { Trc.reset with zone := .run })

/-- HALTED with the job CURRENT. -/
def halted : State :=
  (runIn .halted inRun).setRnc { (runIn .halted inRun).rnc with faultCode := some .encoder }

/-- A SENSED row of the job with both entries OPEN. -/
def row (n : RowNum) (mark lead cut base : Count) (lc : Option LeadCut) (tr : TrailCut) : Row :=
  { number := n, tag := .current, jobId := 310, origin := .sensed, mark := mark, lead := lead,
    cut := cut, fireBase := base, trail := tr, leadCut := lc,
    entries := ⟨some (.undecided noReasons), some (.undecided noReasons), none, none⟩ }

/-- The state with a track whose newest row is the last issued. -/
def tracked (rows : List Row) (s : State) : State :=
  s.setRot { track := rows, lastNumber := (rows.getLast?.map fun r => r.number).getD 0#32,
             overflowDetector := .armed }

/-- Row 100 of the worked sequences. -/
def row100 : Row := row 100#32 1000000#32 999876#32 1001400#32 1017650#32 none .pending

/-- LOCKED on row 100. -/
def locked : State :=
  (tracked [row100] inRun).setMkt { Mkt.reset with
    state := .locked, newest := some ⟨1000000#32, .a, .sensed, 1001400#32, 1017650#32⟩,
    expected := some 1001524#32 }

/-- A deglitch in progress from an edge, with MARK active. -/
def deglitching (e : Count) (s : State) : State :=
  s.setMkt { s.mkt with markActive := true, deglitch := some ⟨e, 6⟩ }

/-- The knife has a stroke in flight for a row fired at a count. -/
def stroke (n : RowNum) (f : Count) (s : State) : State :=
  s.setKnt { s.knt with cycle := some ⟨n, f, 0, false, 40, true⟩, lastFire := some f,
                        output := .asserted }

/-- The knife lead and the flap leads at v = 50. -/
def led (s : State) : State :=
  (s.setKnt { s.knt with lead := 160 }).setLnd (s.lnd.map fun x => { x with flapLead := 160 })

/-- A stack of the job. -/
def stack (id target allotted arrived : Nat) (st : StackState) : Stack :=
  { id := id, jobId := 310, target := target, allotted := allotted, arrived := arrived,
    missing := 0, extra := 0, suspect := 0, firstRow := 1#32, lastRow := 100#32,
    firstSuspect := none, state := st, closeKind := none, closePoint := none, conveyor := none }

/-- Lane 0 of the Stack Controller and of the deciders. -/
def lane0 (line : List Stack) (next : Nat) (arrivals : List Arrival) (s : State) : State :=
  (s.setSkc (s.skc.set .l0 { s.skc.l0 with
      line := line, nextId := next, targetCurrent := some 200, shelfLimit := 4 })).setLnd
    (s.lnd.set .l0 { s.lnd.l0 with arrivals := arrivals })

/-- Page A with notes of eight words each. -/
def pageA (count : Word) (hc : Nat) (notes : List Word) : Memory :=
  Memory.writeWords [] 0x400 ([1#16, count, 0#16, 0#16] ++ two hc ++ [0#16, 0#16] ++ notes)

/-- A SPAN note. -/
def spanWords (wc : Nat) (len x0 width : Word) : List Word :=
  [1#16, 0#16] ++ two wc ++ [len, x0, width, 0#16]

/-- A ROW note. -/
def rowWords (n : Nat) (mask : Word) : List Word := [2#16, 0#16] ++ two n ++ [mask, 0#16, 0#16, 0#16]

/-- Page A is in work and its next note is to be read. -/
def reading (m : Memory) (count next : Nat) (s : State) : State :=
  (s.setNtp { s.ntp with inWork := some ⟨.a, count, 983300#32, next⟩, work := [.noteRead] }).setPxm
    { s.pxm with memory := m, requests := [.notes] }

/-- The Note Processor's next burst. -/
def noting (b : NoteBurst) (s : State) : State :=
  (s.setNtp { s.ntp with work := [b] }).setPxm { s.pxm with requests := [.notes] }

/-- The Report Writer fills half A with a record waiting. -/
def filling (r : Record) (index : Nat) (s : State) : State :=
  (s.setRpw { s.rpw with writer := .filling .a, fillIndex := index, queue := [r],
                         ageTimer := some 250 }).setPxm
    { s.pxm with requests := [.reports] }

/-- Conveyor 0 pushes lane 0, whose line begins with a stack PUSHING on it. -/
def pushing (rest : List Stack) (s : State) : State :=
  (lane0 ({ stack 40 200 200 200 .pushing with conveyor := some .c0 } :: rest) 43 [] s).setTka
    { Tka.reset with conveyors := ⟨.pushing .l0 5000, .available⟩, reservations := 1 }

/-- A burst of a source, one word into page A's header, has the memory. -/
def burstOf (b : BurstSource) (s : State) : State :=
  s.setPxm { s.pxm with burst := some ⟨b, [⟨0x404, 7#16⟩]⟩ }

/-- A burst of the Note Processor has the memory. -/
def bursting (s : State) : State := burstOf .notes s

/-- A press-controller access is held by WAIT while the burst has the memory. -/
def held (x : PressAccess) (s : State) : State :=
  (bursting s).setPxm { (bursting s).pxm with waiting := [x] }

/-- Burst requests that wait, in their order. -/
def asking (q : List BurstSource) (s : State) : State := s.setPxm { s.pxm with requests := q }

/-! ### The table, and the forms of a row -/

/-- spec/opcode_table.json gives no row bits. -/
theorem test_no_word_spells_a_command : decodeTableWord 16 0x5A12 = none := by decide

/-- WellFormed refuses a BAD_CODE write of a command code, 1 and 5 at the ends of the range (R156). -/
theorem test_badCode_illFormed :
    (Instr.badCode 0x0001#16).wellFormed = false ∧ (Instr.badCode 0xAB05#16).wellFormed = false ∧
    (Instr.badCode 0x0100#16).wellFormed = true ∧ (Instr.badCode 6#16).wellFormed = true := by decide

/-- WellFormed refuses a MEMORY_WRITE of a watched word (R169): bytes 0x0400, 0x0800, 0x1000, 0x1800. -/
theorem test_memoryWrite_illFormed :
    (Instr.memoryWrite 0x200#12 1#16).wellFormed = false ∧
    (Instr.memoryWrite 0x400#12 1#16).wellFormed = false ∧
    (Instr.memoryWrite 0x800#12 0#16).wellFormed = false ∧
    (Instr.memoryWrite 0xC00#12 0#16).wellFormed = false ∧
    (Instr.memoryWrite 0x201#12 1#16).wellFormed = true := by decide

/-- The machine record layout of chapter 12. -/
theorem test_machine_record_layout : readMachineRecord machMem = mach := by decide +kernel

/-- The job record layout of chapter 12; the job is valid (R144, R145). -/
theorem test_job_record_layout :
    readJobRecord jobMem 3 = job ∧ jobIndex job mach = none := by decide +kernel

/-- The sentence of R19: 1527 against 1524 at 65536 gives 65552. -/
theorem test_stretch : stretchUpdate 65536 1527 1524 = 65552 := by decide

/-- The sentence of R103: 160 at v = 50 and 192 at v = 60. -/
theorem test_leads : leadOf 50 3200 4000 = 160 ∧ leadOf 60 3200 4000 = 192 := by decide

/-! ### Run control and the port -/

theorem test_powerOnReset : (after .powerOnReset inRun).rnc.runState = .off ∧
    (after .powerOnReset inRun).rnc.record = none := by decide +kernel

/-- R156, R167: RESTART is recorded, and ATTENTION.CMD is clear. -/
theorem test_restart : (after .restart inRun).rnc.lastCommand = some 5#8 ∧
    (after .restart inRun).pxm.attention.cmd = false := by decide +kernel

/-- R170, R176: a RESTART that cuts a burst off before its word leaves the word that stood there, and the
access WAIT held is still to be served. -/
theorem test_restart_cutsOff :
    let t := after .restart (held (.read 3#12) inRun)
    t.pxm.burst = none ∧ t.pxm.waiting = [.read 3#12] ∧ wait t = false := by decide +kernel

/-- R157, R170: behind a page taking posted before it, START requests its machine record burst. -/
theorem test_start_waits :
    (after .start (asking [.notes] State.reset)).pxm.requests = [.notes, .machine] ∧
    (after .start (asking [.notes] State.reset)).rnc.lastCommand = none := by decide +kernel

/-- R60: START forms the lead from the v in effect and the values it has read. -/
theorem test_start_valid :
    let t := after .start ((State.reset.setPxm { Pxm.reset with memory := machMem }).setTrc
      { Trc.reset with speed := 50 })
    t.rnc.runState = .ready ∧ t.knt.lead = 160 := by decide +kernel

/-- R157: every field 0, so d_knife, index 2, is the first field that fails. -/
theorem test_start_invalid : (after .start State.reset).rnc.runState = .off ∧
    (after .start State.reset).rnc.configIndex = 2 := by decide +kernel

/-- R159: with an OPEN row the part drains. -/
theorem test_stop : (after .stop locked).rnc.runState = .drain ∧
    (after .stop locked).rnc.stopPending = ⟨true, true, false, false⟩ := by decide +kernel

theorem test_abort : (after .abort locked).rnc.runState = .ready ∧
    (after .abort locked).rot.track = [] := by decide +kernel

/-- R156: ACK_FAULT with the standstill count at 200. -/
theorem test_ackFault :
    (after .ackFault (halted.setTrc { halted.trc with standstill := 200 })).rnc.runState = .ready := by
  decide +kernel

theorem test_ackFault_moving :
    (after .ackFault (halted.setTrc { halted.trc with standstill := 199 })).rnc.result = .refused := by
  decide +kernel

/-- R156: code 0 is a bad code, and the high byte is ignored. -/
theorem test_badCode : (after (.badCode 0x0100#16) inRun).rnc.lastCommand = some 0#8 ∧
    (after (.badCode 0x0100#16) inRun).rnc.result = .badCode := by decide +kernel

/-- R173: a write of 1 clears its flag alone. -/
theorem test_attentionWrite :
    (after (.attentionWrite 2#16) (State.reset.setPxm { Pxm.reset with
      attention := ⟨true, true, false, true, false⟩ })).pxm.attention =
    ⟨true, false, false, true, false⟩ := by decide

/-- R174: enabling a flag already set asserts IRQ at once. -/
theorem test_attnMaskWrite :
    irq (after (.attnMaskWrite 4#16) (State.reset.setPxm { Pxm.reset with
      attention := ⟨false, false, true, false, false⟩ })) = true := by decide

theorem test_registerWriteIgnored :
    after (.registerWriteIgnored .ident 0xFFFF#16) inRun = inRun := by decide +kernel

/-- Memory with F = 0x0003_0003 in live status, and the latch loaded with F's old high word (chapter 10,
worked sequence). -/
def torn : State := State.reset.setPxm { Pxm.reset with
  memory := Memory.writeWords [] 4 [3#16, 3#16], tearLatch := some (.front, 2#16) }

/-- The read of F high after the refresh returns the latched 0x0002. -/
theorem test_memoryRead_latched : (after (.memoryRead 3#12) torn).pxm.dataOut = 2#16 := by
  decide +kernel

/-- After a read of W low, the read of F high returns memory. -/
theorem test_memoryRead_moved :
    (after (.memoryRead 3#12) (after (.memoryRead 0#12) torn)).pxm.dataOut = 3#16 := by decide +kernel

/-- R183: the low byte lies at the lower address. -/
theorem test_memoryWrite :
    (after (.memoryWrite 0x020#12 0x1234#16) State.reset).pxm.memory =
      [(0x40, 0x34#8), (0x41, 0x12#8)] := by decide +kernel

/-- R79: POSTED in the expected page with no page in work outside OFF. -/
theorem test_notePagePosting :
    (after (.notePagePosting .a 1#16) inRun).ntp.work = [.pageTaking] := by decide +kernel

/-- R178: EMPTY in the half the writer is WAITING for. -/
theorem test_halfFreeing : (after (.halfFreeing .a 0#16) State.reset).rpw.writer = .filling .a ∧
    (after (.halfFreeing .a 0#16) State.reset).pxm.memory = [(0x1000, 1#8)] := by decide +kernel

theorem test_resetnRelease :
    (after .resetnRelease (after .powerOnReset inRun)).pxm.resetAsserted = false := by decide +kernel

/-! ### Travel and speed (chapter 1, worked sequences) -/

/-- Re-travel: 1 000 000 is reached again with no front advance. -/
theorem test_forwardCount_retravel :
    let t := after .forwardCount (inRun.setTrc
      { inRun.trc with web := 999999#32, front := 1000000#32, reverseDetector := .spent })
    t.trc.web = 1000000#32 ∧ t.trc.front = 1000000#32 ∧ t.trc.reverseDetector = .spent := by
  decide +kernel

/-- One further forward count moves W and F together and arms the detector. -/
theorem test_forwardCount_front :
    let t := after .forwardCount (webAt 1000000#32 (inRun.setTrc
      { inRun.trc with reverseDetector := .spent }))
    t.trc.web = 1000001#32 ∧ t.trc.front = 1000001#32 ∧ t.trc.reverseDetector = .armed := by
  decide +kernel

/-- One more reverse count, at 401 behind the front with reverse_limit = 400. -/
theorem test_reverseCount_limit :
    let t := after .reverseCount (inRun.setTrc
      { inRun.trc with web := 999720#32, front := 1000120#32 })
    t.trc.web = 999719#32 ∧ t.trc.reverseDetector = .spent ∧ t.rnc.runState = .halted ∧
    t.rnc.faultCode = some .reverseLimit := by decide +kernel

/-- R5: in READY the error is dropped and the detector stays ARMED. -/
theorem test_illegalTransition_ready :
    let t := after .illegalTransition (runIn .ready recorded)
    t.trc.encoderDetector = .armed ∧ t.trc.web = 0#32 := by decide +kernel

theorem test_illegalTransition_run :
    (after .illegalTransition inRun).rnc.faultCode = some .encoder := by decide +kernel

/-- Samples 3 and 4 of the run up: v = 34 meets no condition; v = 40 makes the change pending. -/
theorem test_speedSample_zone :
    let s := inRun.setTrc { inRun.trc with
      zone := .crawl, pendingChange := some .crawlToRun, deglitchCount := 1 }
    (after .speedSample (webAt 34#32 s)).trc.pendingChange = none ∧
    (after .speedSample (webAt 40#32 s)).trc.deglitchCount = 2 := by decide +kernel

/-- Chapter 4, worked sequence, event 2: the sample at v = 60 finds row 500's target reached, and the cut
fires with lateness 11. -/
theorem test_speedSample_fires :
    let t := after .speedSample (webAt 1017470#32 ((tracked
      [row 500#32 1000000#32 999877#32 1001401#32 1017651#32 none .pending] inRun).setTrc
        { inRun.trc with previousSample := 1017410#32 }))
    t.knt.lead = 192 ∧
    t.knt.cycle.map (fun c => (c.fireCount, c.lateness, c.bad)) = some (1017470#32, 11, false) := by
  decide +kernel

/-! ### Registration (chapter 2, worked sequences) -/

theorem test_markEdge : (after .markEdge (webAt 1001527#32 locked)).mkt.deglitch =
    some ⟨1001527#32, 6⟩ := by decide +kernel

/-- Event 2: a glitch. -/
theorem test_markFall :
    (after .markFall (webAt 1002203#32 (deglitching 1002200#32 locked))).mkt.glitchCount = 1 := by
  decide +kernel

/-- Event 1: row 101. -/
theorem test_markKept :
    let t := after .markKept (webAt 1001533#32 (deglitching 1001527#32 locked))
    t.rot.lastNumber = 101#32 ∧ t.mkt.stretch = 65552 ∧ t.mkt.expected = some 1003051#32 ∧
    t.mkt.newest.map (fun r => r.cut) = some 1002927#32 := by decide +kernel

/-- Event 3: a stray. -/
theorem test_markKept_stray :
    (after .markKept (webAt 1001483#32 (deglitching 1001477#32 locked))).mkt.strayCount = 1 := by
  decide +kernel

/-- Event 4: row 102, COASTED, with REGISTER in its entries, from row 101. -/
def locked101 : State :=
  (tracked [row 101#32 1001527#32 1001400#32 1002927#32 1019177#32 none .pending] inRun).setMkt
    { Mkt.reset with
      state := .locked, stretch := 65552,
      newest := some ⟨1001527#32, .a, .sensed, 1002927#32, 1019177#32⟩,
      expected := some 1003051#32 }

theorem test_coast :
    let t := after .coast (webAt 1003092#32 locked101)
    t.mkt.state = .coasting ∧ t.mkt.coastCount = 1 ∧ t.mkt.expected = some 1004575#32 ∧
    (newestRow t).map (fun r => (r.number, r.origin, r.mark, r.lead, r.cut, r.fireBase)) =
      some (102#32, .coasted, 1003051#32, 1002927#32, 1004451#32, 1020701#32) := by decide +kernel

theorem test_coast_register :
    (newestRow (after .coast (webAt 1003092#32 locked101))).map (fun r => r.entries.l1) =
      some (some (.undecided { noReasons with register := true })) := by decide +kernel

/-- The splice pass, event 1. -/
theorem test_splice :
    let t := after .splice (webAt 980000#32 locked)
    t.mkt.reacquirePoint = some 1010000#32 ∧
    t.mkt.exemption = some ⟨1008000#32, 1012000#32⟩ := by decide +kernel

/-- The splice pass, event 3. -/
theorem test_reacquirePointReached :
    let t := after .reacquirePointReached (webAt 1010000#32
      (locked.setMkt { locked.mkt with state := .coasting, reacquirePoint := some 1010000#32 }))
    t.mkt.state = .reacquire ∧ t.mkt.reacquirePoint = none := by decide +kernel

/-! ### The knife (chapters 3 and 4, worked sequences) -/

/-- Cut 100 fires at F = 1 017 490 with lateness 0. -/
theorem test_fire :
    (after .fire (webAt 1017490#32 (led (tracked [row100] inRun)))).knt.cycle =
      some ⟨100#32, 1017490#32, 0, false, 40, true⟩ := by decide +kernel

/-- Rows 101 and 102 with cut 101 in flight. -/
def inFlight : State :=
  stroke 101#32 1019017#32 (led (tracked
    [row 101#32 1001527#32 1001400#32 1002927#32 1019177#32 none (.firing 1019017#32),
     row 102#32 1003051#32 1002927#32 1004451#32 1020701#32 none .pending] inRun))

/-- Event 4: KNIFE_HOME at F = 1 020 580 completes cut 101, and the held cut 102 fires at once with
lateness 39; KNIFE_FIRE is held released for its gap (R65). -/
theorem test_home :
    let t := after .home (webAt 1020580#32 inFlight)
    t.rot.track.map (fun r => (r.trail, r.leadCut)) =
      [(.done 1019017#32 false, none), (.firing 1020580#32, some ⟨1019017#32, false⟩)] ∧
    t.knt.cycle = some ⟨102#32, 1020580#32, 39, true, 40, true⟩ ∧ t.knt.output = .gap := by
  decide +kernel

/-- Three stalls: the third raises KNIFE_STALL and the inhibit. -/
theorem test_stall :
    let t := after .stall (webAt 1020580#32
      (inFlight.setKnt { inFlight.knt with stallCount := 2 }))
    t.knt.stallCount = 3 ∧ t.knt.inhibit = true ∧ t.rnc.runState = .halted ∧ t.knt.cycle = none ∧
    t.rot.track.map (fun r => r.leadCut) = [none, some ⟨1019017#32, true⟩] := by decide +kernel

theorem test_knifeFireReassert :
    knifeFire (after .knifeFireReassert
      (inFlight.setKnt { inFlight.knt with output := .gap })) = true := by decide +kernel

/-! ### Notes (chapter 5, worked sequences) -/

/-- The header of the first worked sequence: three notes, Hc = 983 300. -/
def page3 : Memory := pageA 3#16 983300
  (spanWords 982000 300#16 900#16 300#16 ++ spanWords 982000 1200#16 900#16 300#16 ++
   spanWords 981500 400#16 1010#16 80#16)

/-- Rows 700 and 701 with the horizon at 1 001 900. -/
def spans : State :=
  let s := tracked [row 700#32 1000000#32 999876#32 1001401#32 1017651#32 none .pending,
    row 701#32 1001524#32 1001401#32 1002925#32 1019175#32 none .pending] inRun
  s.setNtp { s.ntp with horizon := some 1001900#32 }

theorem test_pageTaking :
    let s := noting .pageTaking spans
    let t := after .pageTaking (s.setPxm { s.pxm with memory := page3 })
    t.ntp.inWork = some ⟨.a, 3, 983300#32, 0⟩ ∧ Memory.readWord t.pxm.memory 0x400 = 2#16 := by
  decide +kernel

/-- Note 0: both lanes of row 701 take DEFECT, and row 700 is not hit; APPLIED. -/
theorem test_spanNote_applied :
    let t := after .spanNote (reading page3 3 0 spans)
    t.rot.track.map (fun r => r.entries.l0) =
      [some (.undecided noReasons), some (.undecided { noReasons with defect := true })] ∧
    t.ntp.work.head? = some (.fateWrite .a 0 .applied 0) := by decide +kernel

/-- Note 1: the remainder joins the pending list; PENDING. -/
theorem test_spanNote_pending :
    let t := after .spanNote (reading page3 3 1 spans)
    t.ntp.spans.map (fun p => (p.start, p.stop)) = [(1002925#32, 1003200#32)] ∧
    t.ntp.work.head? = some (.fateWrite .a 1 .pending 0) := by decide +kernel

/-- The finishing of the page: H becomes 1 003 300 and page B is expected. -/
theorem test_pageFinishing :
    let t := after .pageFinishing (noting .finishing (reading page3 3 3 spans))
    t.ntp.horizon = some 1003300#32 ∧ t.ntp.expectedPage = .b ∧
    Memory.readWord t.pxm.memory 0x400 = 3#16 := by decide +kernel

/-- A late note, note 2: row 760 has gone when row 834 is the newest. -/
theorem test_rowNote_gone :
    (after .rowNote (reading (pageA 2#16 0 (rowWords 760 3#16 ++ rowWords 840 2#16)) 2 0
      (tracked [row 834#32 0#32 0#32 1#32 2#32 none .pending] inRun))).ntp.work.head? =
      some (.fateWrite .a 0 .gone 0) := by decide +kernel

/-- A late note, note 3: row 840 is not yet created. -/
theorem test_rowNote_future :
    (after .rowNote (reading (pageA 2#16 0 (rowWords 760 3#16 ++ rowWords 840 2#16)) 2 1
      (tracked [row 834#32 0#32 0#32 1#32 2#32 none .pending] inRun))).ntp.work.head? =
      some (.fateWrite .a 1 .future 0) := by decide +kernel

/-- A LANE note: mask {0}, HOLD and TARGET, target 50 (R127). -/
def pageLane : Memory := pageA 1#16 0 [3#16, 0#16, 1#16, 9#16, 50#16, 0#16, 0#16, 0#16]

theorem test_laneNote :
    let t := after .laneNote (reading pageLane 1 0 inRun)
    t.skc.l0.hold = true ∧ t.skc.l0.targetCurrent = some 50 ∧ t.skc.l1.hold = false := by
  decide +kernel

/-- A CONVEYOR note: conveyor 1, RESET (R138). -/
def pageConveyor : Memory := pageA 1#16 0 [4#16, 0#16, 1#16, 1#16, 0#16, 0#16, 0#16, 0#16]

theorem test_conveyorNote :
    (after .conveyorNote (reading pageConveyor 1 0
      (State.reset.setTka { Tka.reset with conveyors := ⟨.out, .out⟩ }))).tka.conveyors =
      ⟨.out, .available⟩ := by decide +kernel

/-- A JOB note for slot 3 (R146). -/
def pageJob : Memory := Memory.writeWords jobMem 0x400
  ([2#16, 1#16, 0#16, 0#16, 0#16, 0#16, 0#16, 0#16] ++
   [5#16, 0#16, 3#16, 0#16, 0#16, 0#16, 0#16, 0#16])

/-- READY with the page in work and the JOB note to be read. -/
def readyJob : State := reading pageJob 1 0 (runIn .ready recorded)

/-- The note read, then the job copy. -/
theorem test_jobNote :
    let t := after .jobNote (after .jobNote readyJob)
    t.rnc.runState = .run ∧ t.mkt.state = .acquire ∧ t.skc.l1.targetCurrent = some 200 := by
  decide +kernel

/-- Kind 6 is none of the five: BAD with detail 0 (R83). -/
def pageBad : Memory := pageA 1#16 0 [6#16, 0#16, 0#16, 0#16, 0#16, 0#16, 0#16, 0#16]

theorem test_badNote :
    (after .badNote (reading pageBad 1 0 inRun)).ntp.work.head? = some (.fateWrite .a 0 .bad 0) := by
  decide +kernel

/-- R183: the fate and its detail stand in the note's last word; PART_LATE is 4. -/
theorem test_fateWrite :
    (after .fateWrite (noting (.fateWrite .a 0 .partLate 3) inRun)).pxm.memory =
      [(0x41E, 4#8), (0x41F, 3#8)] := by decide +kernel

/-- R81: the check finds POSTED in the expected page. -/
theorem test_pageStateCheck :
    let s := noting .stateCheck inRun
    (after .pageStateCheck (s.setPxm { s.pxm with memory := page3 })).ntp.work = [.pageTaking] := by
  decide +kernel

/-! ### Decisions, flaps and eyes (chapter 6, worked sequence) -/

/-- Row 401 alone, inspected, with stack 21. -/
def judging : State :=
  let s := led (lane0 [stack 21 200 5 5 .filling] 22 [] (tracked
    [{ row 401#32 1001241#32 1001240#32 1002764#32 1019014#32 (some ⟨1017490#32, false⟩)
         (.done 1019014#32 false) with
       entries := ⟨some (.undecided noReasons), none, none, none⟩ }] inRun))
  s.setNtp { s.ntp with horizon := some 1003000#32 }

/-- Event 1. -/
theorem test_decision_good :
    let t := after (.decision .l0) (webAt 1023330#32 judging)
    t.lnd.l0.flap = .pass 1019014#32 ∧
    t.lnd.l0.arrivals = [⟨401#32, 21, 1026430#32, 1026550#32⟩] ∧
    t.skc.l0.line.map (fun x => x.allotted) = [6] := by decide +kernel

/-- The same row with DEFECT: rejected, and the tally rises. -/
theorem test_decision_reject :
    let s := judging.setRot { judging.rot with track := judging.rot.track.map fun r =>
      { r with entries := ⟨some (.undecided { noReasons with defect := true }), none, none, none⟩ } }
    let t := after (.decision .l0) (webAt 1023330#32 s)
    t.lnd.l0.flap = .reject ∧ t.jbc.current.map (fun c => c.tallies.defect) = some 1 := by
  decide +kernel

/-- The flap at PASS for row 401. -/
def passing : State :=
  judging.setLnd (judging.lnd.set .l0 { judging.lnd.l0 with flap := .pass 1019014#32 })

/-- The pass end of row 401 is 1 024 854. -/
theorem test_passEnd :
    (after (.passEnd .l0) (webAt 1024854#32 passing)).lnd.l0.flap = .reject ∧
    (after (.passEnd .l0) (webAt 1024853#32 passing)).lnd.l0.flap = .pass 1019014#32 := by
  decide +kernel

/-- Row 402's window with stack 21, row decided. -/
def awaiting : State :=
  lane0 [stack 21 200 7 6 .filling] 22 [⟨402#32, 21, 1027954#32, 1028074#32⟩] (tracked [] inRun)

/-- Event 6: the front passes the window high. -/
theorem test_windowPassed :
    let t := after (.windowPassed .l0) (webAt 1028075#32 awaiting)
    t.lnd.l0.arrivals = [] ∧ t.skc.l0.line.map (fun x => x.missing) = [1] := by decide +kernel

/-- Event 4's kind: an edge within the window confirms. -/
theorem test_eye_confirms :
    (after (.eye .l0) (webAt 1028074#32 awaiting)).skc.l0.line.map (fun x => x.arrived) = [7] := by
  decide +kernel

/-- Event 8's kind: an edge before the window is extra. -/
theorem test_eye_extra :
    let t := after (.eye .l0) (webAt 1027953#32 awaiting)
    t.skc.l0.line.map (fun x => (x.arrived, x.extra)) = [(6, 1)] ∧
    t.lnd.l0.arrivals.length = 1 := by decide +kernel

/-! ### Takeaway (chapter 7, worked sequences) -/

/-- Lane 0 is pushed with two CLOSED stacks behind; lane 1, of the same conveyor, waits at an age. -/
def contending (age : Nat) : State :=
  let s := pushing [stack 41 200 200 200 .closed, stack 42 200 200 200 .closed] inRun
  (s.setSkc (s.skc.set .l1 { s.skc.l1 with line := [stack 12 200 200 200 .closed], nextId := 13 })).setTka
    { s.tka with waiting := ⟨⟨none, some age, none, none⟩, Lanes.fill none⟩ }

/-- With equal priorities and age 0, the tie goes to the lower lane number. -/
theorem test_delivery_tie :
    (after (.delivery .c0) (contending 0)).tka.conveyors.c0 = .pushing .l0 5000 ∧
    (after (.delivery .c0) (contending 0)).rpw.queue.length = 1 := by decide +kernel

/-- With age 1 the waiting lane is ahead. -/
theorem test_delivery_aged :
    (after (.delivery .c0) (contending 1)).tka.conveyors.c0 = .pushing .l1 5000 := by decide +kernel

/-- R137: the conveyor is OUT and CONVEYOR_TIMEOUT is reported. -/
theorem test_removal :
    let t := after (.removal .c0) (contending 0)
    t.tka.conveyors.c0 = .out ∧ t.pxm.attention.fault = true ∧ t.rpw.queue.length = 2 := by
  decide +kernel

/-- Lane 2 waits for conveyor 1, AVAILABLE. -/
def waiting2 (age : Nat) : State :=
  (inRun.setSkc (inRun.skc.set .l2 { inRun.skc.l2 with
    line := [stack 12 200 200 200 .closed], nextId := 13 })).setTka
    { Tka.reset with waiting := ⟨Lanes.fill none, ⟨none, none, some age, none⟩⟩ }

theorem test_agingTick :
    (after .agingTick (waiting2 0)).tka.conveyors.c1 = .pushing .l2 5000 ∧
    push (after .agingTick (waiting2 0)) .l2 = true := by decide +kernel

/-! ### Reports and live status (chapters 10 to 12) -/

/-- R179, R181: a JOB_START record, kind 4, in slot 0; the header counts it. -/
theorem test_reportWrite :
    let t := after .reportWrite (filling (.jobStart 311 881#32) 0 inRun)
    t.rpw.queue = [] ∧ t.rpw.fillIndex = 1 ∧ Memory.readWord t.pxm.memory 0x1002 = 1#16 ∧
    t.rpw.ageTimer = some 250 := by decide +kernel

/-- R180: at the expiry CLOSED is written, and then the other half, EMPTY, is taken; the record that was
still in the queue is not in the closed half. -/
theorem test_ageTimerExpiry :
    let t := after .ageTimerExpiry (filling (.jobStart 311 881#32) 1 inRun)
    Memory.readWord t.pxm.memory 0x1000 = 2#16 ∧ t.rpw.queue = [.jobStart 311 881#32] ∧
    (freeMemory t).rpw.writer = .filling .b ∧ (freeMemory t).rpw.fillIndex = 0 ∧
    Memory.readWord (freeMemory t).pxm.memory 0x1800 = 1#16 ∧
    (freeMemory t).pxm.requests = [.reports] := by decide +kernel

/-- R170: behind a burst requested before it the write of CLOSED waits, and each half state access then
takes its turn by itself, each behind the requests made in the meantime. -/
theorem test_ageTimerExpiry_waits :
    let t := after .ageTimerExpiry (asking [.refresh] (filling (.jobStart 311 881#32) 1 inRun))
    let u := after .liveStatusRefresh (asking [.refresh, .reports] t)
    t.pxm.requests = [.refresh, .reports] ∧ t.rpw.halfWork = [.writeClosed .a, .look .b] ∧
    (after .reportWrite t).rpw.queue = [.jobStart 311 881#32] ∧
    Memory.readWord u.pxm.memory 0x1000 = 0#16 ∧
    Memory.readWord (settleMemory u).pxm.memory 0x1000 = 2#16 ∧
    (settleMemory (asking [.refresh] (settleMemory u))).pxm.requests = [.refresh, .reports] := by
  decide +kernel

/-- R170: the writer's next request comes at the end of its burst, behind the refresh requested
meanwhile. -/
theorem test_reportWrite_next :
    let s := filling (.jobStart 311 881#32) 0 inRun
    let t := after .reportWrite (s.setRpw { s.rpw with queue := [.jobStart 311 881#32, .jobStart 312 1#32] })
    (settleMemory (after .refreshTimerExpiry t)).pxm.requests = [.refresh, .reports] ∧
    t.pxm.requests = [] := by decide +kernel

theorem test_refreshTimerExpiry :
    (after .refreshTimerExpiry State.reset).pxm.requests = [.refresh] := by decide +kernel

/-- R183: W at 0x00 and F at 0x04. -/
theorem test_liveStatusRefresh :
    let s := inRun.setTrc { inRun.trc with web := 0x0002FFFE#32, front := 0x00030003#32 }
    let t := after .liveStatusRefresh (s.setPxm { s.pxm with requests := [.refresh] })
    Memory.readWord t.pxm.memory 0 = 0xFFFE#16 ∧ Memory.readWord t.pxm.memory 2 = 2#16 ∧
    Memory.readWord t.pxm.memory 4 = 3#16 ∧ Memory.readWord t.pxm.memory 6 = 3#16 := by decide +kernel

/-! ### Witnesses: run control and the port -/

/-- StepRunsFrontCommand, second clause: the memory free, a burst that only reads, and a burst with an
access held. -/
theorem witness_idle : State.reset.pending = [] ∧ MemoryFree State.reset ∧
    readBurst (noting .noteRead inRun) = true ∧
    (held (.write 0x200#12 1#16) inRun).pending = [] ∧
    readBurst (held (.write 0x200#12 1#16) inRun) = false ∧
    (settleMemory (held (.write 0x200#12 1#16) inRun)).ntp.work = [.pageTaking] :=
  ⟨rfl, ⟨rfl, rfl, .inl rfl⟩, by decide +kernel, rfl, by decide +kernel, by decide +kernel⟩

/-- ResetsLeaveTheTabledValues: RESTART with no burst in progress, and with one. -/
theorem witness_resets : inRun.pxm.burst = none ∧ (bursting inRun).pxm.burst = some ⟨.notes, [⟨0x404, 7#16⟩]⟩ ∧
    restoreWords [⟨0x404, 7#16⟩] (Memory.writeWords [] 0x404 [1#16]) =
      Memory.writeWords [] 0x404 [7#16] := by decide +kernel

/-- ResetsLeaveTheTabledValues: an access that WAIT holds stands through a power-on reset. -/
theorem test_powerOnReset_held :
    (after .powerOnReset (held (.read 0#12) (bursting inRun))).pxm.waiting = [.read 0#12] := by
  decide +kernel

/-- ReleaseTakesThePresentPair, second clause. -/
theorem witness_resetAsserted : (after .powerOnReset inRun).pxm.resetAsserted = true := by
  decide +kernel

/-- HALTED with the web standing for 200 samples. -/
def stood : State := halted.setTrc { halted.trc with standstill := 200 }

/-- CommandsAnswerByTheTable: every run state, and codes at the ends of BAD_CODE's ranges. -/
theorem witness_commands :
    State.reset.rnc.runState = .off ∧ (runIn .ready recorded).rnc.runState = .ready ∧
    inRun.rnc.runState = .run ∧ (runIn .drain inRun).rnc.runState = .drain ∧
    (stood.rnc.runState = .halted ∧ stood.trc.standstill = 200) ∧
    ¬(halted.rnc.runState = .halted ∧ halted.trc.standstill = 200) ∧
    ((0x0500#16 : Word).extractLsb' 0 8).toNat = 0 ∧
    5 < ((6#16 : Word).extractLsb' 0 8).toNat ∧ spelled (.badCode 0x0201#16) = .start ∧
    spelled (.badCode 0xFF05#16) = .restart ∧ MayBegin .machine State.reset ∧
    MayBegin .machine (asking [.machine, .notes] inRun) ∧
    (asking [.notes, .machine] State.reset).pxm.requests = .notes :: [.machine] ∧
    BurstSource.notes ≠ .machine := by
  refine ⟨by decide +kernel, by decide +kernel, by decide +kernel, by decide +kernel,
    by decide +kernel, by decide +kernel, by decide, by decide, rfl, rfl, ⟨.inl rfl, rfl, rfl, rfl⟩,
    ⟨.inr rfl, rfl, rfl, rfl⟩, rfl, by decide⟩

/-- MachineRecordCheckNamesTheFirstFailingField: a valid record, and the first and the last field
failing. -/
theorem witness_machine_index :
    machineIndex mach = 0 ∧ machineIndex { mach with dCam := 200001 } = 1 ∧
    machineIndex { mach with reportAge := 1001 } = 31 := by decide +kernel

/-- OFF with page A in work, two notes of it not yet applied, and a fate write waiting; the machine record
burst has its turn. -/
def starting (r : RunState) (m : Memory) : State :=
  asking [.machine, .notes] ((runIn r recorded).setNtp { recorded.ntp with
      inWork := some ⟨.a, 3, 0#32, 1⟩, work := [.fateWrite .a 0 .noJob 0, .noteRead] } |>.setPxm
    { recorded.pxm with memory := m })

/-- StartByItsMachineRecord: OFF and READY, a valid and an invalid record, a page in work and none. -/
theorem witness_start :
    (starting .off machMem).rnc.runState = .off ∧ MayBegin .machine (starting .off machMem) ∧
    (starting .ready []).rnc.runState = .ready ∧ MayBegin .machine (starting .ready []) ∧
    machineIndex (readMachineRecord machMem) = 0 ∧
    machineIndex (readMachineRecord State.reset.pxm.memory) ≠ 0 ∧
    (starting .off machMem).ntp.inWork = some ⟨.a, 3, 0#32, 1⟩ ∧ State.reset.ntp.inWork = none ∧
    (after .start (starting .off machMem)).ntp.work = [.fateWrite .a 0 .noJob 0,
      .fateWrite .a 1 .unapplied 0, .fateWrite .a 2 .unapplied 0, .cutShortDone .a, .stateCheck] ∧
    (after .start (starting .ready [])).ntp.work = [.fateWrite .a 0 .noJob 0,
      .fateWrite .a 1 .unapplied 0, .fateWrite .a 2 .unapplied 0, .cutShortDone .a] :=
  ⟨rfl, ⟨.inr rfl, rfl, rfl, rfl⟩, rfl, ⟨.inr rfl, rfl, rfl, rfl⟩, by decide +kernel,
   by decide +kernel, rfl, rfl, by decide +kernel, by decide +kernel⟩

/-- StartByItsMachineRecord: the note read, or the job copy, that START finds requested is kept when the
record is valid, and is cut short like the rest when it is not. -/
theorem witness_start_late :
    let s := starting .ready machMem
    let a := s.setNtp { s.ntp with work := [.noteRead] }
    let c := s.setNtp { s.ntp with work := [.jobCopy 3] }
    let r := (starting .ready []).setNtp { s.ntp with work := [.noteRead] }
    (after .start a).ntp.work =
      [.lateRead .a 1, .fateWrite .a 2 .unapplied 0, .cutShortDone .a, .stateCheck] ∧
    (after .start c).ntp.work =
      [.lateCopy .a 1 3, .fateWrite .a 2 .unapplied 0, .cutShortDone .a, .stateCheck] ∧
    (after .start r).ntp.work =
      [.fateWrite .a 1 .unapplied 0, .fateWrite .a 2 .unapplied 0, .cutShortDone .a] := by
  decide +kernel


/-- LOCKED on row 100, with a stack FILLING in lanes 0 and 2; lane 2 has no entry in the track. -/
def stopping : State :=
  let s := lane0 [stack 21 200 5 5 .filling] 22 [] locked
  s.setSkc (s.skc.set .l2 { s.skc.l2 with line := [stack 7 200 5 5 .filling], nextId := 8 })


/-- IrqFollowsFlagsAndEnables: the last flag set, its enable written. -/
theorem witness_irq :
    (attentionWord ⟨false, false, false, false, true⟩).getLsbD 4 = true ∧
    (0x0010#16 : Word).getLsbD 4 = true := by decide

/-- ReadsGoThroughTheTearLatch: the first and last fields, and the first word past them; the latch loaded
for F and for no other. -/
theorem witness_tear :
    MemoryFree torn ∧ torn.rnc.configIndex ≤ 31 ∧
    tearFieldOf 0#12 = some (.web, true) ∧ tearFieldOf 1#12 = some (.web, false) ∧
    tearFieldOf 2#12 = some (.front, true) ∧ tearFieldOf 5#12 = some (.stretch, false) ∧
    tearFieldOf 6#12 = some (.newest, true) ∧ tearFieldOf 9#12 = some (.oldest, false) ∧
    tearFieldOf 10#12 = some (.horizon, true) ∧ tearFieldOf 14#12 = none ∧
    tearFieldOf 12#12 = some (.guardPoint, true) ∧ tearFieldOf 13#12 = some (.guardPoint, false) ∧
    13 < (14#12 : BitVec 12).toNat ∧ torn.pxm.tearLatch = some (.front, 2#16) ∧
    (∀ w, torn.pxm.tearLatch ≠ some (.web, w)) := by
  refine ⟨⟨rfl, rfl, .inl rfl⟩, by decide, by decide, by decide, by decide, by decide, by decide,
    by decide, by decide, by decide, by decide, by decide, by decide, rfl, fun w h => ?_⟩
  cases h

/-- A note of an unknown kind whose read is in progress, with an access that waits for it. -/
def reading_held (x : PressAccess) : State :=
  let s := reading pageBad 3 0 inRun
  s.setPxm { s.pxm with waiting := [x] }

/-- WritesAreTheCommandsOfTheirRows: words beside a watched word; a burst in progress, one that writes and
one that only reads, that nothing waits for, and that an access waits for; a burst at its turn; and the
turns of the machine record burst and of a write of the Note Processor. -/
theorem witness_writes :
    MemoryFree torn ∧ torn.pxm.memory.wf = true ∧ isWatchedWord 0x1FF#12 = false ∧
    isWatchedWord 0xFFF#12 = false ∧
    memoryHeld (bursting torn) = true ∧ (bursting torn).pxm.waiting = [] ∧
    readBurst (bursting torn) = false ∧
    memoryHeld (noting .noteRead torn) = true ∧ (noting .noteRead torn).pxm.waiting = [] ∧
    readBurst (reading_held (.read 3#12)) = true ∧
    (reading_held (.read 3#12)).pxm.waiting = [.read 3#12] ∧
    readBurst (held (.read 3#12) torn) = false ∧
    (held (.read 3#12) torn).pxm.waiting = [.read 3#12] ∧
    (held (.write 0x200#12 1#16) inRun).pxm.waiting = [.write 0x200#12 1#16] ∧
    (bursting torn).pxm.burst = some ⟨.notes, [⟨0x404, 7#16⟩]⟩ ∧
    (asking [.machine] torn).pxm.burst = none ∧ readBurst (asking [.machine] torn) = true ∧
    (noting (.fateWrite .a 0 .done 0) torn).pxm.burst = none ∧
    readBurst (noting (.fateWrite .a 0 .done 0) torn) = false ∧
    torn.rpw.halfWork = [] := by
  refine ⟨⟨rfl, rfl, .inl rfl⟩, by decide +kernel, by decide, by decide, ?_⟩
  decide +kernel

/-- WritesAreTheCommandsOfTheirRows: commands that take the event of their burst; and START with a burst in
progress, its turn next and not. -/
theorem witness_writes_turns :
    endsRead .badNote ∧
    exec .badNote (reading_held (.read 3#12)) ≠ .next (reading_held (.read 3#12)) ∧
    isBurst .pageTaking ∧ exec .pageTaking (noting .pageTaking spans) ≠ .next (noting .pageTaking spans) ∧
    (freeMemory (asking [.machine] (burstOf .refresh torn))).pxm.requests.head? = some .machine ∧
    (freeMemory (asking [.notes, .machine] (burstOf .refresh torn))).pxm.requests.head? ≠
      some .machine ∧ HalfWork spans.rpw ∧ HalfWork torn.rpw := by
  refine ⟨by simp [endsRead], fun h => ?_, by simp [isBurst], fun h => ?_, by decide +kernel,
    by decide +kernel, trivial, trivial⟩
  · have e : after .badNote (reading_held (.read 3#12)) = reading_held (.read 3#12) := by
      rw [after, h]
    have w := congrArg (fun x => x.ntp.work) e
    revert w; decide +kernel
  · have e : after .pageTaking (noting .pageTaking spans) = noting .pageTaking spans := by
      rw [after, h]
    have w := congrArg (fun x => x.ntp.work) e
    revert w; decide +kernel

/-- R170: the access that a read burst held is served once the note's event is taken, as in a free
memory. -/
theorem test_readBurst_serves :
    let t := after .badNote (reading_held (.write 0x1FF#12 5#16))
    t.pxm.waiting = [] ∧ Memory.readWord t.pxm.memory 0x3FE = 5#16 ∧
    t.ntp.work = [.fateWrite .a 0 .bad 0, .noteRead] ∧
    wait (reading_held (.write 0x1FF#12 5#16)) = true := by decide +kernel

/-- A part with nothing to write or read has its exchange memory in order. -/
theorem exchangeInv_rest (s : State) (p : s.pxm = Pxm.reset) (n : s.ntp = Ntp.reset)
    (w : s.rpw = Rpw.reset) : ExchangeInv s := by
  constructor
  · rw [p]; rfl
  · rw [n]; exact ⟨fun b h => (by cases h), by decide, fun b h => (by cases h)⟩
  · rw [w]; trivial
  · intro h e; rw [w] at e; cases e
  · intro h; rw [w] at h; cases h
  · rw [p]; decide
  · intro b e; rw [p] at e; cases e
  · rw [p, n]; decide
  · rw [p, w]; decide
  · intro _ h; rw [w] at h; cases h rfl
  · intro b e; rw [p] at e; cases e

/-- PostingIsActedOnForTheExpectedPage: acted on in RUN, and not for page B. -/
theorem witness_posting :
    MemoryFree inRun ∧ ExchangeInv inRun ∧ inRun.ntp.expectedPage = .a ∧ inRun.ntp.inWork = none ∧
    inRun.rnc.runState ≠ .off ∧ NoteBurst.pageTaking ∉ inRun.ntp.work ∧
    ¬(Page.b = inRun.ntp.expectedPage) :=
  ⟨⟨rfl, rfl, .inl rfl⟩, exchangeInv_rest _ rfl rfl rfl, by decide +kernel⟩

/-- FreeingIsActedOnForTheAwaitedHalf: half A is awaited, half B is not; a record waits; nothing is
requested, and a refresh is. -/
theorem witness_freeing :
    MemoryFree State.reset ∧ State.reset.pxm.requests = [] ∧ MemoryFree (asking [.refresh] State.reset) ∧
    (asking [.refresh] State.reset).pxm.requests.head? ≠ some .reports ∧
    State.reset.pxm.memory.wf = true ∧ State.reset.rpw.writer = .waiting .a ∧
    (State.reset.setRpw { Rpw.reset with queue := [.jobStart 1 1#32] }).rpw.queue ≠ [] ∧
    State.reset.rpw.writer ≠ .waiting .b :=
  ⟨⟨rfl, rfl, .inl rfl⟩, rfl, ⟨rfl, rfl, .inl rfl⟩, by decide, rfl, rfl, by decide, by decide⟩

/-- R170, R178: behind a refresh already requested, FILLING waits for its turn. -/
theorem test_halfFreeing_waits :
    let t := after (.halfFreeing .a 0#16) (asking [.refresh] State.reset)
    t.rpw.writer = .filling .a ∧ t.pxm.requests = [.refresh, .reports] ∧
    Memory.readWord t.pxm.memory 0x1000 = 0#16 ∧
    Memory.readWord (settleMemory (after .liveStatusRefresh t)).pxm.memory 0x1000 = 1#16 := by
  decide +kernel

/-! ### Witnesses: travel and speed -/

/-- ForwardCountMovesTheWebAndTheFront: behind the front, and at it with nothing due. -/
theorem witness_forward :
    (inRun.setTrc { inRun.trc with front := 1#32 }).trc.web ≠ 1#32 ∧
    inRun.pxm.resetAsserted = false ∧ inRun.trc.web = inRun.trc.front ∧
    ∀ a ∈ frontActs, frontDue a (after .forwardCount inRun) = false := by decide +kernel

/-- ReverseCountRaisesReverseLimitOnce: 400 counts behind the front, and 399. -/
theorem witness_reverse :
    let s := inRun.setTrc { inRun.trc with web := 999720#32, front := 1000120#32 }
    let u := inRun.setTrc { inRun.trc with web := 999721#32, front := 1000120#32 }
    s.pxm.resetAsserted = false ∧ s.rnc.record = some mach ∧ s.trc.reverseDetector = .armed ∧
    (s.trc.front - (s.trc.web - 1#32)).toNat = mach.reverseLimit + 1 ∧
    (u.trc.front - (u.trc.web - 1#32)).toNat ≠ mach.reverseLimit + 1 := by decide +kernel

/-- RUN raises faults and READY does not. -/
theorem witness_faultsRaised : FaultsRaised inRun ∧ FaultsRaised halted ∧
    ¬FaultsRaised (runIn .ready recorded) := by
  unfold FaultsRaised; decide +kernel

/-- IllegalTransitionRaisesEncoderOnce: both states of the detector. -/
theorem witness_illegal : inRun.pxm.resetAsserted = false ∧ inRun.trc.encoderDetector = .armed ∧
    (inRun.setTrc { inRun.trc with encoderDetector := .spent }).trc.encoderDetector ≠ .armed := by
  decide +kernel

/-- SpeedSampleFormsTheSpeedAndTheLeads, LeadsAreFormedAtSamplesAndStart and StandstillCountRule: the
largest forward and the largest backward delta, the largest standstill count, a record and none. -/
theorem witness_sample :
    let f := webAt 0x7FFFFFFF#32 inRun
    let b := webAt 0x80000000#32 inRun
    f.pxm.resetAsserted = false ∧ f.rnc.record = some mach ∧ State.reset.rnc.record = none ∧
    (f.trc.web - f.trc.previousSample).toNat < 2147483648 ∧
    2147483648 ≤ (b.trc.web - b.trc.previousSample).toNat ∧
    stood.trc.standstill ≤ 200 ∧ (after .speedSample f).trc.speed = 4095 ∧
    (after .speedSample b).trc.speed = 0 ∧
    ∀ a ∈ targetActs, sampleDue a (after .speedSample f) = false := by decide +kernel

/-- ZoneChangesAtTheEighthSample: the record's thresholds, each change met at its bound, and the zones'
counts 0, 6 and 7. -/
theorem witness_zone :
    mach.vCrawl < mach.vOver ∧ ChangeMet mach 35 .crawl .crawlToRun ∧
    ChangeMet mach 29 .run .runToCrawl ∧ ChangeMet mach 180 .run .runToOver ∧
    ChangeMet mach 174 .over .overToRun ∧ (∀ c, ¬ChangeMet mach 34 .crawl c) ∧
    (∀ c, ¬ChangeMet mach 30 .run c) ∧ (∀ c, ¬ChangeMet mach 175 .over c) ∧
    (after .speedSample (webAt 35#32 (inRun.setTrc { inRun.trc with
      zone := .crawl, pendingChange := some .crawlToRun, deglitchCount := 7 }))).trc.zone = .run := by
  refine ⟨by decide, ?_, ?_, ?_, ?_, ?_, ?_, ?_, by decide +kernel⟩ <;>
    first | (intro c; cases c <;> simp [ChangeMet, mach]) | simp [ChangeMet, mach]

/-- EachSettingChangesOnlyByItsCommands: each clause's item is changed by a command. -/
theorem witness_settings :
    (after .reverseCount inRun).trc.web ≠ inRun.trc.web ∧
    (after .forwardCount inRun).trc.front ≠ inRun.trc.front ∧
    (after .speedSample inRun).trc.standstill ≠ inRun.trc.standstill ∧
    (after .start (runIn .ready inRun)).trc.zone ≠ inRun.trc.zone ∧
    spelled (.badCode 0x0101#16) = .start ∧
    (after .agingTick (held (.write 0#12 1#16) inRun)).pxm.waiting ≠ [] ∧
    (after .laneNote (reading pageLane 1 0 inRun)).skc.l0.hold ≠ inRun.skc.l0.hold ∧
    (after .pageFinishing (noting .finishing (reading page3 3 3 spans))).ntp.horizon ≠
      spans.ntp.horizon ∧
    (after .restart inRun).rnc.record ≠ inRun.rnc.record ∧
    (after (.attnMaskWrite 1#16) inRun).pxm.mask ≠ inRun.pxm.mask ∧
    (after (.memoryWrite 0#12 1#16) inRun).pxm.memory ≠ inRun.pxm.memory ∧
    (after (.memoryRead 0#12) inRun).pxm.tearLatch ≠ inRun.pxm.tearLatch := by decide +kernel

/-- The leads change at a sample, and a stroke's commands change nothing of them. -/
theorem witness_leads : (after .speedSample (webAt 50#32 inRun)).knt.lead ≠ inRun.knt.lead ∧
    isReset .restart ∧ isReset (.badCode 0x7705#16) ∧
    MayBegin .machine State.reset :=
  ⟨by decide +kernel, .inr rfl, .inr rfl, ⟨.inl rfl, rfl, rfl, rfl⟩⟩

/-! ### Witnesses: registration and the track -/

/-- A track of one row that is the last issued is in order. -/
theorem trackInv_one (s : State) (r : Row) (h : s.rot.track = [r]) (n : s.rot.lastNumber = r.number)
    (z : r.number ≠ 0#32) : TrackInv s := by
  constructor <;> simp_all [trackNumbers]

/-- MarkEdgesStartAndEndADeglitch: at the front, behind it, in IDLE, and a deglitch in progress with no
coast due after it. -/
theorem witness_markEdges :
    locked.mkt.deglitch = none ∧ locked.jbc.current = some context ∧ locked.mkt.state ≠ .idle ∧
    locked.trc.web = locked.trc.front ∧ inRun.mkt.state = .idle ∧
    (locked.setTrc { locked.trc with front := 1#32 }).trc.web ≠ 1#32 ∧
    (deglitching 1001527#32 locked).mkt.deglitch = some ⟨1001527#32, 6⟩ ∧
    coastPoint (after .markFall (deglitching 1001527#32 locked)) = none := by decide +kernel

/-- ACQUIRE with a mark kept at the last count of its deglitch. -/
def acquiring (e : Count) : State :=
  webAt (e + 6#32) (deglitching e (locked.setMkt { locked.mkt with
    state := .acquire, expected := none }))

/-- MarkKeptInAcquireMakesALeadInRow: a fire base one beyond the newest row's, and one equal to it. -/
theorem witness_acquire :
    let s := acquiring 1000001#32
    let u := acquiring 1000000#32
    Kept s ⟨1000001#32, 6⟩ ∧ Kept u ⟨1000000#32, 6⟩ ∧ TrackInv s ∧ s.mkt.state = .acquire ∧
    s.rnc.runState = .run ∧ s.rnc.record = some mach ∧ s.jbc.current = some context ∧
    beyond (advance (advance 1000001#32 (effective 65536 1400)) 16250) 1017650#32 = true ∧
    beyond (advance (advance 1000000#32 (effective 65536 1400)) 16250) 1017650#32 = false ∧
    s.mkt.newest.map (fun n => n.fireBase) = some 1017650#32 ∧ s.rot.track.length < 64 := by
  refine ⟨by unfold Kept; decide +kernel, by unfold Kept; decide +kernel,
    trackInv_one _ row100 rfl rfl (by decide), ?_⟩
  decide +kernel

/-- A mark kept in ACQUIRE with no row tracked, d_knife at its least value, and a lead. -/
def firing (lead : Nat) : State :=
  let s := (acquiring 1000001#32).setMkt { (acquiring 1000001#32).mkt with newest := none }
  ((s.setRot .reset).setKnt { s.knt with lead := lead }).setRnc
    { s.rnc with record := some { mach with dKnife := 256 } }

/-- MarkKeptInAcquireMakesALeadInRow, R42 and R62: with the lead that puts the fire target at the front the
new row's cut fires within the event, and one count short of it the cut is PENDING. -/
theorem witness_newTrail :
    atOrBeyond (firing 1650).trc.front (retreat (advance 1000001#32 1656) 1650) = true ∧
    (firing 1650).knt.cycle = none ∧ (firing 1650).knt.inhibit = false ∧
    (firing 1650).trc.web = (firing 1650).trc.front ∧ (firing 1650).knt.lastFire = none ∧
    (newestRow (after .markKept (firing 1650))).map (fun r => (r.trail, r.fireBase)) =
      some (.firing 1000007#32, advance 1000001#32 1656) ∧
    (newestRow (after .markKept (firing 1649))).map (fun r => r.trail) = some .pending := by
  decide +kernel

/-- A mark kept on row 100's web in a tracking state. -/
def sensing (e : Count) (k : TrackerState) : State :=
  webAt (e + 6#32) (deglitching e (locked.setMkt { locked.mkt with state := k }))

/-- The tracker's newest row. -/
def newest100 : NewestRow := ⟨1000000#32, .a, .sensed, 1001400#32, 1017650#32⟩

/-- MarkKeptInTheWindowMakesASensedRow: both ends of the window, the reacquire distance, and one count
outside each. -/
theorem witness_sensed :
    let s := sensing 1001484#32 .locked
    Kept s ⟨1001484#32, 6⟩ ∧ TrackInv s ∧ s.mkt.newest = some newest100 ∧
    Admitted s context newest100 1001484#32 ∧ Admitted s context newest100 1001564#32 ∧
    ¬Admitted s context newest100 1001483#32 ∧ ¬Admitted s context newest100 1001565#32 ∧
    Admitted (sensing 1000762#32 .reacquire) context newest100 1000762#32 ∧
    ¬Admitted (sensing 1000761#32 .reacquire) context newest100 1000761#32 ∧
    beyond (advance 1001484#32 (effective 65536 1400)) 1001400#32 = true := by
  refine ⟨by unfold Kept; decide +kernel, trackInv_one _ row100 rfl rfl (by decide), rfl,
    .inl ⟨.inl rfl, 1001524#32, rfl, by decide +kernel, by decide +kernel⟩,
    .inl ⟨.inl rfl, 1001524#32, rfl, by decide +kernel, by decide +kernel⟩, ?_, ?_,
    .inr ⟨rfl, by decide +kernel⟩, ?_, by decide +kernel⟩
  · rintro (⟨-, x, h, a, -⟩ | ⟨h, -⟩)
    · cases h; revert a; decide +kernel
    · cases h
  · rintro (⟨-, x, h, -, b⟩ | ⟨h, -⟩)
    · cases h; revert b; decide +kernel
    · cases h
  · rintro (⟨h | h, -⟩ | ⟨-, b⟩)
    · cases h
    · cases h
    · revert b; decide +kernel

/-- StretchMovesAnEighthTowardTheMeasure: both ends of the estimate, a ratio equal to it, above, below. -/
theorem witness_stretch :
    64225 ≤ 1520 * 65536 / 1524 ∧ 1524 * 65536 / 1524 = 65536 ∧ 65536 ≤ 66847 ∧
    66847 ≤ 1555 * 65536 / 1524 := by decide

/-- Row 100's web at its coast point, with a coast count. -/
def coasting (n : Nat) : State :=
  webAt 1001565#32 (locked.setMkt { locked.mkt with coastCount := n })

/-- CoastMakesARowAtTheExpectedPoint: a coast that waits for a deglitch, the first count of the coast
point, a count at coast_limit, and a point at the first count of the exemption span. -/
theorem witness_coast :
    Admitted (deglitching 1001564#32 (coasting 0)) context newest100 1001564#32 ∧
    CoastReached (coasting 0) context 1001524#32 ∧ TrackInv (coasting 2) ∧
    (coasting 2).mkt.coastCount = context.job.coastLimit ∧ ¬Exempt (coasting 2) 1001524#32 ∧
    Exempt ((coasting 2).setMkt { (coasting 2).mkt with
      exemption := some ⟨1001524#32, 1001525#32⟩ }) 1001524#32 ∧
    (coasting 2).mkt.deglitch = none := by
  refine ⟨.inl ⟨.inl rfl, 1001524#32, rfl, by decide +kernel, by decide +kernel⟩,
    ⟨.inl rfl, rfl, by decide +kernel⟩, trackInv_one _ row100 rfl rfl (by decide), rfl, ?_,
    ⟨_, rfl, by decide +kernel, by decide +kernel⟩, rfl⟩
  rintro ⟨w, h, -⟩
  cases h

/-- 64 rows, their entries as given, at row 100's coast point. -/
def full (e : LaneEntry) : State :=
  (coasting 0).setRot
    { track := (List.range 64).map fun i =>
        { row (BitVec.ofNat 32 (37 + i)) 1000000#32 999876#32 1001400#32 1017650#32 none
            (.done 1001000#32 false) with
          entries := ⟨some e, none, none, none⟩ }
      lastNumber := 100#32, overflowDetector := .armed }

/-- FullTrackRetiresItsOldestRowOrOverflows: 64 rows with the oldest decided, or still OPEN. -/
theorem witness_full :
    (full (.good 1)).rot.track.length = 64 ∧ CoastReached (full (.good 1)) context 1001524#32 ∧
    ((full (.good 1)).rot.track.head?.map fun r => r.entries.l0) = some (some (.good 1)) ∧
    ((full (.undecided noReasons)).rot.track.head?.map fun r => r.entries.l0) =
      some (some (.undecided noReasons)) ∧
    (after .coast (full (.good 1))).rot.lastNumber = 101#32 ∧
    (after .coast (full (.undecided noReasons))).rnc.faultCode = some .trackOverflow ∧
    (let s := deglitching 1001527#32 (full (.good 1))
     Kept s ⟨1001527#32, 6⟩ ∧ MarkAsks s context mach 1001527#32 ∧ s.rnc.record = some mach ∧
     (after .markKept s).rot.lastNumber = 101#32) :=
  ⟨by decide +kernel, ⟨.inl rfl, rfl, by decide +kernel⟩, by decide +kernel, by decide +kernel,
   by decide +kernel, by decide +kernel, ⟨rfl, rfl, by decide +kernel⟩,
   .inr ⟨newest100, rfl, .inl ⟨.inl rfl, 1001524#32, rfl, by decide +kernel, by decide +kernel⟩,
     by decide +kernel⟩, rfl, by decide +kernel⟩

/-- A full pending list, with a guard. -/
def crowded (g : Option Count) (s : State) : State :=
  s.setNtp { s.ntp with
    spans := List.replicate 32 ⟨1001000#32, 1003000#32, Lanes.fill true, .defect⟩, guardPoint := g }

/-- SplicePointsLeadToReacquire: the held point reached and one count beyond the front; a splice in OFF,
with no point held, with one held before and after it, and at the front with d_splice = 0. -/
theorem witness_splice :
    atOrBeyond 1010000#32 1010000#32 = true ∧ before 1009999#32 1010000#32 = true ∧
    recorded.rnc.runState = .off ∧ recorded.rnc.record = some mach ∧ inRun.rnc.runState ≠ .off ∧
    0 < mach.spliceMargin ∧ mach.spliceMargin ≤ 65535 ∧ inRun.mkt.reacquirePoint = none ∧
    before inRun.trc.front (inRun.trc.front + BitVec.ofNat 32 mach.dSplice) = true ∧
    beyond 30000#32 29999#32 = true ∧ beyond 30000#32 30000#32 = false ∧
    atOrBeyond inRun.trc.front (inRun.trc.front + BitVec.ofNat 32 0) = true ∧
    ({ mach with spliceMargin := 0 } : MachineRecord).spliceMargin = 0 ∧
    inRun.rot.track = [] ∧ inRun.ntp.spans = [] ∧ (crowded none locked).ntp.spans.length = 32 ∧
    rowHit 1001000#32 1003000#32 row100 = true := by decide +kernel

/-- SplicePointsLeadToReacquire: a track in order with a row. -/
theorem witness_splice_track : TrackInv (crowded none locked) :=
  trackInv_one _ row100 rfl rfl (by decide)

/-! ### Witnesses: the knife -/

/-- Row 100 alone with the leads of v = 50, the front at a count. -/
def aiming (f : Count) : State := webAt f (led (tracked [row100] inRun))

/-- FireHappensWhenItsConditionsHold: the six conditions at the target itself, a lateness of knife_tol and
one beyond it, and no cut ready one count before the target. -/
theorem witness_fire :
    CutReady (aiming 1017490#32) row100 ∧ (aiming 1017490#32).rnc.record = some mach ∧
    ((1017514#32 : Count) - retreat row100.fireBase 160).toNat = job.knifeTol ∧
    ((1017515#32 : Count) - retreat row100.fireBase 160).toNat = job.knifeTol + 1 ∧
    (∀ r, ¬CutReady (aiming 1017489#32) r) := by
  refine ⟨⟨⟨by decide +kernel, rfl, rfl, .inl rfl, rfl, fun f h => by cases h⟩, rfl⟩, rfl,
    by decide +kernel, by decide +kernel, fun r h => ?_⟩
  have e : nextCut (aiming 1017489#32) = some row100 := rfl
  have q := h.next
  rw [e] at q
  cases q
  have t := h.target
  revert t
  decide +kernel

/-- R62: a change of run state tests the next cut, here at STOP and at ENCODER. -/
theorem test_fire_at_run_state_change :
    (after .stop (aiming 1017490#32)).knt.cycle.map (fun c => c.row) = some 100#32 ∧
    (after .illegalTransition (aiming 1017490#32)).knt.cycle.map (fun c => c.row) = some 100#32 ∧
    (after .illegalTransition (aiming 1017489#32)).knt.cycle = none := by decide +kernel

/-- HomeAndStallEndTheStroke: the knife idle, a tracked and an untracked stroke, a second and a third
stall, in RUN and in READY. -/
theorem witness_stroke :
    inRun.knt.cycle = none ∧ inFlight.knt.cycle = some ⟨101#32, 1019017#32, 0, false, 40, true⟩ ∧
    (after .abort inFlight).knt.cycle = some ⟨101#32, 1019017#32, 0, false, 40, false⟩ ∧
    inFlight.knt.stallCount < 2 ∧
    2 ≤ (inFlight.setKnt { inFlight.knt with stallCount := 2 }).knt.stallCount ∧
    FaultsRaised inFlight ∧ (after .abort inFlight).rnc.runState = .ready ∧
    ∀ a ∈ targetActs, targetDue a inFlight = false := by
  refine ⟨rfl, rfl, by decide +kernel, by decide +kernel, by decide +kernel, .inl rfl,
    by decide +kernel, by decide +kernel⟩

/-- KnifeFireIsHeldThroughTheStroke: a fire from IDLE, a HOME that ends the assertion, one that leaves the
gap, and the gap's end. -/
theorem witness_knifeFire :
    (aiming 1017490#32).knt.cycle = none ∧
    (exec .fire (aiming 1017490#32) = .next (after .fire (aiming 1017490#32))) ∧
    (after .fire (aiming 1017490#32)).knt.cycle.isSome = true ∧
    knifeFire inFlight = true ∧ (exec .home inFlight = .next (after .home inFlight)) ∧
    knifeFire (after .home inFlight) = false ∧ (after .home inFlight).knt.cycle = none ∧
    (after .home (webAt 1020580#32 inFlight)).knt.output = .gap ∧ isReset .powerOnReset :=
  ⟨rfl, rfl, by decide +kernel, by decide +kernel, rfl, by decide +kernel, by decide +kernel,
   by decide +kernel, .inl rfl⟩

/-! ### Witnesses: notes and the horizon -/

/-- PageTakingHoldsTheHeader: 3 notes; and 0, 48 and 49 notes are other headers. -/
theorem witness_pageTaking :
    let s := noting .pageTaking (spans.setPxm { spans.pxm with memory := page3 })
    s.pxm.memory.wf = true ∧ NoteTurn s .pageTaking [] ∧
    (Memory.readWord s.pxm.memory (pageBase s.ntp.expectedPage + 2)).toNat = 3 ∧
    (Memory.readWord (pageA 49#16 0 []) (pageBase .a + 2)).toNat = 49 :=
  ⟨by decide +kernel, ⟨rfl, rfl, rfl, rfl⟩, by decide +kernel, by decide +kernel⟩

/-- The page in work of the readings. -/
def work3 (i : Nat) : PageInWork := ⟨.a, 3, 983300#32, i⟩

/-- BadFieldsAreNamedAndHaveNoEffect: a bad kind, and every kind. -/
theorem witness_badFields :
    NoteAtTurn (reading pageBad 3 0 inRun) (work3 0) [] ∧
    decodeNote pageBad (pageBase .a + 16 + 16 * 0) = .inr 0 ∧ noteKind pageBad 0x410 = .unknown ∧
    noteKind page3 0x410 = .span ∧ noteKind (pageA 2#16 0 (rowWords 760 3#16)) 0x410 = .row ∧
    noteKind pageLane 0x410 = .lane ∧ noteKind pageConveyor 0x410 = .conveyor ∧
    noteKind pageJob 0x410 = .job :=
  ⟨⟨⟨rfl, rfl, rfl, rfl⟩, rfl, rfl⟩, by decide +kernel, by decide +kernel, by decide +kernel, by decide +kernel,
   by decide +kernel, by decide +kernel, by decide +kernel⟩

/-- The two rows of the first worked sequence are a track in order. -/
theorem spans_trackInv : TrackInv spans := by
  have e : trackNumbers spans = [700#32, 701#32] := rfl
  have n : spans.rot.lastNumber = 701#32 := rfl
  constructor
  · decide +kernel
  · rw [e]; decide
  · rw [e, n]; simp
  · rw [e]; simp

/-- SpanNoteMarksWhatItHits: notes 0 and 1, with a CURRENT job and with none. -/
theorem witness_spanNote :
    NoteAtTurn (reading page3 3 0 spans) (work3 0) [] ∧
    decodeNote page3 (pageBase .a + 16 + 16 * 0) = .inl (.span 982000#32 300 900 300) ∧
    decodeNote page3 (pageBase .a + 16 + 16 * 1) = .inl (.span 982000#32 1200 900 300) ∧
    spans.jbc.current = some context ∧ spans.rnc.record = some mach ∧ TrackInv spans ∧
    (982000#32 : Count) + BitVec.ofNat 32 mach.dCam = 1002000#32 ∧
    Remains spans context 1003200#32 900 300 ∧ ¬Remains spans context 1002300#32 900 300 ∧
    spans.ntp.spans.length < 32 ∧ State.reset.jbc.current = none := by
  refine ⟨⟨⟨rfl, rfl, rfl, rfl⟩, rfl, rfl⟩, by decide +kernel, by decide +kernel, rfl, rfl, spans_trackInv,
    by decide, ⟨fun r h => ?_, .l0, by decide +kernel⟩, fun h => ?_, by decide +kernel, rfl⟩
  · cases h; decide +kernel
  · have b := h.1 _ (show newestRow spans = some _ from rfl)
    revert b
    decide +kernel

/-- SpanNoteMarksWhatItHits: a row and lane that note 0 hits and that is OPEN, a lane it hits that is
DECIDED, a gone part, a full pending list with a guard and with none, and a GOOD label that is hit, its
stack in the line and gone. -/
theorem witness_spanNote_parts :
    AppliedOpen spans 1002000#32 1002300#32 900 300 ∧
    LateLane (full (.good 1)) 1000000#32 1000001#32 100 1 .l0 ∧
    GonePart spans 999875#32 1000000#32 ∧
    (∃ l, laneReached job 900 300 l = true) ∧ ¬(∃ l, laneReached job 2000 100 l = true) ∧
    (let s := crowded (some 1002000#32) spans
     32 ≤ s.ntp.spans.length ∧ s.ntp.guardPoint = some 1002000#32 ∧
     (crowded none spans).ntp.guardPoint = none) ∧
    (suspectRecords (spanHit (full (.good 1)) 1000000#32 1000001#32 100 1) (full (.good 1))).length =
      64 ∧
    suspectRows (spanHit (full (.good 1)) 1000000#32 1000001#32 100 1)
      (lane0 [stack 1 200 5 5 .filling] 2 [] (full (.good 1))).rot.track .l0 1 =
        trackNumbers (full (.good 1)) := by
  refine ⟨⟨_, .l0, noReasons, ⟨List.mem_cons_of_mem _ List.mem_cons_self, by decide +kernel⟩, rfl⟩,
    ⟨_, .good 1, ⟨List.mem_map.mpr ⟨0, by decide, rfl⟩, by decide +kernel⟩, rfl,
      fun x h => by cases h⟩,
    .inl ⟨_, rfl, by decide⟩, ⟨.l0, by decide⟩, ?_, by decide +kernel, by decide +kernel,
    by decide +kernel⟩
  rintro ⟨l, h⟩
  cases l <;> revert h <;> decide

/-- A track whose one row has the entries given in lanes 0 and 1, with page notes on row 834. -/
def marked (e f : Option LaneEntry) (n : Nat) : State :=
  reading (pageA 1#16 0 (rowWords n 3#16)) 3 0 (lane0 [stack 14 200 5 5 .filling] 15 []
    (tracked [{ row 834#32 1000000#32 999876#32 1001400#32 1017650#32 none .pending with
      entries := ⟨e, f, none, none⟩ }] inRun))

/-- RowNoteMarksTheRowItNames: rows present, gone, not yet created and ENDED; entries none, OPEN, GOOD
with the stack in its line, and REJECT; and no CURRENT job. -/
theorem witness_rowNote :
    let s := marked (some (.good 14)) (some (.undecided noReasons)) 834
    NoteAtTurn s (work3 0) [] ∧
    decodeNote s.pxm.memory (pageBase .a + 16 + 16 * 0) =
      .inl (.row 834#32 ⟨true, true, false, false⟩) ∧
    s.jbc.current ≠ none ∧ TrackInv s ∧ (∃ r, standing 834#32 s = .present r ∧ r.tag ≠ .ended ∧
      r.entries.get .l0 = some (.good 14) ∧ openIn .l1 r = true) ∧
    standing 760#32 s = .gone ∧ standing 840#32 s = .notYetCreated ∧
    ((s.skc.get .l0).line.find? fun x => x.id == 14) = some (stack 14 200 5 5 .filling) ∧
    (∃ r, standing 834#32 (marked none none 834) = .present r ∧ r.entries.get .l0 = none) ∧
    (reading page3 3 0 State.reset).jbc.current = none := by
  refine ⟨⟨⟨rfl, rfl, rfl, rfl⟩, rfl, rfl⟩, by decide +kernel, by decide +kernel,
    trackInv_one _ _ rfl rfl (by decide), ⟨_, rfl, by decide, rfl, rfl⟩, by decide +kernel,
    by decide +kernel, by decide +kernel, ⟨_, rfl, rfl⟩, rfl⟩

/-- LaneNoteActsOnItsLanes: a target that passes every lane, and one at the shelf_max of lane 0. -/
theorem witness_laneNote :
    NoteAtTurn (reading pageLane 3 0 inRun) (work3 0) [] ∧
    decodeNote pageLane (pageBase .a + 16 + 16 * 0) =
      .inl (.lane ⟨true, false, false, false⟩ ⟨true, false, false, true⟩ 50) ∧
    inRun.jbc.current = some context ∧ (job.lane.get .l0).shelfMax < 50 ∧
    job.active .l0 = true ∧ (job.lane.get .l0).shelfMax = 4 ∧
    decodeNote (pageA 1#16 0 [3#16, 0#16, 15#16, 15#16, 4#16, 0#16, 0#16, 0#16]) 0x410 =
      .inl (.lane (Lanes.fill true) ⟨true, true, true, true⟩ 4) ∧
    State.reset.jbc.current = none :=
  ⟨⟨⟨rfl, rfl, rfl, rfl⟩, rfl, rfl⟩, by decide +kernel, rfl, by decide, by decide, rfl, by decide +kernel, rfl⟩

/-- LaneNoteActsOnItsLanes: CLOSE_SHORT of lane 0, whose FRONT is FILLING and is granted, with lane 2, which
the note does not name, waiting with a CLOSED FRONT and granted by the pass of the joining. -/
theorem witness_laneNote_close :
    let s := reading (pageA 1#16 0 [3#16, 0#16, 1#16, 4#16, 0#16, 0#16, 0#16, 0#16]) 3 0
      (lane0 [stack 14 200 5 5 .filling] 15 [] (waiting2 0))
    ArbiterInv s ∧ NoteAtTurn s (work3 0) [] ∧
    decodeNote s.pxm.memory (pageBase .a + 16 + 16 * 0) =
      .inl (.lane ⟨true, false, false, false⟩ ⟨false, false, true, false⟩ 0) ∧
    (after .laneNote s).skc.l0.line =
      [{ stack 14 200 5 5 .pushing with
          closeKind := some .shortCmd, closePoint := some s.trc.front, conveyor := some .c0 }] ∧
    (after .laneNote s).skc.l2.line =
      [{ stack 12 200 200 200 .pushing with conveyor := some .c1 }] := by
  refine ⟨⟨by decide +kernel, by decide +kernel, fun c l n h => ?_, fun c l h => ?_⟩,
    ⟨⟨rfl, rfl, rfl, rfl⟩, rfl, rfl⟩, by decide +kernel, by decide +kernel, by decide +kernel⟩
  · cases c <;> cases h
  · cases c <;> cases l <;> first
      | exact ⟨⟨_, rfl, rfl⟩, _, rfl, rfl⟩
      | (exfalso; revert h; decide +kernel)

/-- ConveyorNoteReturnsAnOutConveyor: OUT and AVAILABLE. -/
theorem witness_conveyorNote :
    let s := reading pageConveyor 3 0
      (State.reset.setTka { Tka.reset with conveyors := ⟨.available, .out⟩ })
    NoteAtTurn s (work3 0) [] ∧
    decodeNote pageConveyor (pageBase .a + 16 + 16 * 0) = .inl (.conveyor .c1) ∧
    s.tka.conveyors.get .c1 = .out ∧ s.tka.conveyors.get .c0 ≠ .out :=
  ⟨⟨⟨rfl, rfl, rfl, rfl⟩, rfl, rfl⟩, by decide +kernel, rfl, by decide⟩

/-- The JOB note's turn, with the part in a run state and other sources waiting. -/
def jobTurn (r : RunState) (q : List BurstSource) (m : Memory) : State :=
  let s := reading m 3 0 (runIn r recorded)
  s.setPxm { s.pxm with requests := .notes :: q }

/-- The job copy's turn, in a run state. -/
def copying (r : RunState) : State := noting (.jobCopy 3) (jobTurn r [] pageJob)

/-- JobNoteActivatesAValidJob: a valid and an invalid job in READY, BUSY in OFF and HALTED, and the note
read in READY and RUN. -/
theorem witness_jobNote :
    let s := copying .ready
    JobCopied s (work3 0) [] 3 ∧ s.rnc.record = some mach ∧ s.rnc.runState = .ready ∧
    s.jbc.current = none ∧ s.jbc.previous = none ∧ jobIndex (readJobRecord pageJob 3) mach = none ∧
    jobIndex (readJobRecord pageJob 2) mach = some 1 ∧
    NoteAtTurn (jobTurn .halted [] pageJob) (work3 0) [] ∧
    decodeNote pageJob (pageBase .a + 16 + 16 * 0) = .inl (.job 3) ∧
    (jobTurn .ready [.refresh] pageJob).pxm.requests = [.notes, .refresh] ∧
    NoteAtTurn (jobTurn .ready [.refresh] pageJob) (work3 0) [] ∧
    (after .jobNote (jobTurn .ready [.refresh] pageJob)).pxm.requests = [.refresh, .notes] ∧
    NoteAtTurn (reading pageJob 3 0 locked) (work3 0) [] ∧ locked.rnc.runState = .run :=
  ⟨⟨rfl, ⟨rfl, rfl, rfl, rfl⟩, rfl⟩, rfl, rfl, rfl, rfl, by decide +kernel, by decide +kernel,
   ⟨⟨rfl, rfl, rfl, rfl⟩, rfl, rfl⟩, by decide +kernel, rfl, ⟨⟨rfl, rfl, rfl, rfl⟩, rfl, rfl⟩, by decide +kernel,
   ⟨⟨rfl, rfl, rfl, rfl⟩, rfl, rfl⟩, rfl⟩

/-- JobNoteActivatesAValidJob, the notes that START left to be read: a valid and an invalid job copied, a
JOB note read in READY and in HALTED, one out of range, and a note of another kind. -/
theorem witness_lateJobNote :
    let s := noting (.lateCopy .a 0 3) (jobTurn .ready [] pageJob)
    let n := noting (.lateRead .a 0) (jobTurn .ready [] pageJob)
    NoteTurn s (.lateCopy .a 0 3) [] ∧ s.rpw.halfWork = [] ∧ s.rnc.record = some mach ∧
    s.rnc.runState = .ready ∧ s.jbc.current = none ∧ s.jbc.previous = none ∧
    jobIndex (readJobRecord pageJob 3) mach = none ∧ jobIndex (readJobRecord pageJob 2) mach = some 1 ∧
    NoteTurn n (.lateRead .a 0) [] ∧ noteKind pageJob (pageBase .a + 16 + 16 * 0) = .job ∧
    decodeNote pageJob (pageBase .a + 16 + 16 * 0) = .inl (.job 3) ∧
    (jobTurn .halted [] pageJob).rnc.runState = .halted ∧
    decodeNote (pageA 1#16 0 [5#16, 0#16, 16#16, 0#16, 0#16, 0#16, 0#16, 0#16]) 0x410 = .inr 1 ∧
    noteKind page3 (pageBase .a + 16 + 16 * 0) ≠ .job :=
  ⟨⟨rfl, rfl, rfl, rfl⟩, rfl, rfl, rfl, rfl, rfl, by decide +kernel, by decide +kernel,
   ⟨rfl, rfl, rfl, rfl⟩, by decide +kernel, by decide +kernel, rfl, by decide +kernel,
   by decide +kernel⟩

/-- R166, last row: with START taken first, the JOB note whose read it finds requested activates its job in
the emptied part, and the rest of its page is cut short. -/
theorem test_start_then_jobNote :
    let s := asking [.machine, .notes]
      (reading (Memory.writeWords pageJob 0x40 machineWords) 2 0 (runIn .ready recorded))
    let t := after .jobNote (after .jobNote (after .start s))
    t.rnc.runState = .run ∧ t.jbc.current.map (fun c => c.job.jobId) = some 310 ∧
    t.ntp.work = [.fateWrite .a 0 .done 0, .fateWrite .a 1 .unapplied 0, .cutShortDone .a,
      .stateCheck] ∧ t.ntp.inWork = none := by decide +kernel

/-- JobNoteMakesAChangeover: an old job whose last row is still undecided, and one that made no row. -/
theorem witness_changeover :
    let s := noting (.jobCopy 3) (reading pageJob 3 0 locked)
    JobCopied s (work3 0) [] 3 ∧ s.rnc.runState = .run ∧ s.rnc.record = some mach ∧
    s.jbc.current = some context ∧ s.jbc.previous = none ∧ context.lastRow = some 100#32 ∧
    findRow 100#32 s = some row100 ∧ fullyDecided row100 = false ∧
    jobIndex (readJobRecord s.pxm.memory 3) mach = none ∧
    ({ context with lastRow := none } : JobContext).lastRow = none ∧
    otherRecords s.rpw.queue < 3 :=
  ⟨⟨rfl, ⟨rfl, rfl, rfl, rfl⟩, rfl⟩, rfl, rfl, rfl, rfl, rfl, by decide +kernel,
   by decide +kernel, by decide +kernel, rfl, by decide +kernel⟩

/-- FateWritesAndStateChecks: the last note with the largest detail; a page posted and one that is not. -/
theorem witness_fateWrite :
    NoteTurn (noting (.fateWrite .b 47 .partLate 255) inRun) (.fateWrite .b 47 .partLate 255) [] ∧
    inRun.pxm.memory.wf = true ∧ NoteTurn (noting .stateCheck inRun) .stateCheck [] ∧
    inRun.rnc.runState ≠ .off ∧ inRun.ntp.inWork = none ∧
    Memory.readWord page3 (pageBase .a) = 1#16 ∧ Memory.readWord [] (pageBase .a) ≠ 1#16 :=
  ⟨⟨rfl, rfl, rfl, rfl⟩, by decide, ⟨rfl, rfl, rfl, rfl⟩, by decide, rfl, by decide +kernel, by decide +kernel⟩

/-- PageFinishingAppliesTheHorizon: the page of the worked sequence; a page cut short; a candidate one
before the horizon and one at it. -/
theorem witness_pageFinishing :
    let s := noting .finishing (reading page3 3 3 spans)
    s.pxm.memory.wf = true ∧ NoteTurn s .finishing [] ∧ s.ntp.inWork = some (work3 3) ∧
    s.rnc.record = some mach ∧ (work3 3).hc ≠ 0#32 ∧ s.ntp.horizon = some 1001900#32 ∧
    NoteTurn (noting (.cutShortDone .a) spans) (.cutShortDone .a) [] ∧
    ((1001900#32 : Count) - 1001900#32).toNat < 2147483648 ∧
    ¬((1001899#32 : Count) - 1001900#32).toNat < 2147483648 ∧
    (after .start (runIn .ready spans)).ntp.horizon = none :=
  ⟨by decide +kernel, ⟨rfl, rfl, rfl, rfl⟩, rfl, rfl, by decide, rfl, ⟨rfl, rfl, rfl, rfl⟩, by decide, by decide,
   by decide +kernel⟩

/-! ### Witnesses: decisions, flaps and eyes -/

/-- Row 401 as `judging` holds it. -/
def row401 (x : Reasons) : Row :=
  { row 401#32 1001241#32 1001240#32 1002764#32 1019014#32 (some ⟨1017490#32, false⟩)
      (.done 1019014#32 false) with
    entries := ⟨some (.undecided x), none, none, none⟩ }

/-- `judging` with reasons in row 401's entry, with the front at its decision target. -/
def judged (x : Reasons) : State :=
  webAt 1023330#32 (judging.setRot { judging.rot with track := [row401 x] })

/-- Row 402, behind row 401, its cuts still to come. -/
def row402 : Row :=
  { row 402#32 1002765#32 1002764#32 1004288#32 1020538#32 none .pending with
    entries := ⟨some (.undecided noReasons), none, none, none⟩ }

/-- Rows 401 and 402. -/
def judgedFirst (x : Reasons) : State :=
  webAt 1023330#32 (judging.setRot { judging.rot with track := [row401 x, row402] })

/-- The decision of row 401 stands reached where the track is row 401 alone or with row 402 behind it. -/
theorem row401_due (s : State) (x : Reasons) (t : s.rot.track = [row401 x] ∨
      s.rot.track = [row401 x, row402]) (w : s.trc.web = 1023330#32) (f : s.trc.front = 1023330#32)
    (v : (s.lnd.get .l0).flapLead = 160) : DecisionDue s mach .l0 (row401 x) x := by
  refine ⟨?_, rfl, ?_, by rw [w, f], fun q h _ n => ?_⟩
  · rcases t with t | t <;> rw [nextRow, t] <;> rfl
  · rw [f, v]
    show atOrBeyond 1023330#32 (retreat (advance 1017490#32 6000) 160) = true
    decide
  · rcases t with t | t <;> rw [t] at h
    · rw [List.mem_singleton.mp h] at n
      exact absurd rfl n
    · rcases List.mem_cons.mp h with e | h
      · rw [e] at n; exact absurd rfl n
      · rw [List.mem_singleton.mp h, f, v]; decide

/-- Nothing is found at the decision of row 401 but what its entry holds, in RUN and DRAIN. -/
theorem row401_found (s : State) (x : Reasons) (h : s.ntp.horizon = some 1003000#32)
    (z : s.trc.zone = .run) (r : s.rnc.runState ≠ .halted) (o : (s.skc.get .l0).hold = false) :
    Found s .l0 (row401 x) x x := by
  have g : TrailGood (row401 x) := ⟨_, rfl⟩
  have l : LeadGood (row401 x) := .inl ⟨_, rfl⟩
  have i : Inspected s (row401 x) :=
    ⟨_, h, by show atOrBeyond 1003000#32 1002764#32 = true; decide⟩
  constructor <;> simp [g, l, i, z, r, o]

/-- Nothing waits where no close is pending, no job is PREVIOUS and the run state is not DRAIN. -/
theorem nothingWaits_plain (s : State) (l : Lane) (r : Row) (c : s.jbc.closePending = Lanes.fill false)
    (p : s.rnc.stopPending = Lanes.fill false) (j : s.jbc.previous = none)
    (d : s.rnc.runState ≠ .drain) : NothingWaits s l r := by
  refine ⟨?_, fun x h => ?_, fun h => absurd h d⟩
  · rw [c, p]; cases l <;> exact ⟨rfl, rfl⟩
  · rw [j] at h; cases h

/-- DEFECT alone. -/
def defective : Reasons := { noReasons with defect := true }

/-- DRAIN with row 402 the last row of a PREVIOUS job, and a stack in lane 0. -/
def drainingFirst (x : Reasons) : State :=
  (runIn .drain (judgedFirst x)).setJbc { (judgedFirst x).jbc with
    previous := some { context with lastRow := some 402#32 } }

/-- DecisionPassesAGoodLabel: into the FILLING stack, and into a new one of an empty line; with another
OPEN row behind, with a PREVIOUS job, and in DRAIN. -/
theorem witness_decision_good :
    let s := judgedFirst noReasons
    DecisionDue s mach .l0 (row401 noReasons) noReasons ∧ NothingWaits s .l0 (row401 noReasons) ∧
    DecisionDue (drainingFirst noReasons) mach .l0 (row401 noReasons) noReasons ∧
    NothingWaits (drainingFirst noReasons) .l0 (row401 noReasons) ∧
    s.rnc.runState ≠ .halted ∧ (drainingFirst noReasons).rnc.runState ≠ .halted ∧
    (row401 noReasons).trail = .done 1019014#32 false ∧ LeadGood (row401 noReasons) ∧
    Inspected s (row401 noReasons) ∧ s.trc.zone = .run ∧ (s.skc.get .l0).hold = false ∧
    (s.lnd.get .l0).arrivals.length < 16 ∧ laneTarget (s.skc.get .l0) .current = some 200 ∧
    (s.skc.get .l0).line.getLast? = some (stack 21 200 5 5 .filling) ∧
    (s.skc.get .l0).line.length = 1 ∧
    (lane0 [] 1 [] s).skc.l0.line = [] ∧ 2 ≤ 200 :=
  ⟨row401_due _ _ (.inr rfl) rfl rfl rfl,
   nothingWaits_plain _ _ _ rfl rfl rfl (fun h => by cases h),
   row401_due _ _ (.inr rfl) rfl rfl rfl,
   ⟨⟨rfl, rfl⟩, fun c h => by
      cases h; exact ⟨_, row402, .l0, rfl, by decide +kernel, rfl, .inl (by decide)⟩,
    fun _ => ⟨.l0, fun h => by cases h⟩⟩,
   fun h => (by cases h), fun h => (by cases h), rfl, .inl ⟨_, rfl⟩,
   ⟨_, rfl, by decide +kernel⟩, rfl, rfl, by decide +kernel, rfl, rfl, rfl, rfl, by decide⟩

/-- DecisionRejectsWithItsReasons: a reason found, its tally's reason first, and no reason but no place,
with the shelf at its limit behind a stack that is not FILLING. -/
theorem witness_decision_reject :
    DecisionDue (judgedFirst defective) mach .l0 (row401 defective) defective ∧
    NothingWaits (judgedFirst defective) .l0 (row401 defective) ∧
    Found (judgedFirst defective) .l0 (row401 defective) defective defective ∧
    defective ≠ noReasons ∧ Primary defective .defect ∧
    Found (judged noReasons) .l0 (row401 noReasons) noReasons noReasons ∧
    (let s := lane0 [stack 30 6 6 5 .completing, stack 31 6 4 0 .completing] 32 []
       (judged noReasons)
     ∃ st, (s.skc.get .l0).line.getLast? = some st ∧ st.state ≠ .filling ∧
       (s.skc.get .l0).shelfLimit ≤ shelfTotal (s.skc.get .l0).line) ∧
    (judged defective).jbc.current = some context :=
  ⟨row401_due _ _ (.inr rfl) rfl rfl rfl,
   nothingWaits_plain _ _ _ rfl rfl rfl (fun h => by cases h),
   row401_found _ _ rfl rfl (fun h => by cases h) rfl, by decide, ⟨by decide, by decide⟩,
   row401_found _ _ rfl rfl (fun h => by cases h) rfl, ⟨_, rfl, by decide, by decide +kernel⟩, rfl⟩

/-- PassEndsAndPassedWindows: the pass end and the count before it; a window's high and the count past
it. -/
theorem witness_passEnd :
    (passing.lnd.get .l0).flap = .pass 1019014#32 ∧ passing.rnc.record = some mach ∧
    atOrBeyond 1024854#32 (retreat (advance 1019014#32 6000) 160) = true ∧
    before 1024853#32 (retreat (advance 1019014#32 6000) 160) = true ∧
    (awaiting.lnd.get .l0).arrivals = [⟨402#32, 21, 1027954#32, 1028074#32⟩] ∧
    beyond 1028075#32 1028074#32 = true ∧ beyond 1028074#32 1028074#32 = false ∧
    (passing.lnd.get .l0).flapLead = 160 := by decide +kernel

/-- The arbiter is in order where nothing is pushed, reserved, recorded or waiting. -/
theorem arbiterInv_rest (s : State) (h : s.tka = Tka.reset) (q : s.rpw.queue = []) :
    ArbiterInv s := by
  constructor
  · rw [h, q]; rfl
  · rw [h]; decide
  · intro c l n e; rw [h] at e; cases c <;> cases e
  · intro c l e; rw [h] at e; revert e; cases c <;> cases l <;> (intro e; cases e)

/-- EyeConfirmsOrCountsAnExtra: both ends of the window, one count outside each, no entry, no stack, READY
and re-travel. -/
theorem witness_eye :
    ArbiterInv awaiting ∧ FaultsRaised awaiting ∧ awaiting.trc.web = awaiting.trc.front ∧
    atOrBeyond 1027954#32 1027954#32 = true ∧ atOrBeyond 1028074#32 1028074#32 = true ∧
    before 1027953#32 1027954#32 = true ∧ before 1028074#32 1028075#32 = true ∧
    (judging.lnd.get .l0).arrivals = [] ∧
    (judging.skc.get .l0).line.getLast? = some (stack 21 200 5 5 .filling) ∧
    (inRun.skc.get .l0).line = [] ∧ (runIn .ready recorded).rnc.runState = .ready ∧
    (inRun.setTrc { inRun.trc with front := 1#32 }).trc.web ≠ 1#32 :=
  ⟨arbiterInv_rest _ rfl rfl, .inl rfl, rfl, by decide, by decide, by decide, by decide, rfl, rfl, rfl,
   rfl, by decide⟩

/-! ### Witnesses: the ends of runs and jobs -/

/-- Two contexts held, the PREVIOUS one's last row undecided and the CURRENT one's row behind it. -/
def changing : State :=
  (tracked [{ row100 with tag := .previous },
      row 101#32 1001527#32 1001400#32 1002927#32 1019177#32 none .pending] inRun).setJbc
    { Jbc.reset with current := some { context with firstRow := some 101#32, lastRow := some 101#32 },
                     previous := some context, closePending := ⟨true, true, false, false⟩ }

/-- AbortAndAckFaultAbandonTheRun: one and two contexts, with OPEN rows of both, and lanes in order with an
arrival still expected. -/
theorem witness_abandon :
    locked.rnc.runState = .run ∧ stood.rnc.runState = .halted ∧ stood.trc.standstill = 200 ∧
    locked.jbc.current = some context ∧ locked.jbc.previous = none ∧ context.tallies.stopped ≤ 65535 ∧
    otherRecords locked.rpw.queue < 3 ∧ openEntries .current locked.rot.track = 2 ∧
    changing.jbc.previous = some context ∧ context.lastRow = some 100#32 ∧
    findRow 100#32 changing = some { row100 with tag := .previous } ∧
    fullyDecided { row100 with tag := .previous } = false ∧
    openEntries .previous changing.rot.track = 2 := by decide +kernel

/-- AbortAndAckFaultAbandonTheRun: the lanes of `awaiting` are in order. -/
theorem witness_abandon_lines : StackInv awaiting ∧
    (awaiting.lnd.get .l0).arrivals = [⟨402#32, 21, 1027954#32, 1028074#32⟩] ∧
    (awaiting.skc.get .l0).line = [stack 21 200 7 6 .filling] := by
  refine ⟨⟨arbiterInv_rest _ rfl rfl, fun l => ?_, fun l => by cases l <;> decide +kernel⟩, rfl, rfl⟩
  constructor
  case accounts => unfold StackAccounts; cases l <;> decide +kernel
  all_goals cases l <;> decide +kernel

/-- DRAIN with row 401 the stop row of lane 0 and the last OPEN entry, its decision reached. -/
def stoppingLast (x : Reasons) : State :=
  (runIn .drain (judged x)).setRnc { (runIn .drain (judged x)).rnc with
    stopRows := ⟨some 401#32, none, none, none⟩, stopPending := ⟨true, false, false, false⟩ }

/-- No entry of the track is OPEN, row 401 being decided, and lane 0 holds a stack. -/
def decidedStacked : State :=
  let s := judged noReasons
  s.setRot { s.rot with track := [{ row401 noReasons with entries := ⟨some (.good 21), none, none, none⟩ }] }

/-- StopFixesStopRows: lane 0 waits for row 100 and lane 2 does not; no entry OPEN and a line with a stack;
and a decision of a stop row in DRAIN. -/
theorem witness_stop : stopping.rnc.runState = .run ∧ LeftToDrain stopping ∧
    StopRowOpen stopping .l0 ∧ ¬StopRowOpen stopping .l2 ∧ ArbiterInv stopping ∧
    (decidedStacked.rnc.runState = .run ∧ LeftToDrain decidedStacked ∧ ArbiterInv decidedStacked ∧
     (∀ r ∈ decidedStacked.rot.track, fullyDecided r = true) ∧
     stopRow .l0 decidedStacked.rot.track = some 401#32 ∧
     (after .stop decidedStacked).rnc.runState = .drain) ∧
    (let s := stoppingLast noReasons
     DecisionDue s mach .l0 (row401 noReasons) noReasons ∧ ArbiterInv s ∧ s.rnc.runState = .drain ∧
     s.rnc.stopPending.get .l0 = true ∧ s.rnc.stopRows.get .l0 = some 401#32 ∧
     s.jbc.closePending.get .l0 = false) := by
  refine ⟨by decide +kernel, .inl ⟨row100, by decide +kernel, by decide⟩,
    ⟨100#32, row100, by decide +kernel, by decide +kernel, by decide +kernel⟩,
    ?_, arbiterInv_rest _ rfl rfl, ⟨rfl, .inr ⟨.l0, by decide +kernel⟩, arbiterInv_rest _ rfl rfl,
      by decide +kernel, by decide +kernel, by decide +kernel⟩, row401_due _ _ (.inl rfl) rfl rfl rfl, arbiterInv_rest _ rfl rfl,
    rfl, rfl, rfl, rfl⟩
  rintro ⟨n, r, h, -, -⟩
  have e : stopRow .l2 stopping.rot.track = none := by decide +kernel
  rw [e] at h
  cases h

/-- StopOfAnEmptyPartEndsDrain: STOP with no row tracked, and with a decided one, no line holding a stack,
with one context and with two. -/
theorem witness_stop_empty : inRun.rnc.runState = .run ∧ inRun.rot.track = [] ∧
    (let s := lane0 [] 22 [] decidedStacked
     s.rnc.runState = .run ∧ s.rot.track ≠ [] ∧ (∀ r ∈ s.rot.track, fullyDecided r = true) ∧
     (∀ l, (s.skc.get l).line = []) ∧ (after .stop s).rnc.runState = .ready) ∧
    (∀ l, (inRun.skc.get l).line = []) ∧ inRun.jbc.current = some context ∧
    inRun.jbc.previous = none ∧ otherRecords inRun.rpw.queue < 3 ∧
    (inRun.setJbc { inRun.jbc with previous := some context }).jbc.previous = some context :=
  ⟨rfl, rfl, ⟨rfl, by decide +kernel, by decide +kernel, fun l => by cases l <;> rfl, by decide +kernel⟩,
   fun l => by cases l <;> rfl, rfl, rfl, by decide +kernel, rfl⟩

/-- StopOfAnEmptyPartEndsDrain: the decision of the last OPEN entry, a stop row, with no stack left. -/
theorem witness_drain_decision :
    let s := lane0 [] 22 [] (stoppingLast defective)
    DecisionDue s mach .l0 (row401 defective) defective ∧ s.rnc.runState = .drain ∧
    (∀ k, (s.skc.get k).line = []) ∧ Found s .l0 (row401 defective) defective defective ∧
    (∀ q ∈ s.rot.track, ∀ k, openIn k q = true → q.number = 401#32 ∧ k = .l0) ∧
    (∀ k, s.rnc.stopPending.get k = true → k = .l0 ∧ s.rnc.stopRows.get .l0 = some 401#32) ∧
    s.jbc.current = some context ∧ s.jbc.previous = none ∧ (row401 defective).tag = .current ∧
    Primary defective .defect ∧ otherRecords s.rpw.queue < 4 := by
  refine ⟨row401_due _ _ (.inl rfl) rfl rfl rfl, rfl, fun k => by cases k <;> rfl,
    row401_found _ _ rfl rfl (fun h => by cases h) rfl, fun q h k o => ?_, fun k h => ?_, rfl, rfl, rfl,
    ⟨by decide, by decide⟩, by decide +kernel⟩
  · rw [List.mem_singleton.mp (show q ∈ [row401 defective] from h)] at o ⊢
    cases k <;> first | exact ⟨rfl, rfl⟩ | cases o
  · cases k <;> first | exact ⟨rfl, rfl⟩ | cases h

/-- StopOfAnEmptyPartEndsDrain: DRAIN waits for the one stack that conveyor 0 pushes. -/
theorem witness_drain_push :
    let s := runIn .drain (pushing [] inRun)
    DrainWaitsFor s .l0 ∧ ArbiterInv s ∧ s.tka.conveyors.get .c0 = .pushing .l0 5000 ∧
    (∃ x, (s.skc.get .l0).line = [x]) ∧ s.jbc.current = some context ∧ s.jbc.previous = none ∧
    otherRecords s.rpw.queue < 3 := by
  refine ⟨⟨rfl, fun r h => (by cases h), fun k => by cases k <;> rfl, fun k h => ?_⟩,
    ⟨by decide +kernel, by decide +kernel, fun c l n h => ?_, fun c l h => ?_⟩, rfl, ⟨_, rfl⟩, rfl, rfl,
    by decide +kernel⟩
  · cases k <;> first | rfl | exact absurd rfl h
  · cases c <;> cases h
    exact ⟨_, rfl, rfl, rfl⟩
  · exfalso; revert h; cases c <;> cases l <;> decide +kernel

/-- Row 401 is the last row of a PREVIOUS job, whose close of lane 0 is pending. -/
def endingJob (x : Reasons) : State :=
  (judged x).setJbc { (judged x).jbc with
    previous := some { context with lastRow := some 401#32 },
    closePending := ⟨true, false, false, false⟩ }

/-- JobNoteMakesAChangeover: the decision that closes SHORT_JOB and frees the job, and the one whose label
is still awaited. -/
theorem witness_freed_decision :
    let s := endingJob defective
    let c : JobContext := { context with lastRow := some 401#32 }
    let v := judge mach .l0 (row401 defective) defective s
    let w := judge mach .l0 (row401 noReasons) noReasons (endingJob noReasons)
    DecisionDue s mach .l0 (row401 defective) defective ∧ s.jbc.previous = some c ∧
    s.jbc.closePending.get .l0 = true ∧ s.rnc.stopPending.get .l0 = false ∧ ArbiterInv s ∧
    v.jbc.previous = some c ∧ (∀ k, k ≠ .l0 → openIn k (row401 defective) = false) ∧
    LastRowDone c v ∧ (∀ k, NoneOfItsRows c (v.lnd.get k).arrivals) ∧
    findRow 401#32 s = some (row401 defective) ∧
    DecisionDue (endingJob noReasons) mach .l0 (row401 noReasons) noReasons ∧
    w.jbc.previous = some c ∧ ¬NoneOfItsRows c (w.lnd.get .l0).arrivals := by
  refine ⟨row401_due _ _ (.inl rfl) rfl rfl rfl, rfl, rfl, rfl, arbiterInv_rest _ rfl rfl,
    by decide +kernel, fun k h => ?_, fun n q a b => ?_, fun k n a => ?_, by decide +kernel,
    row401_due _ _ (.inl rfl) rfl rfl rfl, by decide +kernel, fun h => ?_⟩
  · cases k <;> first | rfl | exact absurd rfl h
  · cases a
    rw [show findRow 401#32 (judge mach .l0 (row401 defective) defective (endingJob defective)) =
      some { row401 defective with entries := ⟨some (.reject defective), none, none, none⟩ } from by
        decide +kernel] at b
    cases b; rfl
  · cases a; cases k <;> decide +kernel
  · revert h
    unfold NoneOfItsRows
    intro h
    have q := h 401#32 rfl ⟨401#32, 21, 1026430#32, 1026550#32⟩ (by decide +kernel)
    revert q; decide

/-- JobNoteMakesAChangeover: the oldest arrival resolved by its passed window and by an edge, with the
PREVIOUS job's last row gone and nothing else of it expected; and one with a later arrival of it. -/
theorem witness_freed_resolution :
    let s := awaiting.setJbc { awaiting.jbc with
      previous := some { context with lastRow := some 402#32 } }
    let a : Arrival := ⟨402#32, 21, 1027954#32, 1028074#32⟩
    let c : JobContext := { context with lastRow := some 402#32 }
    (s.lnd.get .l0).arrivals = [a] ∧ s.jbc.previous = some c ∧
    Resolves (webAt 1028075#32 s) .l0 a (.windowPassed .l0) ∧
    Resolves (webAt 1028074#32 s) .l0 a (.eye .l0) ∧ LastRowDone c s ∧ NoneOfItsRows c [] ∧
    (∀ k, k ≠ .l0 → NoneOfItsRows c (s.lnd.get k).arrivals) ∧ ¬NoneOfItsRows c [a] := by
  refine ⟨rfl, rfl, .inl ⟨rfl, by decide⟩, .inr ⟨rfl, .inl rfl, rfl, by decide, by decide⟩,
    fun n q a b => ?_, fun n _ x h => (by cases h), fun k h n _ x y => ?_, fun h => ?_⟩
  · cases a; revert b
    rw [show findRow 402#32 _ = none from by decide +kernel]
    intro b; cases b
  · cases k <;> first | exact absurd rfl h | cases y
  · have q := h 402#32 rfl _ List.mem_cons_self
    revert q; decide

/-! ### Witnesses: takeaway -/

/-- Two lanes contend for a conveyor, and the arbiter is in order. -/
theorem contending_arbiter (age : Nat) : ArbiterInv (contending age) := by
  refine ⟨rfl, show 1 ≤ 12 by decide, fun c l n h => ?_, fun c l h => ?_⟩
  · cases c <;> cases h
    exact ⟨_, rfl, rfl, rfl⟩
  · cases c <;> cases l <;> first
      | exact ⟨⟨_, rfl, rfl⟩, _, rfl, rfl⟩
      | cases h

/-- DeliveryAndRemovalEndAPush: a conveyor PUSHING and one that is not, none waiting, and a full and a
free report queue. -/
theorem witness_push :
    (∀ l n, (contending 0).tka.conveyors.get .c1 ≠ .pushing l n) ∧
    (contending 0).tka.conveyors.get .c0 = .pushing .l0 5000 ∧
    ((contending 0).skc.get .l0).line.length = 3 ∧ (contending 0).rnc.runState ≠ .drain ∧
    (runIn .drain (contending 0)).rnc.runState = .drain ∧
    NoneWaits (pushing [] inRun) ∧ frontClosed [] = false ∧
    otherRecords (contending 0).rpw.queue < 4 ∧
    4 ≤ otherRecords (List.replicate 4 (Record.jobStart 1 1#32)) := by
  refine ⟨fun l n h => (by cases h), rfl, rfl, by decide, rfl, fun c l => ?_, rfl, by decide +kernel,
    by decide +kernel⟩
  cases c <;> cases l <;> rfl

/-- `contending` once lane 0's FRONT has left: lane 0 joins with its next stack, CLOSED, and the conveyor's
state and the reservation count are given. -/
def departed (age n : Nat) (x : ConveyorState) : State :=
  let s := contending age
  (s.setSkc (s.skc.set .l0 { s.skc.l0 with line := s.skc.l0.line.tail, shelfLimit := 200 })).setTka
    { s.tka with conveyors := ⟨x, .available⟩, reservations := n,
                 waiting := ⟨⟨some 0, some age, none, none⟩, Lanes.fill none⟩ }

/-- DeliveryAndRemovalEndAPush, the departure with a CLOSED stack behind the FRONT and another lane waiting:
at equal priority the lower lane is first, and at a greater age the other one. -/
theorem witness_departed :
    let s := contending 0
    (∃ x rest, (s.skc.get .l0).line = x :: rest ∧ frontClosed rest = true ∧
      Departed mach .c0 .available .l0 x rest s (departed 0 1 .available) ∧
      firstAtDelivery .c0 rest = .c1) ∧
    s.rnc.record = some mach ∧ ArbiterInv s ∧
    FreeAtTurn .c1 (departed 0 1 .available) .c0 ∧
    FirstToBeGranted mach (departed 0 1 .available) .c0 .l0 ∧
    FirstToBeGranted mach (departed 1 1 .available) .c0 .l1 := by
  refine ⟨⟨_, _, rfl, by decide, ⟨rfl, rfl, fun d k => ?_, by decide +kernel, rfl, fun k h => ?_⟩, rfl⟩, rfl,
    contending_arbiter 0, ⟨by decide, fun h => by cases h⟩, ⟨0, rfl, fun k b h => ?_⟩, ⟨1, rfl, fun k b h => ?_⟩⟩
  · cases d <;> cases k <;> rfl
  · cases k <;> first | rfl | exact absurd rfl h
  · cases k <;> cases h <;> exact .inr (by decide)
  · cases k <;> cases h
    · exact .inl (by decide)
    · exact .inr (by decide)

/-- AgingTickGrantsTheFirstWaitingLane: lane 2 of conveyor 1 at the greatest age, conveyor 1 AVAILABLE,
and the reservation count at its bounds; with lane 1 waiting for conveyor 0 the last free reservation is
conveyor 0's. -/
theorem witness_aging :
    let busy := fun n => (waiting2 7).setTka { (waiting2 7).tka with
      reservations := n, waiting := ⟨⟨none, some 0, none, none⟩, (waiting2 7).tka.waiting.c1⟩ }
    (waiting2 7).pxm.resetAsserted = false ∧ (waiting2 7).rnc.record = some mach ∧
    (∀ c l a, ((waiting2 7).tka.waiting.get c).get l = some a → a ≤ 7) ∧
    (waiting2 7).tka.conveyors.get .c1 = .available ∧ FreeAtTurn .c0 (waiting2 7) .c1 ∧
    FirstToBeGranted mach (waiting2 7) .c1 .l2 ∧
    FreeAtTurn .c0 (busy 10) .c0 ∧ FreeAtTurn .c0 (busy 10) .c1 ∧ FreeAtTurn .c0 (busy 11) .c0 ∧
    ¬FreeAtTurn .c0 (busy 11) .c1 ∧ ¬FreeAtTurn .c0 (busy 12) .c0 ∧
    FirstToBeGranted mach (busy 11) .c0 .l1 ∧ FirstToBeGranted mach (busy 11) .c1 .l2 ∧
    (after .agingTick (busy 11)).tka.conveyors = ⟨.pushing .l1 5000, .available⟩ ∧
    (∀ l, ((waiting2 7).tka.waiting.get .c0).get l = none) := by
  refine ⟨rfl, rfl, fun c l a h => ?_, rfl, ⟨by decide, fun h => by cases h⟩, ⟨7, rfl, fun k b h => ?_⟩,
    ⟨by decide, fun h => by cases h⟩, ⟨by decide, fun h => by cases h⟩, ⟨by decide, fun _ => .inl rfl⟩, ?_,
    fun h => absurd h.1 (by decide), ⟨0, rfl, fun k b h => ?_⟩, ⟨7, rfl, fun k b h => ?_⟩, by decide +kernel,
    fun l => by cases l <;> rfl⟩
  · cases c <;> cases l <;> cases h
    decide
  · cases k <;> cases h
    exact .inr ⟨rfl, le_refl _⟩
  · intro h
    rcases h.2 rfl with h | h | h
    · cases h
    · exact h rfl
    · exact absurd (h .l1) (by decide)
  · cases k <;> cases h
    exact .inr ⟨rfl, le_refl _⟩
  · cases k <;> cases h
    exact .inr ⟨rfl, le_refl _⟩

/-! ### Witnesses: reports and live status -/

/-- A STACK record. -/
def stackRecord : Record := .stack .l0 (stack 40 200 200 200 .pushing) false

/-- ReportWriteStoresTheOldestRecord: the first slot and the last but one, a STACK record and another,
and more records waiting. -/
theorem witness_reportWrite :
    let s := filling stackRecord 46 inRun
    s.pxm.memory.wf = true ∧ s.rpw.writer = .filling .a ∧ s.rpw.queue = [stackRecord] ∧
    s.pxm.requests.head? = some .reports ∧ s.pxm.burst = none ∧ s.pxm.waiting = [] ∧
    s.rpw.halfWork = [] ∧ s.rpw.fillIndex < 47 ∧ s.rpw.fillIndex ≠ 0 ∧
    (filling stackRecord 0 inRun).rpw.fillIndex = 0 ∧ s.rnc.record = some mach ∧
    stackRecord.isStack = true ∧ (Record.jobStart 311 881#32).isStack = false ∧
    ([stackRecord] : List Record) ≠ [] := by decide +kernel

/-- `witness_reportWrite`'s lanes wait for nothing. -/
theorem witness_reportWrite_noneWaits : NoneWaits (filling stackRecord 46 inRun) := by
  intro c l
  cases c <;> cases l <;> rfl

/-- A half state access is due, and no burst has the memory. -/
def accessing (x : HalfAccess) (q : List BurstSource) : State :=
  let s := filling stackRecord 12 inRun
  asking q (s.setRpw { s.rpw with ageTimer := none, halfWork := [x] })

/-- HalvesCloseByAgeAndByCount: the timer running, with nothing requested, with the writer's request first
and with a refresh before it, and in a burst; the 48th record; the other half EMPTY and not; each half
state access at its turn, and one whose turn has not come; and a stopped timer. -/
theorem witness_halves :
    let s := filling stackRecord 47 inRun
    s.pxm.memory.wf = true ∧ s.rpw.writer = .filling .a ∧ s.rpw.ageTimer = some 250 ∧
    s.pxm.requests = [.reports] ∧ MemoryIdle s ∧ s.rpw.queue = [stackRecord] ∧ s.rpw.fillIndex = 47 ∧
    (asking [] s).pxm.requests = [] ∧ (asking [.refresh] s).pxm.requests = .refresh :: [] ∧
    BurstSource.refresh ≠ .reports ∧ (bursting s).pxm.burst ≠ none ∧
    Memory.readWord s.pxm.memory (halfBase .b) = 0#16 ∧
    Memory.readWord (Memory.writeWords [] 0x1800 [2#16]) (halfBase .b) ≠ 0#16 ∧
    (∀ x ∈ [HalfAccess.writeClosed .a, .look .b, .writeFilling .a],
      (accessing x [.reports]).pxm.burst = none ∧ (accessing x [.reports]).pxm.waiting = [] ∧
      (accessing x [.reports]).rpw.halfWork = x :: [] ∧
      (accessing x [.reports]).pxm.memory.wf = true ∧
      (accessing x [.reports]).pxm.requests.head? = some .reports ∧
      (accessing x [.refresh, .reports]).pxm.requests.head? ≠ some .reports) ∧
    State.reset.rpw.ageTimer = none ∧ State.reset.rpw.writer = .waiting .a := by
  refine ⟨by decide +kernel, rfl, rfl, rfl, ⟨rfl, rfl, rfl⟩, ?_⟩
  decide +kernel

/-- LiveStatusIsWrittenFromTheBlocks: the burst with its turn, asked for and not asked for. -/
theorem witness_liveStatus :
    let s := inRun.setPxm { inRun.pxm with requests := [.refresh] }
    s.pxm.memory.wf = true ∧ s.pxm.requests = [.refresh] ∧ s.pxm.burst = none ∧ s.pxm.waiting = [] ∧
    (∀ b, s.pxm.burst = some b → b.source ≠ .refresh) ∧
    (burstOf .refresh s).pxm.burst = some ⟨.refresh, [⟨0x404, 7#16⟩]⟩ ∧
    (freeMemory inRun).pxm.requests.head? ≠ some .refresh ∧
    s.rot.track.length ≤ 64 ∧ s.ntp.spans.length ≤ 32 ∧ inRun.pxm.resetAsserted = false ∧
    BurstSource.refresh ∈ s.pxm.requests ∧
    s.mkt.stretch < 4294967296 ∧ s.trc.speed ≤ 4095 := by decide +kernel

/-! ### Witnesses: what every step keeps -/

/-- StepKeepsExchangeInv: a half with a record to write, its age timer running, a burst of the Note
Processor in progress, and the step that writes. -/
theorem witness_exchangeInv :
    let s := (bursting (filling stackRecord 46 inRun)).setPending [.reportWrite]
    ExchangeInv s ∧ step s = .next (after .reportWrite (s.setPending [])) := by
  refine ⟨⟨by decide +kernel, ⟨fun b h => (by cases h), by decide +kernel, fun b h => (by cases h)⟩,
    trivial, fun h _ => .inl (by decide +kernel), fun _ => ⟨⟨.a, rfl⟩, by decide +kernel⟩,
    by decide +kernel, fun b h => ?_, .inl ⟨_, rfl, rfl⟩, .inr (by decide +kernel),
    fun h => (by cases h), fun b h x y => ?_⟩, rfl⟩
  · cases h; decide +kernel
  · cases h
    rw [List.mem_singleton.mp y]
    decide

/-- StepKeepsTrackInv: row 100 and the coast that makes row 101. -/
theorem witness_trackInv :
    let s := (coasting 0).setPending [.coast]
    TrackInv s ∧ step s = .next (after .coast (s.setPending [])) :=
  ⟨trackInv_one _ row100 rfl rfl (by decide), rfl⟩

/-- StepKeepsKnifeInv: a stroke in flight and its HOME. -/
theorem witness_knifeInv :
    let s := inFlight.setPending [.home]
    KnifeInv s ∧ step s = .next (after .home (s.setPending [])) := by
  refine ⟨⟨by decide +kernel, by decide +kernel, by decide +kernel, fun r h f e => ?_⟩, rfl⟩
  rcases List.mem_cons.mp h with rfl | h
  · cases e; exact ⟨_, rfl, rfl, rfl, rfl⟩
  · rcases List.mem_cons.mp h with rfl | h
    · cases e
    · cases h

/-- StepKeepsRunInv: HALTED and its ACK_FAULT. -/
theorem witness_runInv :
    let s := stood.setPending [.ackFault]
    RunInv s ∧ step s = .next (after .ackFault (s.setPending [])) := by
  refine ⟨⟨by decide +kernel, by decide +kernel, by decide +kernel, ?_, ?_, by decide +kernel,
    by decide +kernel, by decide +kernel⟩, rfl⟩
  · rintro (h | h) <;> cases h
  · rintro (h | h | h) <;> cases h

/-- StepKeepsTakeawayInv: two lanes contending for a conveyor, the one that is not pushed with a CLOSED
FRONT, and a delivery. -/
theorem witness_takeawayInv :
    let s := (contending 0).setPending [.delivery .c0]
    TakeawayInv s ∧ (∃ x, frontOf s .l1 = some x ∧ x.state = .closed) ∧
    step s = .next (after (.delivery .c0) (s.setPending [])) := by
  refine ⟨⟨⟨(contending_arbiter 0).1, (contending_arbiter 0).2, (contending_arbiter 0).3,
    (contending_arbiter 0).4⟩, fun m l x h f c => ?_⟩, ⟨_, rfl, rfl⟩, rfl⟩
  cases h
  cases l <;> cases f <;> first | rfl | cases c

/-- StepKeepsStackInv: the same state and delivery. -/
theorem witness_stackInv :
    let s := (contending 0).setPending [.delivery .c0]
    StackInv s ∧ step s = .next (after (.delivery .c0) (s.setPending [])) := by
  refine ⟨⟨witness_takeawayInv.1.toArbiterInv, fun l => ?_, fun l => by cases l <;> decide +kernel⟩, rfl⟩
  constructor
  case accounts => unfold StackAccounts; cases l <;> decide +kernel
  all_goals cases l <;> decide +kernel

/-- StepKeepsBoundsInv: a stack FILLING, an arrival expected, and its window passed. -/
theorem witness_boundsInv :
    let s := (webAt 1028075#32 awaiting).setPending [.windowPassed .l0]
    BoundsInv s ∧ step s = .next (after (.windowPassed .l0) (s.setPending [])) := by
  refine ⟨⟨by decide +kernel, by decide +kernel, by decide +kernel, fun m h => ?_,
    ⟨by decide +kernel, fun l => by cases l <;> decide +kernel⟩, by decide +kernel, by decide +kernel,
    by decide +kernel, by decide +kernel, by decide +kernel, by decide +kernel,
    fun l => by cases l <;> decide +kernel, fun l => by cases l <;> decide +kernel,
    fun l => by cases l <;> decide +kernel, fun l => by cases l <;> decide +kernel,
    fun l => ?_, fun l => by cases l <;> decide +kernel, ⟨fun c h l => ?_, fun c h => by cases h⟩,
    fun c l => by cases c <;> cases l <;> decide +kernel,
    by decide +kernel, by decide +kernel, fun c h r => ?_, fun c h => by cases h⟩, rfl⟩
  · cases h; decide +kernel
  · unfold TargetInRange; cases l <;> decide +kernel
  · cases h; cases l <;> decide
  · cases h; cases r <;> decide

end Sys2Proof.Tests
end

section
/-! The standstill count (R12): what a speed sample, the resets and the commands that read it do with it. -/

namespace Sys2Proof.Machine

/-! ### The speed sample -/

/-- Below its limit, a count that rises is the successor held to the limit. -/
theorem riseTo_eq_min {limit n : Nat} (h : n ≤ limit) : riseTo limit n = min limit (n + 1) := by
  unfold riseTo
  split <;> omega

theorem standstillAfter_zero (n : Nat) : standstillAfter 0 n = riseTo 200 n := rfl

theorem standstillAfter_of_pos {v : Nat} (h : 0 < v) (n : Nat) : standstillAfter v n = 0 :=
  if_neg (Nat.ne_of_gt h)

/-- The zone logic leaves the speed and the standstill count (R14). -/
@[simp] theorem Trc.zoneSample_keeps (m : MachineRecord) (v : Nat) (t : Trc) :
    (t.zoneSample m v).speed = t.speed ∧ (t.zoneSample m v).standstill = t.standstill := by
  unfold Trc.zoneSample
  repeat' split
  all_goals exact ⟨rfl, rfl⟩

/-- A sample takes the sampled speed, whether or not a machine record is in use (R10). -/
@[simp] theorem Trc.sample_speed (m : Option MachineRecord) (t : Trc) :
    (t.sample m).speed = sampledSpeed t := by
  cases m <;> simp [Trc.sample]

/-- A sample counts by the speed it has taken (R12). -/
@[simp] theorem Trc.sample_standstill (m : Option MachineRecord) (t : Trc) :
    (t.sample m).standstill = standstillAfter (t.sample m).speed t.standstill := by
  cases m <;> simp [Trc.sample]

@[simp] theorem formLeads_trc (s : State) : (formLeads s).trc = s.trc := by simp [formLeads]

/-- While RESETn is released, a speed sample leaves the Travel Counter as its sample makes it: the acts
that the sample makes due are reactions. -/
theorem exec_speedSample_trc {s : State} (h : s.pxm.resetAsserted = false) :
    ∃ t, exec .speedSample s = .next t ∧ t.trc = s.trc.sample s.rnc.record := by
  refine ⟨_, by simp only [exec, execSpeedSample, h]; rfl, ?_⟩
  rw [(takeDue_reacts sampleAct_reacts _ _).trc]
  simp

/-! ### The resets -/

/-- Both resets clear the standstill count, whatever they keep of memory and RESETn (R12, R167). -/
@[simp] theorem resetPart_standstill (m : Memory) (asserted : Bool) (s : State) :
    (resetPart m asserted s).trc.standstill = 0 := rfl

/-! ### START -/

@[simp] theorem Trc.start_standstill (t : Trc) : t.start.standstill = t.standstill := rfl

@[simp] theorem startNotes_trc (ready : Bool) (s : State) : (startNotes ready s).trc = s.trc := by
  simp [startNotes]

/-- An accepted START changes of the Travel Counter what R16 names. -/
@[simp] theorem startPart_trc (r : MachineRecord) (s : State) :
    (startPart r s).trc = s.trc.start := by
  simp [startPart]

/-- START at the end of its burst leaves the standstill count, accepted or refused. -/
theorem startEvent_standstill (s : State) :
    (startEvent s).trc.standstill = s.trc.standstill := by
  unfold startEvent
  split <;> simp

/-- The request of START's burst, and the memory settled before it, leave the Travel Counter. -/
theorem requestStart_trc (s : State) :
    (requestBurst .machine (if s.pxm.burst.isSome then s else settleMemory s)).trc = s.trc := by
  rw [(requestBurst_keeps _ _).1]
  split
  · rfl
  · exact (settleMemory_memoryFrame s).trc

/-- A write of START leaves the standstill count, whether it takes the event or only requests it. -/
theorem commandStart_standstill (s : State) :
    (commandStart s).trc.standstill = s.trc.standstill := by
  unfold commandStart
  dsimp only
  have hreq := requestStart_trc s
  generalize requestBurst .machine (if s.pxm.burst.isSome then s else settleMemory s) = u at hreq ⊢
  split
  · rw [(afterBurst_memoryFrame _).trc, startEvent_standstill, (popRequest_keeps _).1,
      (freeMemory_memoryFrame u).trc, hreq]
  · rw [hreq]

/-! ### ABORT and ACK_FAULT -/

@[simp] theorem recordCommand_result (b : Byte) (r : CommandResult) (s : State) :
    (recordCommand b r s).rnc.result = r := by simp [recordCommand]

/-- A write of ABORT leaves the Travel Counter, accepted or refused. -/
theorem commandAbort_trc (s : State) : (commandAbort s).trc = s.trc := by
  unfold commandAbort
  split <;> simp [(abandonRun_reacts _ _).trc]

/-- What an accepted ACK_FAULT leaves: the Travel Counter and the result, in READY (R163). -/
@[simp] theorem acknowledge_keeps (s : State) :
    (acknowledge s).trc = s.trc ∧ (acknowledge s).rnc.result = s.rnc.result ∧
    (acknowledge s).rnc.runState = .ready := by
  have h := abandonRun_reacts .shortFault s
  simp [acknowledge, h.trc, h.result]

theorem commandAckFault_accepted {s : State} (hr : s.rnc.runState = .halted)
    (hs : s.trc.standstill = 200) :
    commandAckFault s = acknowledge (recordCommand 4#8 .accepted s) := by
  simp [commandAckFault, hr, hs]

/-- Short of 200, ACK_FAULT is refused in every run state. -/
theorem commandAckFault_refused {s : State} (hs : s.trc.standstill ≠ 200) :
    commandAckFault s = recordCommand 4#8 .refused s := by
  unfold commandAckFault
  split <;> simp [hs]

/-- A write of ACK_FAULT leaves the Travel Counter, accepted or refused. -/
theorem commandAckFault_trc (s : State) : (commandAckFault s).trc = s.trc := by
  unfold commandAckFault
  repeat' split
  all_goals simp

/-! ### The rule -/

/-- Settles O20: the sample counts by the speed it has taken and nothing it makes due touches the count;
both resets clear it; START, ABORT and ACK_FAULT keep it, and ACK_FAULT's branch on it is the gate. -/
theorem standstillCountRule : Obligations.StandstillCountRule := by
  intro s
  refine ⟨fun hr hs => ?sample, ⟨_, rfl, rfl⟩, ⟨_, rfl, rfl⟩, ⟨_, rfl, commandStart_standstill s⟩,
    ⟨_, rfl, by rw [commandAbort_trc]⟩, ⟨_, rfl, by rw [commandAckFault_trc], ?accepted, ?refused⟩⟩
  case sample =>
    obtain ⟨t, ht, htrc⟩ := exec_speedSample_trc hr
    have hcount : t.trc.standstill = standstillAfter t.trc.speed s.trc.standstill := by
      rw [htrc, Trc.sample_standstill]
    refine ⟨t, ht, fun hzero => ?_, fun hpos => ?_⟩
    · rw [hcount, hzero, standstillAfter_zero, riseTo_eq_min hs]
    · rw [hcount, standstillAfter_of_pos hpos]
  case accepted =>
    intro hr hs
    rw [commandAckFault_accepted hr hs]
    simp
  case refused =>
    intro hs
    rw [commandAckFault_refused hs]
    simp

end Sys2Proof.Machine
end

section
/-! The leads of the knife and of the flaps (R60, R103): what forms them, and that every other command
holds them. -/

namespace Sys2Proof.Machine

/-! ### The leads held -/

/-- The leads of the knife and of every flap stand in `t` as in `s`. -/
structure LeadsHeld (s t : State) : Prop where
  knife : t.knt.lead = s.knt.lead
  flap : ∀ l, (t.lnd.get l).flapLead = (s.lnd.get l).flapLead

theorem LeadsHeld.of_eq {s t : State} (hknt : t.knt = s.knt) (hlnd : t.lnd = s.lnd) :
    LeadsHeld s t := ⟨by rw [hknt], fun l => by rw [hlnd]⟩

theorem LeadsHeld.refl (s : State) : LeadsHeld s s := .of_eq rfl rfl

theorem LeadsHeld.trans {s t u : State} (h : LeadsHeld s t) (k : LeadsHeld t u) : LeadsHeld s u :=
  ⟨k.knife.trans h.knife, fun l => (k.flap l).trans (h.flap l)⟩

theorem ReactionFrame.leads {s t : State} (h : ReactionFrame s t) : LeadsHeld s t :=
  ⟨h.lead, h.flapLead⟩

theorem NoteFrame.leads {s t : State} (h : NoteFrame s t) : LeadsHeld s t := ⟨h.lead, h.flapLead⟩

theorem MemoryFrame.leads {s t : State} (h : MemoryFrame s t) : LeadsHeld s t := .of_eq h.knt h.lnd

/-- What holds the leads after CLK has run on to a free memory holds them from the start. -/
theorem LeadsHeld.of_free {s t : State} (h : LeadsHeld (freeMemory s) t) : LeadsHeld s t :=
  (freeMemory_memoryFrame s).leads.trans h

/-- The end of a burst changes no lead. -/
theorem LeadsHeld.afterBurst {s t : State} (h : LeadsHeld s t) : LeadsHeld s (afterBurst t) :=
  h.trans (afterBurst_memoryFrame t).leads

theorem setTrc_leads (x : Trc) (s : State) : LeadsHeld s (s.setTrc x) := .of_eq rfl rfl

/-- The run state alone moves flaps, never their leads. -/
theorem setRunState_leads (r : RunState) (s : State) : LeadsHeld s (setRunState r s) :=
  (setRunState_reacts r s).leads

theorem recordCommand_leads (b : Byte) (r : CommandResult) (s : State) :
    LeadsHeld s (recordCommand b r s) := .of_eq (by simp) (by simp)

/-! ### The leads formed -/

/-- The leads are those of the machine record in use, if there is one, at the speed `v` (R60, R103). -/
structure LeadsFormed (m : Option MachineRecord) (v : Nat) (s : State) : Prop where
  knife : s.knt.lead = knifeLeadAt m v
  flap : ∀ l, (s.lnd.get l).flapLead = flapLeadAt m v

theorem formLeads_formed (s : State) : LeadsFormed s.rnc.record s.trc.speed (formLeads s) :=
  ⟨by simp [formLeads], fun l => by simp [formLeads]⟩

theorem LeadsFormed.held {m : Option MachineRecord} {v : Nat} {s t : State}
    (h : LeadsFormed m v s) (k : LeadsHeld s t) : LeadsFormed m v t :=
  ⟨k.knife.trans h.knife, fun l => (k.flap l).trans (h.flap l)⟩

/-- With a record in use the leads are its latencies at the speed, capped by it. -/
theorem LeadsFormed.leadIs {m : MachineRecord} {v : Nat} {s : State}
    (h : LeadsFormed (some m) v s) : LeadIs v m.knifeLatency m.leadMax s.knt.lead ∧
      ∀ l, LeadIs v m.flapLatency m.leadMax (s.lnd.get l).flapLead := ⟨h.knife, h.flap⟩

/-- With no record in use the leads are 0. -/
theorem LeadsFormed.eq_zero {v : Nat} {s : State} (h : LeadsFormed none v s) :
    s.knt.lead = 0 ∧ ∀ l, (s.lnd.get l).flapLead = 0 := ⟨h.knife, h.flap⟩

/-- While RESETn is released, a sample forms the leads by the record in use at the speed it has taken: the
acts it makes due are reactions, which hold them. -/
theorem exec_speedSample_formed {s : State} (h : s.pxm.resetAsserted = false) :
    ∃ t, exec .speedSample s = .next t ∧ LeadsFormed s.rnc.record t.trc.speed t := by
  refine ⟨_, by simp only [exec, execSpeedSample, h]; rfl, ?_⟩
  have hacts := takeDue_reacts (due := sampleDue) sampleAct_reacts targetActs
    (formLeads (s.setTrc (s.trc.sample s.rnc.record)))
  rw [hacts.trc, formLeads_trc]
  exact (formLeads_formed (s.setTrc (s.trc.sample s.rnc.record))).held hacts.leads

/-! ### START and the resets -/

/-- START whose burst may begin at once takes its event at once. -/
theorem commandStart_mayBegin {s : State} (h : MayBegin .machine s) :
    commandStart s = afterBurst (startEvent (popRequest (requestBurst .machine s))) := by
  obtain ⟨hreq, hidle⟩ := h
  have hsettle : settleMemory s = s :=
    settleMemory_self s hidle.burst hidle.waiting (beginNext_none s hidle.halfWork)
  have hfree : freeMemory (requestBurst .machine s) = requestBurst .machine s :=
    freeMemory_self _ (by simp [hidle.burst]) (by simp [hidle.waiting])
      (beginNext_none _ (by simp [hidle.halfWork]))
  have hturn : hasTurn .machine (requestBurst .machine s) = true := by
    obtain hnone | hfirst := hreq
    · simp [hasTurn, requestBurst, setRequests, withRequest, hnone]
    · have hmem : BurstSource.machine ∈ s.pxm.requests := List.mem_of_head? hfirst
      simp [hasTurn, requestBurst, setRequests, withRequest, hmem, hfirst]
  simp [commandStart, hsettle, hfree, hturn]

/-- A START whose record passes forms the leads of that record at the speed in effect. -/
theorem startPart_formed {r : MachineRecord} (hr : machineIndex r = 0) (s : State) :
    LeadsFormed (some r) s.trc.speed (startPart r s) := by
  unfold startPart
  dsimp only
  generalize hu : setRunState _ _ = u
  have hrecord : u.rnc.record = some r := by simp [← hu, Rnc.start, hr]
  have hspeed : u.trc.speed = s.trc.speed := by simp [← hu, Trc.start]
  simpa only [hrecord, hspeed] using formLeads_formed u

/-- START in OFF and READY reads the machine record of the memory that stands, and forms the leads when
it passes. -/
theorem startEvent_formed {s : State} (hs : s.rnc.runState = .off ∨ s.rnc.runState = .ready)
    (hr : machineIndex (readMachineRecord s.pxm.memory) = 0) :
    LeadsFormed (some (readMachineRecord s.pxm.memory)) s.trc.speed (startEvent s) := by
  have h := startPart_formed hr (recordCommand 1#8 .accepted s)
  simp only [recordCommand_keeps] at h
  obtain hs | hs := hs <;> simpa only [startEvent, hs] using h

/-- A START that takes its event at once and whose record passes forms the leads. -/
theorem commandStart_formed {s : State} (hs : s.rnc.runState = .off ∨ s.rnc.runState = .ready)
    (hb : MayBegin .machine s) (hr : machineIndex (readMachineRecord s.pxm.memory) = 0) :
    LeadsFormed (some (readMachineRecord s.pxm.memory)) s.trc.speed (commandStart s) := by
  rw [commandStart_mayBegin hb]
  have h := startEvent_formed (s := popRequest (requestBurst .machine s)) (by simpa using hs)
    (by simpa using hr)
  simp only [popRequest_keeps, requestBurst_keeps] at h
  exact h.held (LeadsHeld.refl _).afterBurst

/-- Every block's reset leaves the leads of no record (R76, R117). -/
theorem resetPart_formed (m : Memory) (asserted : Bool) (s : State) :
    LeadsFormed none 0 (resetPart m asserted s) := ⟨rfl, fun l => by cases l <;> rfl⟩

/-- A write to CONTROL is the command its low byte spells (R156). -/
theorem exec_spelled (c : Instr) (s : State) : exec (spelled c) s = exec c s := by
  cases c
  case badCode w =>
    simp only [spelled]
    split
    case h_6 => rfl
    all_goals
      rename_i hcode
      simp only [exec, execStart, execStop, execAbort, execAckFault, execRestart, execBadCode,
        controlWrite, hcode]
  all_goals rfl

/-- Power-on reset and RESTART, however it is spelled, leave the leads of no record. -/
theorem exec_reset_formed {c : Instr} (hc : isReset c) (s : State) :
    ∃ t, exec c s = .next t ∧ LeadsFormed none 0 t := by
  rw [← exec_spelled]
  obtain hc | hc := hc <;> rw [hc]
  · exact ⟨_, rfl, resetPart_formed _ _ s⟩
  · exact ⟨_, rfl, (resetPart_formed (cutOffBurst s).pxm.memory (cutOffBurst s).pxm.resetAsserted
      (cutOffBurst s)).held (.of_eq rfl rfl)⟩

/-! ### The commands that hold the leads -/

/-- STOP changes the run state, lets the knife test its next cut, and closes and ends what it can: none
of it forms a lead (R159). -/
theorem stopPart_leads (s : State) : LeadsHeld s (stopPart s) := by
  unfold stopPart
  dsimp only
  refine LeadsHeld.trans ?_ (endTest_reacts _).leads
  refine LeadsHeld.trans ?_ (stopCloses_reacts _).leads
  refine (setRunState_leads .drain s).trans ((fireTest_reacts false _).leads.trans ?_)
  exact .of_eq (by simp) (by simp)

theorem commandStop_leads (s : State) : LeadsHeld s (commandStop s) := by
  unfold commandStop
  split
  · exact (recordCommand_leads 2#8 .accepted s).trans (stopPart_leads _)
  all_goals exact recordCommand_leads _ _ s

theorem commandAbort_leads (s : State) : LeadsHeld s (commandAbort s) := by
  unfold commandAbort
  split
  case h_1 | h_2 =>
    exact ((recordCommand_leads _ _ s).trans (abandonRun_reacts _ _).leads).trans
      (setRunState_leads _ _)
  all_goals exact recordCommand_leads _ _ s

/-- ACK_FAULT clears the stall count and the inhibit of the knife, and leaves its lead (R163). -/
theorem acknowledge_leads (s : State) : LeadsHeld s (acknowledge s) := by
  unfold acknowledge
  dsimp only
  refine LeadsHeld.trans ?_ (setRunState_leads .ready _)
  refine (abandonRun_reacts .shortFault s).leads.trans ?_
  exact ⟨by simp [Knt.acknowledge], fun l => by simp⟩

theorem commandAckFault_leads (s : State) : LeadsHeld s (commandAckFault s) := by
  unfold commandAckFault
  split
  · split
    · exact (recordCommand_leads 4#8 .accepted s).trans (acknowledge_leads _)
    · exact recordCommand_leads _ _ s
  all_goals exact recordCommand_leads _ _ s

/-- A write to CONTROL that spells neither START nor RESTART holds the leads. -/
theorem controlWrite_leads {w : Word} (s : State) (hstart : spelled (.badCode w) ≠ .start)
    (hrestart : spelled (.badCode w) ≠ .restart) : LeadsHeld s (controlWrite w s) := by
  unfold controlWrite
  split <;> rename_i hcode
  · exact absurd (by simp only [spelled, hcode]) hstart
  · exact commandStop_leads s
  · exact commandAbort_leads s
  · exact commandAckFault_leads s
  · exact absurd (by simp only [spelled, hcode]) hrestart
  · exact recordCommand_leads _ _ s

/-! ### Counts and mark edges -/

theorem reverseTest_leads (s : State) : LeadsHeld s (reverseTest s) := by
  unfold reverseTest
  split
  · split
    · exact (setTrc_leads _ s).trans (raiseHalting_reacts _ _ _).leads
    · exact .refl s
  · exact .refl s

theorem encoderError_leads (s : State) : LeadsHeld s (encoderError s) := by
  unfold encoderError
  split
  · split
    · exact (setTrc_leads _ s).trans (haltPart_reacts _ _ _).leads
    · exact .refl s
  · exact .refl s

theorem execForwardCount_leads {s t : State} (h : execForwardCount s = .next t) :
    LeadsHeld s t := by
  unfold execForwardCount at h
  split at h
  · cases h; exact setTrc_leads _ s
  split at h <;> cases h
  · exact (setTrc_leads _ s).trans (frontAdvance_reacts _).leads
  · exact setTrc_leads _ s

theorem execReverseCount_leads {s t : State} (h : execReverseCount s = .next t) :
    LeadsHeld s t := by
  unfold execReverseCount at h
  split at h <;> cases h
  · exact setTrc_leads _ s
  · exact (setTrc_leads _ s).trans (reverseTest_leads _)

theorem execIllegalTransition_leads {s t : State} (h : execIllegalTransition s = .next t) :
    LeadsHeld s t := by
  unfold execIllegalTransition at h
  split at h <;> cases h
  · exact setTrc_leads _ s
  · exact (setTrc_leads _ s).trans (encoderError_leads _)

theorem execMarkEdge_leads {s t : State} (h : execMarkEdge s = .next t) : LeadsHeld s t := by
  unfold execMarkEdge at h
  dsimp only at h
  repeat' split at h
  all_goals cases h; exact .of_eq rfl rfl

/-- The fall of MARK may let a coast be taken, which is a reaction (R27). -/
theorem execMarkFall_leads {s t : State} (h : execMarkFall s = .next t) : LeadsHeld s t := by
  unfold execMarkFall at h
  dsimp only at h
  split at h <;> cases h
  · exact .of_eq rfl rfl
  · refine LeadsHeld.trans ?_ (coastTest_reacts _).leads
    exact .of_eq rfl rfl

/-! ### Notes -/

/-- A note holds the leads, whatever burst it meets. -/
theorem noteStep_leads (k : NoteKind) (f : State → Note → State × Fate × Nat) (s : State)
    (h : ∀ u n, NoteFrame u (f u n).1) : LeadsHeld s (noteStep k f s) := by
  unfold noteStep
  dsimp only
  split
  · split
    · exact .of_free (noteEvent_note _ _ _ (h _)).leads.afterBurst
    · exact .refl s
  · split
    · exact .of_free (finishLate_note _ _ _ _ _).leads.afterBurst
    · exact .refl s
  · exact .refl s

theorem jobNoteStep_leads (s : State) : LeadsHeld s (jobNoteStep s) := by
  unfold jobNoteStep
  dsimp only
  split
  · split
    · exact .of_free (jobNoteRead_note _ _ _ _ (finishNote_note _ _ _)).leads.afterBurst
    · exact .refl s
  · exact .of_free ((jobOutcome_reacts _ _).note.trans (finishNote_note _ _ _ _)).leads.afterBurst
  · split
    · exact .of_free (jobNoteRead_note _ _ _ _ (finishLate_note _ _ _ _)).leads.afterBurst
    · exact .refl s
  · exact .of_free
      ((jobOutcome_reacts _ _).note.trans (finishLate_note _ _ _ _ _)).leads.afterBurst
  · exact .refl s

/-- The command of a note holds the leads. -/
theorem exec_note_leads {c : Instr} {s t : State} (hc : Instr.isNote c = true)
    (h : exec c s = .next t) : LeadsHeld s t := by
  cases c <;> first | (cases hc; done) | (cases h)
  case spanNote => exact noteStep_leads _ _ s fun u n => (spanOutcome_reacts u n).note
  case rowNote => exact noteStep_leads _ _ s fun u n => (rowOutcome_reacts u n).note
  case laneNote => exact noteStep_leads _ _ s laneOutcome_note
  case conveyorNote => exact noteStep_leads _ _ s fun u n => (conveyorOutcome_reacts u n).note
  case badNote => exact noteStep_leads _ _ s fun u _ => .refl u
  case jobNote => exact jobNoteStep_leads s

/-! ### The bursts of a page and of reports -/

theorem writeFate_leads (p : Page) (i : Nat) (f : Fate) (d : Nat) (s : State) :
    LeadsHeld s (writeFate p i f d s) := .of_eq (by simp [writeFate]) (by simp [writeFate])

theorem takeExpected_leads (s : State) : LeadsHeld s (takeExpected s) :=
  .of_eq (by simp [takeExpected]) (by simp [takeExpected])

theorem finishPage_leads (p : PageInWork) (s : State) : LeadsHeld s (finishPage p s) :=
  .of_eq (by simp [finishPage]) (by simp [finishPage])

theorem finishCutShort_leads (p : Page) (s : State) : LeadsHeld s (finishCutShort p s) :=
  .of_eq (by simp [finishCutShort]) (by simp [finishCutShort])

theorem checkPage_leads (s : State) : LeadsHeld s (checkPage s) := by
  have hread := (serveRead_note s.ntp.work.tail s).leads
  unfold checkPage
  dsimp only
  split
  · unfold takePage
    split
    · exact hread
    · exact hread.trans (setNoteWork_note _ _).leads
  · exact hread

theorem execFateWrite_leads {s t : State} (h : execFateWrite s = .next t) : LeadsHeld s t := by
  unfold execFateWrite at h
  dsimp only at h
  split at h <;> cases h
  · exact .of_free (writeFate_leads _ _ _ _ _)
  · exact .refl s

theorem execPageTaking_leads {s t : State} (h : execPageTaking s = .next t) : LeadsHeld s t := by
  unfold execPageTaking at h
  dsimp only at h
  split at h <;> cases h
  · exact .of_free (takeExpected_leads _)
  · exact .refl s

theorem execPageFinishing_leads {s t : State} (h : execPageFinishing s = .next t) :
    LeadsHeld s t := by
  unfold execPageFinishing at h
  dsimp only at h
  split at h <;> cases h
  · exact .of_free (finishPage_leads _ _)
  · exact .of_free (finishCutShort_leads _ _)
  · exact .refl s

theorem execPageStateCheck_leads {s t : State} (h : execPageStateCheck s = .next t) :
    LeadsHeld s t := by
  unfold execPageStateCheck at h
  dsimp only at h
  split at h <;> cases h
  · exact .of_free (checkPage_leads _).afterBurst
  · exact .refl s

theorem closeHalf_leads (h : Half) (s : State) : LeadsHeld s (closeHalf h s) :=
  .of_eq (by simp [closeHalf]) (by simp [closeHalf])

/-- A record written may release a reservation and close the half: neither forms a lead (R179, R180). -/
theorem writeRecord_leads (h : Half) (r : Record) (rest : List Record) (s : State) :
    LeadsHeld s (writeRecord h r rest s) := by
  unfold writeRecord
  dsimp only
  have hrelease : ∀ u, LeadsHeld u (releaseFor r u) := fun u => by
    unfold releaseFor
    split
    · exact .of_eq (by simp) (by simp)
    · exact .refl u
  split
  · refine LeadsHeld.trans ?_ ((hrelease _).trans (closeHalf_leads _ _))
    exact .of_eq (by simp) (by simp)
  · refine LeadsHeld.trans ?_ (hrelease _)
    exact .of_eq (by simp) (by simp)

theorem execReportWrite_leads {s t : State} (h : execReportWrite s = .next t) :
    LeadsHeld s t := by
  unfold execReportWrite at h
  dsimp only at h
  split at h
  · split at h <;> cases h
    · refine .of_free (LeadsHeld.trans ?_ (writeRecord_leads _ _ _ _))
      exact .of_eq (by simp) (by simp)
    · exact .refl s
  · cases h; exact .refl s

theorem execAgeTimerExpiry_leads {s t : State} (h : execAgeTimerExpiry s = .next t) :
    LeadsHeld s t := by
  unfold execAgeTimerExpiry at h
  split at h <;> cases h
  · exact (closeHalf_leads _ s).trans (beginNext_memoryFrame _).leads
  · exact .refl s

theorem execRefreshTimerExpiry_leads {s t : State} (h : execRefreshTimerExpiry s = .next t) :
    LeadsHeld s t := by
  unfold execRefreshTimerExpiry at h
  split at h <;> cases h
  · exact .refl s
  · refine LeadsHeld.trans ?_ (requestBurst_note _ _).leads
    split
    · exact (settleMemory_memoryFrame s).leads
    · exact .refl s

theorem execLiveStatusRefresh_leads {s t : State} (h : execLiveStatusRefresh s = .next t) :
    LeadsHeld s t := by
  unfold execLiveStatusRefresh at h
  dsimp only at h
  split at h <;> cases h
  · exact .of_free (.of_eq (by simp) (by simp))
  · exact .refl s

theorem execAgingTick_leads {s t : State} (h : execAgingTick s = .next t) : LeadsHeld s t := by
  unfold execAgingTick at h
  split at h <;> cases h
  · exact .refl s
  · exact .of_eq (by simp) (by simp)

/-! ### Every other command -/

/-- A command that is no speed sample, no START and no reset holds the leads. -/
theorem exec_leads {c : Instr} {s t : State} (h : exec c s = .next t) (hsample : c ≠ .speedSample)
    (hstart : spelled c ≠ .start) (hreset : ¬ isReset c) : LeadsHeld s t := by
  by_cases hreaction : Instr.isReaction c = true
  · exact (exec_reacts c s t hreaction h).leads
  by_cases hnote : Instr.isNote c = true
  · exact exec_note_leads hnote h
  cases c
  case speedSample => exact absurd rfl hsample
  case start => exact absurd rfl hstart
  case powerOnReset => exact absurd (.inl rfl) hreset
  case restart => exact absurd (.inr rfl) hreset
  case stop => cases h; exact commandStop_leads s
  case abort => cases h; exact commandAbort_leads s
  case ackFault => cases h; exact commandAckFault_leads s
  case badCode w => cases h; exact controlWrite_leads s hstart fun hr => hreset (.inr hr)
  case attentionWrite w => cases h; exact .of_eq (by simp) (by simp)
  case attnMaskWrite w => cases h; exact .of_eq rfl rfl
  case registerWriteIgnored r w => cases h; exact .refl s
  case memoryRead | memoryWrite | notePagePosting | halfFreeing =>
    cases h; exact (pressAccess_memoryFrame _ s).leads
  case forwardCount => exact execForwardCount_leads h
  case reverseCount => exact execReverseCount_leads h
  case illegalTransition => exact execIllegalTransition_leads h
  case markEdge => exact execMarkEdge_leads h
  case markFall => exact execMarkFall_leads h
  case pageTaking => exact execPageTaking_leads h
  case fateWrite => exact execFateWrite_leads h
  case pageFinishing => exact execPageFinishing_leads h
  case pageStateCheck => exact execPageStateCheck_leads h
  case agingTick => exact execAgingTick_leads h
  case reportWrite => exact execReportWrite_leads h
  case ageTimerExpiry => exact execAgeTimerExpiry_leads h
  case refreshTimerExpiry => exact execRefreshTimerExpiry_leads h
  case liveStatusRefresh => exact execLiveStatusRefresh_leads h
  case resetnRelease => cases h; exact .of_eq rfl rfl
  all_goals first
    | exact absurd rfl hreaction
    | exact absurd rfl hnote

/-- Settles O22: a sample and a START whose record passes form the leads by the record in use, the resets
leave those of no record, and every other command holds them. -/
theorem leadsAreFormedAtSamplesAndStart : Obligations.LeadsAreFormedAtSamplesAndStart := by
  refine ⟨fun s m hr hm => ?record, fun s hr hm => ?norecord, fun s m hs hb hm hi => ?start,
    fun c s hc => ?reset, fun c s t h hchange => ?held⟩
  case record =>
    obtain ⟨t, ht, hformed⟩ := exec_speedSample_formed hr
    rw [hm] at hformed
    exact ⟨t, ht, hformed.leadIs⟩
  case norecord =>
    obtain ⟨t, ht, hformed⟩ := exec_speedSample_formed hr
    rw [hm] at hformed
    exact ⟨t, ht, hformed.eq_zero⟩
  case start =>
    subst hm
    exact ⟨_, rfl, (commandStart_formed hs hb hi).leadIs⟩
  case reset =>
    obtain ⟨t, ht, hformed⟩ := exec_reset_formed hc s
    exact ⟨t, ht, hformed.eq_zero⟩
  case held =>
    by_contra! hother
    obtain ⟨hsample, hstart, hreset⟩ := hother
    have hheld := exec_leads h hsample hstart hreset
    exact hchange.elim (absurd hheld.knife) fun ⟨l, hl⟩ => hl (hheld.flap l)

end Sys2Proof.Machine
end

section
/-! A page's finishing (R81, R82, R98): its DONE burst, the horizon it leaves, and what clears the horizon. -/

namespace Sys2Proof.Machine

/-! ### The Note Processor's turn -/

/-- At the Note Processor's turn the memory is free already: no other source's burst may begin. -/
theorem freeMemory_of_turn {s : State} {b : NoteBurst} {rest : List NoteBurst}
    (h : NoteTurn s b rest) : freeMemory s = s := by
  obtain ⟨hturn, hburst, hwaiting, -⟩ := h
  exact freeMemory_self s hburst hwaiting (beginNext_noTurn s (by simp [hasTurn, hturn]))

theorem noteTurn_of_turn {s : State} {b : NoteBurst} {rest : List NoteBurst}
    (h : NoteTurn s b rest) : noteTurn s = some b := by
  obtain ⟨hturn, -, -, hwork⟩ := h
  simp [noteTurn, hasTurn, hturn, hwork]

/-- While a burst of the Note Processor has the memory, its next one is not requested yet (R170). -/
theorem setNoteWork_inProgress {s : State} (w : List NoteBurst) (h : inProgress .notes s = true) :
    setNoteWork w s = s.setNtp { s.ntp with work := w } := by
  have h' : inProgress .notes (s.setNtp { s.ntp with work := w }) = true := h
  simp [setNoteWork, updateNoteRequest, askFor, h']

/-! ### The request at a burst's end -/

/-- A half state access takes the request that stands first, and makes no other while it runs. -/
theorem halfAccess_requests (x : HalfAccess) (rest : List HalfAccess) (s : State) :
    (halfAccess x rest s).pxm.requests = s.pxm.requests.tail := by
  cases x with
  | writeClosed h | writeFilling h => simp [halfAccess, beginBurst]
  | look h =>
    simp only [halfAccess]
    split
    · simp [takeHalf, updateReportRequest, askFor, inProgress, beginBurst]
    · rfl

/-- A half state access that begins takes no request of the Note Processor. -/
theorem beginNext_notes_requested {s : State} (h : BurstSource.notes ∈ s.pxm.requests) :
    BurstSource.notes ∈ (beginNext s).pxm.requests := by
  unfold beginNext
  split
  · exact h
  split
  next hturn =>
    simp only [hasTurn, Bool.and_eq_true, beq_iff_eq] at hturn
    obtain ⟨-, hfirst⟩ := hturn
    obtain ⟨q, hq⟩ := List.head?_eq_some_iff.mp hfirst
    rw [halfAccess_requests]
    simpa [hq] using h
  · exact h

/-- A burst of the Note Processor that no access waits for requests the next one when it ends (R170). -/
theorem requestedAtEnd_of_burst {t : State} {ws : List Overwritten}
    (hburst : t.pxm.burst = some ⟨.notes, ws⟩) (hwaiting : t.pxm.waiting = []) :
    RequestedAtEnd t := by
  refine ⟨⟨_, hburst, rfl⟩, fun hwork => ?_⟩
  have hread : readBurst t = false := by simp [readBurst, hburst]
  have hserve : serveWaiting (endBurst t) = endBurst t :=
    serveWaiting_none _ (by simp [endBurst, hburst, hwaiting])
  simp only [settleMemory, hread, afterBurst, hserve]
  refine beginNext_notes_requested ?_
  by_cases hmem : BurstSource.notes ∈ t.pxm.requests <;>
    simp [endBurst, hburst, updateNoteRequest, askFor, inProgress, requestBurst, setRequests,
      withRequest, hwork, hmem]

/-! ### The DONE burst -/

/-- The DONE burst of a page has begun, with ATTENTION.PAGE_DONE: what the finishing of a page and the end
of a page cut short have in common (R81, R82). -/
def doneBurst (page : Page) (s : State) : State :=
  flagPageDone (burstWrite (pageBase page) [pageDone] (beginBurst .notes s))

theorem doneBurst_inProgress (page : Page) (s : State) :
    inProgress .notes (doneBurst page s) = true := rfl

/-- The DONE burst writes the page's state word. -/
theorem doneBurst_readWord (page : Page) {s : State} (h : s.pxm.memory.wf = true) :
    Memory.readWord (doneBurst page s).pxm.memory (pageBase page) = 3#16 :=
  Memory.readWord_writeWords (ws := [pageDone]) h (by cases page <;> decide) 0 _ rfl

/-- The DONE burst writes no byte but those of the page's state word. -/
theorem doneBurst_sameOutside (page : Page) (s : State) :
    SameOutside (pageBase page) 2 s.pxm.memory (doneBurst page s).pxm.memory :=
  fun _ hk => Memory.readByte_writeWords_ne (ws := [pageDone]) hk

/-- Page work changed beneath a DONE burst that no access waits for: the next burst is requested at its
end. -/
theorem doneBurst_requestedAtEnd (page : Page) {s : State} (x : Ntp) (h : s.pxm.waiting = []) :
    RequestedAtEnd ((doneBurst page s).setNtp x) :=
  requestedAtEnd_of_burst rfl h

theorem finishPage_eq (p : PageInWork) (s : State) :
    finishPage p s = (doneBurst p.page s).setNtp { s.ntp with
      inWork := none, expectedPage := otherPage p.page, work := .stateCheck :: s.ntp.work.tail,
      horizon := horizonAfter s.rnc.record p.hc s.ntp.horizon } :=
  setNoteWork_inProgress _ (doneBurst_inProgress p.page s)

theorem finishCutShort_eq (page : Page) (s : State) :
    finishCutShort page s =
      (doneBurst page s).setNtp { s.ntp with work := s.ntp.work.tail } :=
  setNoteWork_inProgress _ (doneBurst_inProgress page s)

theorem exec_pageFinishing_finishing {s : State} {rest : List NoteBurst} {p : PageInWork}
    (h : NoteTurn s .finishing rest) (hp : s.ntp.inWork = some p) :
    exec .pageFinishing s = .next (finishPage p s) := by
  simp only [exec, execPageFinishing, freeMemory_of_turn h, noteTurn_of_turn h, hp]

theorem exec_pageFinishing_cutShort {s : State} {rest : List NoteBurst} {page : Page}
    (h : NoteTurn s (.cutShortDone page) rest) :
    exec .pageFinishing s = .next (finishCutShort page s) := by
  simp only [exec, execPageFinishing, freeMemory_of_turn h, noteTurn_of_turn h]

/-! ### The horizon -/

/-- With a machine record in use, the held Hc moves the horizon as R98 says, and never back. -/
theorem horizonAfter_horizonIs (m : MachineRecord) (hc : Count) (h : Option Count) :
    horizonIs m.dCam hc h (horizonAfter (some m) hc h) := by
  refine ⟨fun hzero => ?_, fun hne hnone => ?_, fun x hne hsome => ?_⟩
  · simp [horizonAfter, hzero]
  · simp [horizonAfter, hne, hnone, advance]
  · simp [horizonAfter, hne, hsome, advance, atOrBeyond]

@[simp] theorem otherPage_ne (page : Page) : otherPage page ≠ page := by cases page <;> decide

/-- What an accepted START leaves has no horizon, its machine record valid or not (R100). -/
theorem startPart_horizon (r : MachineRecord) (s : State) : (startPart r s).ntp.horizon = none := by
  simp [startPart, startNotes, formLeads]

theorem startEvent_horizon {s : State} (hs : s.rnc.runState = .off ∨ s.rnc.runState = .ready) :
    (startEvent s).ntp.horizon = none := by
  obtain hs | hs := hs <;> simp only [startEvent, hs, startPart_horizon]

/-- A START that takes its event at once, in OFF or READY, clears the horizon. -/
theorem commandStart_horizon {s : State} (hs : s.rnc.runState = .off ∨ s.rnc.runState = .ready)
    (hb : MayBegin .machine s) : (commandStart s).ntp.horizon = none := by
  rw [commandStart_mayBegin hb]
  have hevent := startEvent_horizon (s := popRequest (requestBurst .machine s)) (by simpa using hs)
  obtain ⟨w, hw⟩ := (afterBurst_memoryFrame (startEvent (popRequest (requestBurst .machine s)))).ntp
  rw [hw]
  exact hevent

/-- Settles O43: both ends of a page are its DONE burst, beneath which only the finishing applies the held
Hc; START and the resets set the horizon to none. -/
theorem pageFinishingAppliesTheHorizon : Obligations.PageFinishingAppliesTheHorizon := by
  refine ⟨fun s p rest m hwf hturn hp hm => ?finishing, fun s pg rest hwf hturn => ?cutShort,
    fun s => ⟨⟨_, rfl, rfl⟩, ⟨_, rfl, rfl⟩,
      fun hs hb => ⟨_, rfl, commandStart_horizon hs hb⟩⟩⟩
  case finishing =>
    refine ⟨_, exec_pageFinishing_finishing hturn hp, ?_⟩
    obtain ⟨-, -, hwaiting, hwork⟩ := hturn
    rw [finishPage_eq, hm, hwork]
    exact ⟨horizonAfter_horizonIs m p.hc s.ntp.horizon, doneBurst_readWord p.page hwf,
      doneBurst_sameOutside p.page s, rfl, rfl, otherPage_ne p.page, rfl,
      doneBurst_requestedAtEnd p.page _ hwaiting, rfl⟩
  case cutShort =>
    refine ⟨_, exec_pageFinishing_cutShort hturn, ?_⟩
    obtain ⟨-, -, hwaiting, hwork⟩ := hturn
    rw [finishCutShort_eq, hwork]
    exact ⟨rfl, doneBurst_readWord pg hwf, rfl, doneBurst_sameOutside pg s, rfl,
      doneBurst_requestedAtEnd pg _ hwaiting⟩

end Sys2Proof.Machine
end

section
/-! A CONVEYOR note (R138): the end of a note's event at the Note Processor's turn, and what a grant pass does
to OUT conveyors and waiting sets. -/

namespace Sys2Proof.Machine

/-! ### A note at its turn -/

/-- The kind of a decoded note. -/
def Note.kind : Note → NoteKind
  | .span .. => .span
  | .row .. => .row
  | .lane .. => .lane
  | .conveyor _ => .conveyor
  | .job _ => .job

/-- A note that decodes has the kind its kind word names. -/
theorem noteKind_of_decodeNote {m : Memory} {base : Nat} {n : Note}
    (h : decodeNote m base = .inl n) : noteKind m base = n.kind := by
  unfold decodeNote at h
  split at h
  case h_1 hk | h_2 hk | h_3 hk | h_4 hk | h_5 hk =>
    simp only [decodeSpan, decodeRow, decodeLane, decodeConveyor, decodeJob] at h
    split at h <;> cases h
    exact hk
  case h_6 => cases h

/-- A command meets at its turn a note of its own kind: the note's event takes place, and its read burst
ends. -/
theorem noteStep_of_turn {s : State} {p : PageInWork} {rest : List NoteBurst} {n : Note}
    (apply : State → Note → State × Fate × Nat) (h : NoteAtTurn s p rest)
    (hn : decodeNote s.pxm.memory p.noteBase = .inl n) :
    noteStep n.kind apply s = afterBurst (finishNote s p (apply s n)) := by
  obtain ⟨hturn, hwork, -⟩ := h
  simp only [noteStep, freeMemory_of_turn hturn, noteTurn_of_turn hturn, hwork,
    noteKind_of_decodeNote hn, noteEvent, hn, if_true]

/-- With no report write requested since `before`, the fate write is requested alone. -/
theorem requestTogether_eq {before s : State} (h : s.pxm.requests ⊆ before.pxm.requests) :
    requestTogether before s = requestBurst .notes s :=
  if_neg (by simpa using @h .reports)

/-- The end of a note's event that has changed no request: the next note index rises, and the fate write is
requested. -/
theorem finishNote_eq {s u : State} (p : PageInWork) (f : Fate) (d : Nat)
    (h : u.pxm.requests = s.pxm.requests) :
    finishNote s p (u, f, d) =
      { u with
        ntp := { u.ntp with
          inWork := some { p with next := p.next + 1 },
          work := .fateWrite p.page p.next f d :: workAfterNote p u.ntp.work },
        pxm := { u.pxm with requests := withRequest .notes s.pxm.requests.tail } } := by
  simp only [finishNote, giveFate]
  rw [requestTogether_eq (by simp [popRequest, setRequests, h, List.tail_subset]), ← h]
  rfl

theorem mem_withRequest (b : BurstSource) (q : List BurstSource) : b ∈ withRequest b q := by
  unfold withRequest
  split
  · assumption
  · simp

/-- A note's event that leaves the port, the page work and the half state accesses ends with the note's fate,
and nothing else follows it. -/
theorem noteDone_afterBurst {s u : State} {p : PageInWork} {rest : List NoteBurst} (f : Fate) (d : Nat)
    (h : NoteAtTurn s p rest) (hpxm : u.pxm = s.pxm) (hntp : u.ntp = s.ntp) (hrpw : u.rpw = s.rpw) :
    NoteDone (afterBurst (finishNote s p (u, f, d))) p rest f d ∧
      OnlyPageWork u (afterBurst (finishNote s p (u, f, d))) := by
  obtain ⟨⟨-, -, hwaiting, hwork⟩, -, hhalf⟩ := h
  rw [finishNote_eq p f d (by rw [hpxm]),
    afterBurst_idle _ (by simp [hpxm, hwaiting]) (by simp [hrpw, hhalf])]
  exact ⟨⟨rfl, by simp [hntp, hwork, workAfterNote], fun _ => mem_withRequest _ _⟩, rfl⟩

theorem tka_of_onlyPageWork {s t : State} (h : OnlyPageWork s t) : t.tka = s.tka := by
  unfold OnlyPageWork at h
  exact (congrArg State.tka h :)

/-! ### What a grant pass does to the arbiter -/

/-- A grant makes its conveyor PUSHING and takes the lane from the waiting set (R135). -/
theorem grant_tka (m : MachineRecord) (c : Conveyor) (l : Lane) (s : State) :
    (grant m c l s).tka =
      { conveyors := s.tka.conveyors.set c (.pushing l (m.conveyorTimeout * 100)),
        waiting := s.tka.waiting.set c ((s.tka.waiting.get c).set l none),
        reservations := s.tka.reservations + 1 } := by
  simp [grant, setConveyor, setWaiting]

/-- What a conveyor's turn in a grant pass can do: nothing, or a grant of the conveyor, which is AVAILABLE,
to the winner of its waiting set, with a reservation free (R133). -/
theorem grantTurn_cases (c : Conveyor) (s : State) :
    grantTurn c s = s ∨
      ∃ m l, s.rnc.record = some m ∧ s.tka.conveyors.get c = .available ∧
        s.tka.reservations < Config.reservationCapacity ∧
        winner m (s.tka.waiting.get c) = some l ∧ grantTurn c s = grant m c l s := by
  unfold grantTurn
  split
  next m hm hfree =>
    split
    next hcap =>
      split
      next l hl => exact .inr ⟨m, l, hm, hfree, hcap, hl, rfl⟩
      · exact .inl rfl
    · exact .inl rfl
  · exact .inl rfl

/-- A turn in a grant pass brings no conveyor into OUT or out of it. -/
theorem grantTurn_out_iff (c k : Conveyor) (s : State) :
    (grantTurn c s).tka.conveyors.get k = .out ↔ s.tka.conveyors.get k = .out := by
  obtain h | ⟨m, l, -, hfree, -, -, h⟩ := grantTurn_cases c s
  · rw [h]
  · rw [h, grant_tka, Conveyors.get_set]
    split
    next hk => simp [hk, hfree]
    · rfl

/-- No lane joins a waiting set, and none that stays changes its age, at a turn in a grant pass. -/
theorem grantTurn_waiting {c k : Conveyor} {l : Lane} {n : Nat} {s : State}
    (h : ((grantTurn c s).tka.waiting.get k).get l = some n) :
    (s.tka.waiting.get k).get l = some n := by
  obtain hs | ⟨m, j, -, -, -, -, hs⟩ := grantTurn_cases c s
  · rwa [hs] at h
  · rw [hs, grant_tka, Conveyors.get_set] at h
    split at h
    next hk =>
      rw [Lanes.get_set] at h
      split at h
      · cases h
      · rwa [hk]
    · exact h

theorem grantPass_out_iff (k : Conveyor) (s : State) :
    (grantPass s).tka.conveyors.get k = .out ↔ s.tka.conveyors.get k = .out :=
  (grantTurn_out_iff .c1 k _).trans (grantTurn_out_iff .c0 k s)

theorem grantPass_waiting {k : Conveyor} {l : Lane} {n : Nat} {s : State}
    (h : ((grantPass s).tka.waiting.get k).get l = some n) :
    (s.tka.waiting.get k).get l = some n :=
  grantTurn_waiting (grantTurn_waiting h)

/-! ### The rule -/

theorem applyConveyorNote_out {c : Conveyor} {s : State} (h : s.tka.conveyors.get c = .out) :
    applyConveyorNote c s = (grantPass (setConveyor c .available s), .done, 0) := by
  simp [applyConveyorNote, h]

theorem applyConveyorNote_ne_out {c : Conveyor} {s : State} (h : s.tka.conveyors.get c ≠ .out) :
    applyConveyorNote c s = (s, .done, 0) := by
  unfold applyConveyorNote
  split
  next hout => exact absurd hout h
  all_goals rfl

/-- Of the conveyors that are OUT, the return of one and the grant pass after it take that one alone. -/
theorem grantPass_setConveyor_out_iff (c k : Conveyor) (s : State) :
    (grantPass (setConveyor c .available s)).tka.conveyors.get k = .out ↔
      s.tka.conveyors.get k = .out ∧ k ≠ c := by
  rw [grantPass_out_iff]
  by_cases hk : k = c <;> simp [setConveyor, Conveyors.get_set, hk]

theorem exec_conveyorNote_of_turn {s : State} {p : PageInWork} {rest : List NoteBurst} {c : Conveyor}
    (h : NoteAtTurn s p rest) (hn : decodeNote s.pxm.memory p.noteBase = .inl (.conveyor c)) :
    exec .conveyorNote s = .next (afterBurst (finishNote s p (applyConveyorNote c s))) := by
  have hstep := noteStep_of_turn conveyorOutcome h hn
  simp only [Note.kind, conveyorOutcome] at hstep
  simp only [exec, execConveyorNote, hstep]

/-- Settles O39: the note's event ends alike on both sides; OUT, the state beneath it is that of the return
and its grant pass, in which a turn grants AVAILABLE conveyors only. -/
theorem conveyorNoteReturnsAnOutConveyor : Obligations.ConveyorNoteReturnsAnOutConveyor := by
  intro s p rest c hturn hnote
  refine ⟨_, exec_conveyorNote_of_turn hturn hnote, ?_⟩
  by_cases hout : s.tka.conveyors.get c = .out
  case pos =>
    rw [applyConveyorNote_out hout]
    obtain ⟨hdone, honly⟩ := noteDone_afterBurst (u := grantPass (setConveyor c .available s))
      .done 0 hturn (by simp [setConveyor]) (by simp [setConveyor]) (by simp [setConveyor])
    refine ⟨hdone, fun hne => absurd hout hne, ?_⟩
    rintro - u rfl
    refine ⟨honly, fun k => ?_, fun k l n hwaits => ?_⟩
    · rw [tka_of_onlyPageWork honly]
      exact grantPass_setConveyor_out_iff c k s
    · rw [tka_of_onlyPageWork honly] at hwaits
      exact grantPass_waiting (s := setConveyor c .available s) hwaits
  case neg =>
    rw [applyConveyorNote_ne_out hout]
    obtain ⟨hdone, honly⟩ := noteDone_afterBurst .done 0 hturn rfl rfl rfl
    exact ⟨hdone, fun _ => honly, fun h => absurd h hout⟩

end Sys2Proof.Machine
end

section
/-! IRQ (R174): the bits of ATTENTION and ATTN_MASK as register words, and the output over those bits. -/

namespace Sys2Proof.Machine

/-! ### Flags and their register word -/

/-- A register word keeps each of the five flags (R172, R183). -/
theorem attentionOf_attentionWord (x : Attention) : attentionOf (attentionWord x) = x := by
  obtain ⟨pageDone, reports, fault, state, cmd⟩ := x
  revert pageDone reports fault state cmd
  decide

@[simp] theorem attentionWord_bit0 (x : Attention) : (attentionWord x)[0] = x.pageDone :=
  congrArg Attention.pageDone (attentionOf_attentionWord x)

@[simp] theorem attentionWord_bit1 (x : Attention) : (attentionWord x)[1] = x.reports :=
  congrArg Attention.reports (attentionOf_attentionWord x)

@[simp] theorem attentionWord_bit2 (x : Attention) : (attentionWord x)[2] = x.fault :=
  congrArg Attention.fault (attentionOf_attentionWord x)

@[simp] theorem attentionWord_bit3 (x : Attention) : (attentionWord x)[3] = x.state :=
  congrArg Attention.state (attentionOf_attentionWord x)

@[simp] theorem attentionWord_bit4 (x : Attention) : (attentionWord x)[4] = x.cmd :=
  congrArg Attention.cmd (attentionOf_attentionWord x)

/-- The five bits that hold flags pass unchanged from a written word to the register's word. -/
theorem attentionWord_attentionOf_getLsbD (w : Word) {i : Nat} (hi : i < 5) :
    (attentionWord (attentionOf w)).getLsbD i = w.getLsbD i := by
  interval_cases i <;> simp [attentionOf]

/-! ### IRQ over the bits -/

/-- A flag is pending exactly when one of the five bits is set in both register words. -/
theorem attentionPending_iff (x mask : Attention) :
    attentionPending x mask = true ↔ ∃ i, i < 5 ∧
      (attentionWord x).getLsbD i = true ∧ (attentionWord mask).getLsbD i = true := by
  constructor
  · intro h
    simp only [attentionPending, Bool.or_eq_true, Bool.and_eq_true] at h
    obtain (((h | h) | h) | h) | h := h
    · exact ⟨0, by omega, by simpa using h⟩
    · exact ⟨1, by omega, by simpa using h⟩
    · exact ⟨2, by omega, by simpa using h⟩
    · exact ⟨3, by omega, by simpa using h⟩
    · exact ⟨4, by omega, by simpa using h⟩
  · rintro ⟨i, hi, hflag, henable⟩
    interval_cases i <;> simp_all [attentionPending]

theorem irq_iff (s : State) : irq s = true ↔ ∃ i, i < 5 ∧
    (attentionWord s.pxm.attention).getLsbD i = true ∧ (attentionWord s.pxm.mask).getLsbD i = true :=
  attentionPending_iff s.pxm.attention s.pxm.mask

/-- With all flags clear, as a reset leaves them, IRQ is released. -/
theorem irq_of_clear {s : State} (h : s.pxm.attention = .clear) : irq s = false := by
  simp [irq, h, attentionPending, Attention.clear]

/-! ### The rule -/

/-- Settles O11: IRQ by the bits of both registers; a written mask has the word's five bits, so a flag it
enables meets that rule; the resets clear the flags. -/
theorem irqFollowsFlagsAndEnables : Obligations.IrqFollowsFlagsAndEnables := by
  refine ⟨irq_iff, fun w s => ?maskWrite,
    fun s => ⟨⟨_, rfl, irq_of_clear rfl⟩, ⟨_, rfl, irq_of_clear rfl⟩⟩⟩
  case maskWrite =>
    refine ⟨_, rfl, fun i hi => attentionWord_attentionOf_getLsbD w hi, fun i hi hflag henable => ?_, rfl⟩
    exact (irq_iff _).2 ⟨i, hi, hflag, (attentionWord_attentionOf_getLsbD w hi).trans henable⟩

end Sys2Proof.Machine
end

section
/-! What the operations of START and of the samples leave as it stands. -/

namespace Sys2Proof.Machine

/-- Forming the leads touches the knife's lead and the flap leads alone (R60, R103). -/
@[simp] theorem formLeads_keeps (s : State) :
    (formLeads s).mkt = s.mkt ∧ (formLeads s).rot = s.rot ∧ (formLeads s).ntp = s.ntp ∧
    (formLeads s).skc = s.skc ∧ (formLeads s).tka = s.tka ∧ (formLeads s).jbc = s.jbc ∧
    (formLeads s).rnc = s.rnc ∧ (formLeads s).pxm = s.pxm ∧ (formLeads s).rpw = s.rpw ∧
    (formLeads s).choices = s.choices ∧ (formLeads s).pending = s.pending := by
  simp [formLeads]

/-- START's note work leaves the blocks but the Note Processor's and the port's requests (R82, R158). -/
@[simp] theorem startNotes_keeps (ready : Bool) (s : State) :
    (startNotes ready s).mkt = s.mkt ∧ (startNotes ready s).rot = s.rot ∧
    (startNotes ready s).knt = s.knt ∧ (startNotes ready s).lnd = s.lnd ∧
    (startNotes ready s).skc = s.skc ∧ (startNotes ready s).tka = s.tka ∧
    (startNotes ready s).jbc = s.jbc ∧ (startNotes ready s).rnc = s.rnc ∧
    (startNotes ready s).rpw = s.rpw ∧ (startNotes ready s).choices = s.choices ∧
    (startNotes ready s).pending = s.pending := by
  simp [startNotes]

/-- A fire changes the track and, of the knife, what it records of the stroke (R63). -/
@[simp] theorem fireCut_keeps (g : Bool) (r : Row) (s : State) :
    (fireCut g r s).trc = s.trc ∧ (fireCut g r s).mkt = s.mkt ∧ (fireCut g r s).ntp = s.ntp ∧
    (fireCut g r s).lnd = s.lnd ∧ (fireCut g r s).skc = s.skc ∧ (fireCut g r s).tka = s.tka ∧
    (fireCut g r s).jbc = s.jbc ∧ (fireCut g r s).rnc = s.rnc ∧ (fireCut g r s).pxm = s.pxm ∧
    (fireCut g r s).rpw = s.rpw ∧ (fireCut g r s).choices = s.choices ∧
    (fireCut g r s).pending = s.pending ∧ (fireCut g r s).knt.lead = s.knt.lead ∧
    (fireCut g r s).knt.inhibit = s.knt.inhibit ∧
    (fireCut g r s).knt.stallCount = s.knt.stallCount := by
  simp [fireCut, setTrack]

/-- A change of run state changes nothing else of the Run Controller (R155). -/
theorem setRunState_rnc (r : RunState) (s : State) :
    (setRunState r s).rnc = { s.rnc with runState := r } := by
  unfold setRunState
  cases r <;> (dsimp only; split <;> simp)

/-- In RUN and DRAIN a halting fault leaves the part HALTED, with its code and without stop rows (R164). -/
theorem raiseHalting_rnc_of_run (h : HaltingFault) (f : Count) (s : State)
    (hr : s.rnc.runState = .run ∨ s.rnc.runState = .drain) :
    (raiseHalting h f s).rnc =
      { s.rnc.noStops with faultCode := some h, runState := .halted } := by
  unfold raiseHalting
  obtain hr | hr := hr <;> simp [hr, setRunState_rnc]

/-- In every other run state a halting fault leaves the Run Controller (R165). -/
theorem raiseHalting_rnc_of_not_run (h : HaltingFault) (f : Count) (s : State)
    (hr : ¬ (s.rnc.runState = .run ∨ s.rnc.runState = .drain)) :
    (raiseHalting h f s).rnc = s.rnc := by
  unfold raiseHalting
  split <;> simp_all

/-- A part that is HALTED stays so, and one that is running is HALTED after a halting fault. -/
theorem raiseHalting_runState (h : HaltingFault) (f : Count) (s : State) :
    (raiseHalting h f s).rnc.runState = if running s then .halted else s.rnc.runState := by
  unfold raiseHalting running
  split <;> simp_all

/-! ### START and the resets -/

/-- What an accepted START leaves of the blocks that the invariants name, valid or not (R158). -/
theorem startPart_blocks (r : MachineRecord) (s : State) :
    (startPart r s).mkt = s.mkt.start ∧ (startPart r s).rot = .reset ∧
    (startPart r s).knt =
      { s.knt.start with lead := knifeLeadAt (startPart r s).rnc.record s.trc.speed } ∧
    (startPart r s).skc = Lanes.fill .reset ∧ (startPart r s).tka = s.tka.start ∧
    (startPart r s).jbc = .reset ∧ (startPart r s).rpw = s.rpw ∧
    (startPart r s).rnc = { s.rnc.start r with runState := startState r } := by
  simp [startPart, formLeads, setRunState_rnc, Trc.start]

/-- What START leaves of the Note Processor: nothing held, and the bursts it still needs (R82, R158). -/
theorem startPart_ntp (r : MachineRecord) (s : State) :
    (startPart r s).ntp =
      { inWork := none, expectedPage := .a, horizon := none, guardPoint := none, spans := [],
        work := workAfterStart (machineIndex r == 0) (s.pxm.requests.contains .notes) s.ntp } := by
  simp [startPart, startNotes, setNoteWork, updateNoteRequest]

/-- START leaves every flap at REJECT, no arrival, and the flap leads formed (R111, R158). -/
theorem startPart_lnd (r : MachineRecord) (s : State) (l : Lane) :
    (startPart r s).lnd.get l = { flapLead := flapLeadAt (startPart r s).rnc.record s.trc.speed,
                                  flap := .reject, arrivals := [] } := by
  unfold startPart startState
  split <;> simp [formLeads, Lnd.rejectFlap, Trc.start]

/-- RESTART leaves every block but the port as its reset does, but for what it records (R167). -/
theorem commandRestart_blocks (s : State) :
    (commandRestart s).mkt = { Mkt.reset with markActive := s.mkt.markActive } ∧
    (commandRestart s).rot = .reset ∧ (commandRestart s).knt = .reset ∧
    (commandRestart s).ntp = .reset ∧ (commandRestart s).lnd = Lanes.fill .reset ∧
    (commandRestart s).skc = Lanes.fill .reset ∧ (commandRestart s).tka = .reset ∧
    (commandRestart s).jbc = .reset ∧ (commandRestart s).rpw = .reset ∧
    (commandRestart s).rnc = { Rnc.reset with lastCommand := some 5#8, result := .accepted } ∧
    (commandRestart s).trc = { Trc.reset with pins := s.trc.pins, reference := s.trc.pins } := by
  have hcut : (cutOffBurst s).mkt = s.mkt ∧ (cutOffBurst s).trc = s.trc := by
    unfold cutOffBurst
    split <;> exact ⟨rfl, rfl⟩
  simp [commandRestart, resetPart, State.reset, hcut]

end Sys2Proof.Machine
end

section
/-! What every reaction of the run is made of: a property that each of these acts keeps is kept by every
reaction, whatever the order of the acts that one event makes due. The invariants of the part are proved
kept by a step through this list. -/

namespace Sys2Proof.Machine

/-! ### The acts -/

/-- A stack that differs only in what its marks count: extras and suspect marks (R94, R121). -/
structure StackMarked (x y : Stack) : Prop where
  same : ∃ e n f, y = { x with extra := e, suspect := n, firstSuspect := f }
  extra : y.extra ≤ x.extra ∨ y.extra ≤ 65535
  suspect : y.suspect ≤ x.suspect ∨ y.suspect ≤ 65535

/-- The Mark Tracker changed by a reaction that makes no row: it leaves IDLE by no reaction, and what it
counts stays in range. -/
structure TrackerMoved (k k' : Mkt) : Prop where
  idle : k.state = .idle → k'.state = .idle
  stretch : k'.stretch = k.stretch
  coastCount : k'.coastCount ≤ k.coastCount ∨ k'.coastCount ≤ 255
  strayCount : k'.strayCount ≤ k.strayCount ∨ k'.strayCount ≤ 65535
  glitchCount : k'.glitchCount ≤ k.glitchCount ∨ k'.glitchCount ≤ 65535

/-- The Travel Counter changed by anything but a speed sample or START. -/
structure TravelMoved (x y : Trc) : Prop where
  speed : y.speed = x.speed
  standstill : y.standstill = x.standstill
  deglitchCount : y.deglitchCount = x.deglitchCount

/-- A creation before its tests of the targets: the row joins, and the Note Processor, Job Control and the
tracker take it (R49). -/
def withRow (c : JobContext) (m : MachineRecord) (q : RowRequest) (next : TrackerState)
    (room : List Row) (s : State) : State :=
  let stretch := requestStretch c.job q s.mkt
  let r := makeRow c m q stretch s
  let s1 := s.setRot
    { track := room ++ [r], lastNumber := r.number, overflowDetector := .armed }
  let s2 := s1.setNtp { s1.ntp with
    spans := spansBeyond r.cut s1.ntp.spans, guardPoint := guardAfter s1.ntp.guardPoint r.lead }
  let s3 := s2.setJbc { s2.jbc with current := some (c.addRow r.number) }
  s3.setMkt (trackerAfter c.job q r stretch next s3.mkt)

/-- A creation is the row's joining and the tests that follow it. -/
theorem createRow_eq (c : JobContext) (m : MachineRecord) (q : RowRequest) (next : TrackerState)
    (room : List Row) (s : State) : createRow c m q next room s =
      testTargets false (nextCutNumber (withRow c m q next room s) != nextCutNumber s) s
        (withRow c m q next room s) := rfl

/-- A property that every act of a decision keeps. -/
structure KeptByDecisions (P : State → Prop) : Prop where
  choices : ∀ s n, P s → P (s.setChoices n)
  attention : ∀ s x, P s → P (setAttention x s)
  otherRecord : ∀ s r, r.isStack = false → P s → P (queueRecord r s)
  grantPass : ∀ s, P s → P (grantPass s)
  shortClose : ∀ s k l, P s → P (shortClose k l s)
  closePending : ∀ s x, P s → P (s.setJbc { s.jbc with closePending := x })
  stopDone : ∀ s l, P s →
    P (s.setRnc { s.rnc with stopPending := s.rnc.stopPending.set l false })
  freePrevious : ∀ s c, s.jbc.previous = some c → P s → P (freePrevious c s)
  emptyTrack : ∀ s, P s → P (emptyTrack s)
  ended : ∀ s, s.rnc.runState = .run ∨ s.rnc.runState = .drain → s.rot.track = [] → P s →
    P (setRunState .ready (trackerToIdle (endContexts (clearStops s))))
  changeRow : ∀ s n f, (∀ r : Row, (f r).number = r.number ∧ (f r).trail = r.trail) → P s →
    P (setTrack (mapRow n f s.rot.track) s)
  rejectFlap : ∀ s l, P s → P (setDecider l (s.lnd.get l).rejectFlap s)
  tally : ∀ s t r, P s → P (tallyReject t r s)
  passGood : ∀ s u m l r id, s.rnc.record = some m → r ∈ s.rot.track →
    placeFor l r s = some (u, id) → P s → P (passGood m l r id u)

/-- A property that every act of a reaction keeps, but for those that end a stroke and what follows them
(HOME and STALL). -/
structure KeptOffStroke (P : State → Prop) : Prop extends KeptByDecisions P where
  resolve : ∀ s l b a rest, (s.lnd.get l).arrivals = a :: rest → P s →
    P (resolve l a.stackId b (setArrivals l rest s))
  markStacks : ∀ s l q, List.Forall₂ StackMarked (s.skc.get l).line q → P s → P (setLine l q s)
  cut : ∀ s r, fireableCut s = some r → P s → P (fireCut false r s)
  halt : ∀ s h f, P s → P (raiseHalting h f s)
  reassert : ∀ s, s.knt.output = .gap → P s → P (s.setKnt { s.knt with output := .asserted })
  tracker : ∀ s k, TrackerMoved s.mkt k → P s → P (s.setMkt k)
  travel : ∀ s x, TravelMoved s.trc x → P s → P (s.setTrc x)
  overflow : ∀ s x, P s → P (s.setRot { s.rot with overflowDetector := x })
  refused : ∀ s, s.mkt.state ≠ .idle → P s → P (s.setMkt s.mkt.reenter)
  row : ∀ s c m q next room, s.jbc.current = some c → s.rnc.record = some m →
    roomFor s.rot.track = some room → s.mkt.state ≠ .idle → P s → P (withRow c m q next room s)
  spans : ∀ s q g, q.length ≤ 32 ∨ q.length ≤ s.ntp.spans.length → P s →
    P (s.setNtp { s.ntp with spans := q, guardPoint := g })
  departed : ∀ s c l n x b, s.tka.conveyors.get c = .pushing l n → x.isPushing = false → P s →
    P (setConveyor c x (departFront l (handOver l b s)))

/-- A property that every act of a reaction keeps. -/
structure KeptByActs (P : State → Prop) : Prop extends KeptOffStroke P where
  fire : ∀ s gap r, fireableCut s = some r → P s → P (fireCut gap r s)
  cut := fun s r hr h => fire s false r hr h
  endStroke : ∀ s c t bad n, s.knt.cycle = some c → n ≤ 3 → (∀ f, t ≠ .firing f) → P s →
    P (endStroke c t bad n s)
  stallFault : ∀ s, s.knt.cycle = none → P s → P (stallFault s)

namespace KeptByDecisions

variable {P : State → Prop} (K : KeptByDecisions P)
include K

/-! ### Ends of contexts and of DRAIN -/

theorem passIfJoined (b s : State) (h : P s) : P (passIfJoined b s) := by
  unfold Machine.passIfJoined
  split
  · exact h
  · exact K.grantPass s h

theorem freeingTest (s : State) (h : P s) : P (freeingTest s) := by
  unfold Machine.freeingTest
  split
  · exact h
  next c hc =>
    split
    · exact K.freePrevious s c hc h
    · exact h

end KeptByDecisions

/-- A record is queued before or after the Run Controller is changed: neither looks at the other. -/
theorem queueRecord_setRnc (r : Record) (x : Rnc) (s : State) :
    queueRecord r (s.setRnc x) = (queueRecord r s).setRnc x := by
  unfold queueRecord
  rw [apply_ite (fun u => State.setRnc u x)]
  refine if_congr Iff.rfl ?_ rfl
  unfold updateReportRequest askFor
  rw [apply_ite (fun u => State.setRnc u x)]
  rfl

theorem queueJobEnd_setRnc (c : Option JobContext) (x : Rnc) (s : State) :
    queueJobEnd c (s.setRnc x) = (queueJobEnd c s).setRnc x := by
  cases c with
  | none => rfl
  | some c => exact queueRecord_setRnc _ _ _

/-- The contexts end in the same way with the stops dropped first: the order of R161 and that of R162
come to the same. -/
theorem clearStops_trackerToIdle_endContexts (s : State) :
    clearStops (trackerToIdle (endContexts s)) = trackerToIdle (endContexts (clearStops s)) := by
  unfold clearStops trackerToIdle endContexts clearTargets
  simp only [State.setRnc_jbc, queueJobEnd_setRnc, State.setMkt_rnc, State.setSkc_rnc,
    State.setJbc_rnc]
  simp only [State.setRnc, State.setMkt, State.setSkc, State.setJbc]
  cases s.jbc.previous <;> cases s.jbc.current <;> simp [queueJobEnd]

theorem endDrain_eq (s : State) : endDrain s =
    setRunState .ready (trackerToIdle (endContexts (clearStops (emptyTrack s)))) := by
  unfold endDrain
  rw [clearStops_trackerToIdle_endContexts]

namespace KeptByDecisions

variable {P : State → Prop} (K : KeptByDecisions P)
include K

theorem endTest (s : State) (h : P s) : P (endTest s) := by
  unfold Machine.endTest
  split
  next hd =>
    rw [endDrain_eq]
    have hr : s.rnc.runState = .drain := by
      simp only [drainOver, Bool.and_eq_true, beq_iff_eq] at hd
      exact hd.1.1.1
    exact K.ended _ (.inr (by simpa using hr)) (by simp [Machine.emptyTrack]) (K.emptyTrack s h)
  next => exact h

/-! ### Decisions -/

theorem jobClose (s : State) (l : Lane) (h : P s) : P (jobClose l s) :=
  K.closePending _ _ (K.shortClose s _ l h)

theorem stopClose (s : State) (l : Lane) (h : P s) : P (stopClose l s) :=
  K.stopDone _ _ (K.shortClose s _ l h)

theorem passReject (s : State) (l : Lane) (r : Row) (x : Reasons) (h : P s) :
    P (passReject l r x s) := by
  have hfrozen : P (freezeEntry l r.number (.reject x) s) :=
    K.changeRow s _ _ (fun _ => ⟨rfl, rfl⟩) h
  have hflap := K.rejectFlap _ l hfrozen
  unfold Machine.passReject
  dsimp only
  split
  · exact K.tally _ _ _ hflap
  · exact hflap

theorem judge (s : State) (m : MachineRecord) (l : Lane) (r : Row) (x : Reasons)
    (hm : s.rnc.record = some m) (hr : r ∈ s.rot.track) (h : P s) : P (judge m l r x s) := by
  unfold Machine.judge
  dsimp only
  split
  · exact K.passReject s l r _ h
  · split
    next hp => exact K.passGood s _ m l r _ hm hr hp h
    next => exact K.passReject s l r _ h

theorem laneDecided (s : State) (l : Lane) (n : RowNum) (h : P s) : P (laneDecided l n s) := by
  refine K.passIfJoined _ _ (takeDue_inv K.choices (fun k u hu => ?_) _ h)
  cases k with
  | job => exact K.jobClose u l hu
  | stop => exact K.stopClose u l hu

theorem afterDecision (s : State) (n : RowNum) (b : Bool) (h : P s) :
    P (afterDecision n b s) := by
  unfold Machine.afterDecision
  dsimp only
  have hfreed : P (if rowDecided n s then Machine.freeingTest s else s) := by
    split
    · exact K.freeingTest s h
    · exact h
  split
  · exact K.endTest _ hfreed
  · exact hfreed

theorem decideRow (s : State) (l : Lane) (r : Row) (hr : r ∈ s.rot.track) (h : P s) :
    P (decideRow l r s) := by
  unfold Machine.decideRow
  split
  next hm _ => exact K.afterDecision _ _ _ (K.laneDecided _ _ _ (K.judge s _ l r _ hm hr h))
  next => exact h

theorem decideWhileDue (l : Lane) (n : Nat) (s : State) (h : P s) : P (decideWhileDue l n s) := by
  induction n generalizing s with
  | zero => exact h
  | succ n ih =>
    unfold Machine.decideWhileDue
    split
    next hd => exact ih _ (K.decideRow s l _ (dueRow_mem hd).1 h)
    next => exact h

theorem decideTest (s : State) (l : Lane) (h : P s) : P (decideTest l s) :=
  K.decideWhileDue l _ s h

theorem passEndTest (s : State) (l : Lane) (h : P s) : P (passEndTest l s) := by
  unfold Machine.passEndTest
  split
  · exact K.rejectFlap s l h
  · exact h

theorem laneTest (s : State) (l : Lane) (h : P s) : P (laneTest l s) :=
  K.decideTest _ l (K.passEndTest s l h)

end KeptByDecisions

namespace KeptOffStroke

variable {P : State → Prop} (K : KeptOffStroke P)
include K

/-! ### Arrivals -/

theorem resolveOldest (s : State) (l : Lane) (b : Bool) (h : P s) : P (resolveOldest l b s) := by
  unfold Machine.resolveOldest
  split
  · exact h
  next hq => exact K.freeingTest _ (K.passIfJoined _ _ (K.resolve s l b _ _ hq h))

theorem windowTest (s : State) (l : Lane) (h : P s) : P (windowTest l s) := by
  unfold Machine.windowTest
  split
  · exact K.resolveOldest s l _ h
  · exact h

end KeptOffStroke

theorem StackMarked.refl (x : Stack) : StackMarked x x :=
  ⟨⟨_, _, _, rfl⟩, .inl le_rfl, .inl le_rfl⟩

theorem riseTo_le (limit n : Nat) : riseTo limit n ≤ limit := by
  unfold riseTo
  split <;> omega

theorem countExtra_marked (x : Stack) : StackMarked x (countExtra x) :=
  ⟨⟨_, _, _, rfl⟩, .inr (riseTo_le _ _), .inl le_rfl⟩

theorem markSuspect_marked (n : RowNum) (x : Stack) : StackMarked x (markSuspect n x) :=
  ⟨⟨_, _, _, rfl⟩, .inl le_rfl, .inr (riseTo_le _ _)⟩

/-- A line with the stack of one id marked. -/
theorem mapStack_marked {f : Stack → Stack} (h : ∀ x, StackMarked x (f x)) (id : Nat)
    (q : List Stack) : List.Forall₂ StackMarked q (mapStack id f q) := by
  rw [mapStack, List.forall₂_map_right_iff, List.forall₂_same]
  intro x _
  split
  · exact h x
  · exact .refl x

/-- A line with an extra counted in its last stack. -/
theorem extraLast_marked (q : List Stack) : List.Forall₂ StackMarked q (extraLast q) := by
  have hrefl : ∀ q : List Stack, List.Forall₂ StackMarked q q := fun q =>
    List.forall₂_same.2 fun x _ => .refl x
  unfold extraLast
  split
  next x hx =>
    conv => lhs; rw [← List.dropLast_append_getLast? x hx]
    exact List.rel_append (hrefl _) (.cons (countExtra_marked x) .nil)
  next => exact hrefl q

namespace KeptOffStroke

variable {P : State → Prop} (K : KeptOffStroke P)
include K

theorem matchEye (s : State) (l : Lane) (h : P s) : P (matchEye l s) := by
  unfold Machine.matchEye
  split
  · exact K.markStacks s l _ (extraLast_marked _) h
  · split
    · exact K.resolveOldest s l _ h
    · exact K.markStacks s l _ (mapStack_marked countExtra_marked _ _) h

/-! ### The knife -/

theorem fireTest (s : State) (h : P s) : P (fireTest false s) := by
  unfold Machine.fireTest
  split
  next hr => exact K.cut s _ hr h
  next => exact h

theorem haltPart (s : State) (e : HaltingFault) (f : Count) (h : P s) : P (haltPart e f s) := by
  unfold Machine.haltPart
  dsimp only
  split
  · exact K.halt s e f h
  · exact K.fireTest _ (K.halt s e f h)

theorem testTargets (knife : Bool) (b s : State) (h : P s) : P (testTargets false knife b s) := by
  refine takeDue_inv K.choices (fun t u hu => ?_) _ h
  cases t with
  | fire => exact K.fireTest u hu
  | lane l => exact K.decideTest u l hu

/-! ### The tracker -/

theorem requestRow (s : State) (q : RowRequest) (next : TrackerState) (hk : s.mkt.state ≠ .idle)
    (h : P s) : P (requestRow q next s).1 := by
  unfold Machine.requestRow
  split
  next c m hc hm =>
    split
    next room hroom =>
      rw [createRow_eq]
      exact K.testTargets _ _ _ (K.row s c m q next room hc hm hroom hk h)
    next =>
      unfold refuseRow
      dsimp only
      split
      · exact K.haltPart _ _ _ (K.overflow _ _ (K.refused s hk h))
      · exact K.refused s hk h
  next => exact h

theorem countCoast (s : State) (j : JobRecord) (x : Count) (h : P s) : P (countCoast j x s) := by
  have hcount : P (s.setMkt { s.mkt with coastCount := riseTo 255 s.mkt.coastCount }) :=
    K.tracker s _ ⟨id, rfl, .inr (riseTo_le _ _), .inl le_rfl, .inl le_rfl⟩ h
  unfold Machine.countCoast
  split
  · exact h
  · dsimp only
    split
    · exact K.haltPart _ _ _ hcount
    · exact hcount

theorem coastTest (s : State) (h : P s) : P (coastTest s) := by
  unfold Machine.coastTest
  split
  next x hx =>
    have hk : s.mkt.state ≠ .idle := by
      intro hidle
      simp only [coastPoint, hidle] at hx
      split at hx <;> cases hx
    unfold takeCoast
    split
    · exact h
    next c _ =>
      have hrow := K.requestRow s ⟨.coasted, nextClass c.job s.mkt, x⟩ (coastState s.mkt.state) hk h
      split
      next e => rw [e] at hrow; exact K.countCoast _ _ _ hrow
      next e => rw [e] at hrow; exact hrow
  next => exact h

theorem judgeMark (s : State) (e : Count) (h : P s) : P (judgeMark e s) := by
  unfold Machine.judgeMark
  split
  next c m _ _ =>
    split
    next q hq =>
      have hk : s.mkt.state ≠ .idle := by
        intro hidle
        simp [markRequest, hidle] at hq
      exact K.requestRow s q _ hk h
    next =>
      exact K.coastTest _ (K.tracker s _ ⟨id, rfl, .inl le_rfl, .inr (riseTo_le _ _), .inl le_rfl⟩ h)
  next => exact h

theorem keptTest (s : State) (h : P s) : P (keptTest s) := by
  unfold Machine.keptTest
  split
  · exact K.judgeMark _ _ (K.tracker s _ ⟨id, rfl, .inl le_rfl, .inl le_rfl, .inl le_rfl⟩ h)
  · exact h

theorem reacquireTest (s : State) (h : P s) : P (reacquireTest s) := by
  unfold Machine.reacquireTest
  split
  · refine K.tracker s _ ⟨fun hk => ?_, rfl, .inl le_rfl, .inl le_rfl, .inl le_rfl⟩ h
    simp [hk, reacquireState]
  · exact h

theorem handPoint (s : State) (q : Count) (n : Nat) (h : P s) : P (handPoint q n s) := by
  refine K.reacquireTest _ (K.tracker s _ ?_ h)
  unfold takePoint
  repeat' split
  all_goals exact ⟨id, rfl, .inl le_rfl, .inl le_rfl, .inl le_rfl⟩

/-! ### Spans and marks -/

theorem suspectMark (s : State) (l : Lane) (id : Nat) (n : RowNum) (h : P s) :
    P (suspectMark l id n s) := by
  unfold Machine.suspectMark
  dsimp only
  split
  · exact K.markStacks s l _ (mapStack_marked (markSuspect_marked n) _ _) h
  · exact K.otherRecord s _ rfl h

theorem visitLane (n : RowNum) (x : Reason) (a : Collected) (l : Lane) (h : P a.state) :
    P (visitLane n x a l).state := by
  unfold Machine.visitLane
  repeat' split
  · exact h
  · exact h
  · exact K.changeRow _ _ _ (fun _ => ⟨rfl, rfl⟩) h
  · exact K.suspectMark _ _ _ _ h
  · exact h

theorem visitRow (n : RowNum) (x : Reason) (lanes : LaneSet) (a : Collected) (h : P a.state) :
    P (visitRow n x lanes a).state := by
  unfold Machine.visitRow
  induction lanesOf lanes generalizing a with
  | nil => exact h
  | cons l q ih => exact ih _ (K.visitLane n x a l h)

theorem applyTracked (a b : Count) (x : SpanReach) (r : Reason) (s : State) (h : P s) :
    P (applyTracked a b x r s).state := by
  unfold Machine.applyTracked
  suffices hfold : ∀ (q : List Row) (c : Collected), P c.state →
      P (q.foldl (fun a w => Machine.visitRow w.number r (reachIn x w.tag s) a) c).state from
    hfold _ _ h
  intro q
  induction q with
  | nil => exact fun _ hc => hc
  | cons w q ih => exact fun c hc => ih _ (K.visitRow _ _ _ c hc)

omit K in
theorem insertSpan_length (p : PendingSpan) (q : List PendingSpan) :
    (insertSpan p q).length = q.length + 1 := by
  induction q with
  | nil => rfl
  | cons w q ih =>
    unfold insertSpan
    split
    · rfl
    · simp [ih]

theorem holdRemainder (w : Option WebSpan) (k : LaneSet) (r : SpanReason) (s : State) (h : P s) :
    P (holdRemainder w k r s).1 := by
  unfold Machine.holdRemainder
  split
  · exact h
  · split
    · exact h
    · split
      next hlt => exact K.spans s _ _ (.inl (by rw [insertSpan_length]; exact hlt)) h
      next => exact K.spans s _ _ (.inr le_rfl) h

theorem applySplice (s : State) (a b : Count) (h : P s) : P (applySplice a b s) := by
  unfold Machine.applySplice
  split
  · exact h
  · exact K.holdRemainder _ _ _ _ (K.applyTracked _ _ _ _ s h)

/-! ### Takeaway -/

theorem raiseTimeout (s : State) (c : Conveyor) (f : Count) (h : P s) :
    P (raiseTimeout c f s) := K.otherRecord _ _ rfl (K.attention s _ h)

theorem deliver (s : State) (c : Conveyor) (l : Lane) (n : Nat)
    (hc : s.tka.conveyors.get c = .pushing l n) (h : P s) : P (deliver c l s) :=
  K.endTest _ (K.grantPass _ (K.departed s c l n .available false hc rfl h))

theorem remove (s : State) (c : Conveyor) (l : Lane) (n : Nat)
    (hc : s.tka.conveyors.get c = .pushing l n) (h : P s) : P (remove c l s) :=
  K.endTest _ (K.raiseTimeout _ _ _ (K.departed s c l n .out true hc rfl h))

/-! ### Events of the front and the encoder -/

theorem frontAdvance (s : State) (h : P s) : P (frontAdvance s) := by
  refine takeDue_inv K.choices (fun t u hu => ?_) _ h
  cases t with
  | reacquire => exact K.reacquireTest u hu
  | kept => exact K.keptTest u hu
  | coast => exact K.coastTest u hu
  | fire => exact K.fireTest u hu
  | lane l => exact K.laneTest u l hu
  | window l => exact K.windowTest u l hu

theorem sampleTests (s : State) (h : P s) : P (takeDue sampleDue sampleAct targetActs s) := by
  refine takeDue_inv K.choices (fun t u hu => ?_) _ h
  cases t with
  | fire => exact K.fireTest u hu
  | lane l => exact K.laneTest u l hu

theorem forwardCount (s t : State) (e : execForwardCount s = .next t) (h : P s) : P t := by
  have hmoved : P (s.setTrc s.trc.forward) := by
    refine K.travel s _ ?_ h
    unfold Trc.forward
    dsimp only
    split <;> exact ⟨rfl, rfl, rfl⟩
  unfold execForwardCount at e
  split at e
  · cases e; exact K.travel s _ ⟨rfl, rfl, rfl⟩ h
  · split at e <;> cases e
    · exact K.frontAdvance _ hmoved
    · exact hmoved

theorem reverseCount (s t : State) (e : execReverseCount s = .next t) (h : P s) : P t := by
  have hmoved : P (s.setTrc s.trc.backward) := K.travel s _ ⟨rfl, rfl, rfl⟩ h
  unfold execReverseCount at e
  split at e <;> cases e
  · exact K.travel s _ ⟨rfl, rfl, rfl⟩ h
  · unfold reverseTest
    split
    · split
      · exact K.halt _ _ _ (K.travel _ _ ⟨rfl, rfl, rfl⟩ hmoved)
      · exact hmoved
    · exact hmoved

theorem illegalTransition (s t : State) (e : execIllegalTransition s = .next t) (h : P s) :
    P t := by
  unfold execIllegalTransition at e
  split at e <;> cases e
  · exact K.travel s _ ⟨rfl, rfl, rfl⟩ h
  · have hmoved := K.travel s { s.trc with
      pins := s.trc.pins.opposite, reference := s.trc.pins.opposite } ⟨rfl, rfl, rfl⟩ h
    unfold encoderError
    split
    · split
      · exact K.haltPart _ _ _ (K.travel _ _ ⟨rfl, rfl, rfl⟩ hmoved)
      · exact hmoved
    · exact hmoved

theorem markEdge (s t : State) (e : execMarkEdge s = .next t) (h : P s) : P t := by
  have hmark := K.tracker s { s.mkt with markActive := true }
    ⟨id, rfl, .inl le_rfl, .inl le_rfl, .inl le_rfl⟩ h
  unfold execMarkEdge at e
  dsimp only at e
  split at e
  · split at e <;> cases e
    · exact K.tracker _ _ ⟨id, rfl, .inl le_rfl, .inl le_rfl, .inl le_rfl⟩ hmark
    · exact hmark
  · cases e; exact hmark

theorem markFall (s t : State) (e : execMarkFall s = .next t) (h : P s) : P t := by
  have hmark := K.tracker s { s.mkt with markActive := false }
    ⟨id, rfl, .inl le_rfl, .inl le_rfl, .inl le_rfl⟩ h
  unfold execMarkFall at e
  dsimp only at e
  split at e <;> cases e
  · exact hmark
  · exact K.coastTest _
      (K.tracker _ _ ⟨id, rfl, .inl le_rfl, .inl le_rfl, .inr (riseTo_le _ _)⟩ hmark)

/-! ### The rule -/

/-- What every act but those of HOME and STALL keeps, every other reaction of the run keeps. -/
theorem exec_reaction (c : Instr) (s t : State) (hc : Instr.isReaction c = true) (hhome : c ≠ .home)
    (hstall : c ≠ .stall) (e : exec c s = .next t) (h : P s) : P t := by
  cases c <;> first | (cases hc; done) | skip
  case markKept => cases e; exact K.keptTest s h
  case coast => cases e; exact K.coastTest s h
  case reacquirePointReached => cases e; exact K.reacquireTest s h
  case splice =>
    simp only [exec, execSplice] at e
    split at e <;> cases e
    · exact h
    · exact h
    · exact K.handPoint _ _ _ (K.applySplice s _ _ h)
  case fire => cases e; exact K.fireTest s h
  case knifeFireReassert =>
    simp only [exec, execKnifeFireReassert] at e
    split at e <;> cases e
    next ho => exact K.reassert s ho h
    · exact h
    · exact h
  case home => exact absurd rfl hhome
  case stall => exact absurd rfl hstall
  case decision l => cases e; exact K.decideTest s l h
  case passEnd l => cases e; exact K.passEndTest s l h
  case windowPassed l => cases e; exact K.windowTest s l h
  case eye l =>
    simp only [exec, execEye] at e
    split at e <;> cases e
    · exact K.matchEye s l h
    · exact h
  case delivery c =>
    simp only [exec, execDelivery] at e
    split at e <;> cases e
    next hc => exact K.deliver s c _ _ hc h
    · exact h
    · exact h
  case removal c =>
    simp only [exec, execRemoval] at e
    split at e <;> cases e
    next hc => exact K.remove s c _ _ hc h
    · exact h
    · exact h

end KeptOffStroke

namespace KeptByActs

variable {P : State → Prop} (K : KeptByActs P)
include K

/-! ### The end of a stroke -/

theorem testStrokeTargets (knife : Bool) (b s : State) (h : P s) : P (testTargets true knife b s) := by
  refine takeDue_inv K.choices (fun t u hu => ?_) _ h
  cases t with
  | fire =>
    show P (Machine.fireTest true u)
    unfold Machine.fireTest
    split
    next hr => exact K.fire u true _ hr hu
    next => exact hu
  | lane l => exact K.decideTest u l hu

theorem home (s t : State) (e : execHome s = .next t) (h : P s) : P t := by
  unfold execHome at e
  split at e <;> cases e
  · exact h
  next hc =>
    exact K.testStrokeTargets _ _ _ (K.endStroke s _ _ _ 0 hc (by decide) (fun _ => nofun) h)

theorem stall (s t : State) (e : execStall s = .next t) (h : P s) : P t := by
  unfold execStall at e
  split at e <;> cases e
  · exact h
  next hc =>
    refine K.testStrokeTargets _ _ _ (K.stallFault _ rfl ?_)
    exact K.endStroke s _ _ _ _ hc (riseTo_le 3 _) (fun _ => nofun) h

/-- What every act keeps, every command that is a reaction of the run keeps. -/
theorem exec_reaction (c : Instr) (s t : State) (hc : Instr.isReaction c = true)
    (e : exec c s = .next t) (h : P s) : P t := by
  by_cases hhome : c = .home
  · subst hhome
    exact K.home s t e h
  by_cases hstall : c = .stall
  · subst hstall
    exact K.stall s t e h
  exact K.toKeptOffStroke.exec_reaction c s t hc hhome hstall e h

end KeptByActs

end Sys2Proof.Machine
end

section
/-! The acts of the run commands, the samples and the notes: a property that each of them keeps, with the
acts of the reactions, is kept by every command that does not move a burst. -/

namespace Sys2Proof.Machine

/-! ### The acts -/

/-- STOP before its closes: DRAIN, the knife's test at the change, the tracker IDLE and the stop rows
fixed (R62, R159). -/
def stopBegun (s : State) : State :=
  let s1 := trackerToIdle (fireTest false (setRunState .drain s))
  s1.setRnc { s1.rnc with
    stopRows := Lanes.ofFn fun l => stopRow l s1.rot.track,
    stopPending := Lanes.ofFn fun l => stopWaits l s1 }

theorem stopPart_eq (s : State) : stopPart s = endTest (stopCloses (stopBegun s)) := rfl

/-- The knife and the fault code as ACK_FAULT leaves them (R163). -/
def faultCleared (s : State) : State :=
  let s1 := s.setKnt s.knt.acknowledge
  s1.setRnc { s1.rnc with faultCode := none }

/-- Activation before its JOB_START is queued (R147). -/
def withFirstJob (j : JobRecord) (s : State) : State :=
  let s1 := setRunState .run (s.setJbc { s.jbc with current := some (newContext j) })
  let s2 := s1.setMkt s1.mkt.activate
  setShelfLimits (s2.setSkc (activationTargets j s2.skc))

theorem activateJob_eq (j : JobRecord) (s : State) : activateJob j s =
    queueRecord (.jobStart j.jobId (rowSucc (withFirstJob j s).rot.lastNumber))
      (withFirstJob j s) := rfl

/-- A changeover before the closes it makes due (R148). -/
def withNextJob (j : JobRecord) (s : State) : State :=
  let s2 := s.setJbc
    { current := some (newContext j), previous := s.jbc.current, closePending := Lanes.fill false }
  let s3 := setTrack (retag .current .previous s2.rot.track) s2
  let s4 := s3.setMkt s3.mkt.reenter
  let s5 := setShelfLimits (s4.setSkc (changeoverTargets j s4.skc))
  s5.setJbc { s5.jbc with closePending := formClosePending s.jbc.current }

theorem changeover_eq (j : JobRecord) (s : State) : changeover j s =
    freeingTest (queueRecord (.jobStart j.jobId (rowSucc
      (dueJobCloses (lastRowOf s.jbc.current) (withNextJob j s)).rot.lastNumber))
      (dueJobCloses (lastRowOf s.jbc.current) (withNextJob j s))) := rfl

/-- A property that the acts of a reaction keep, but for those of HOME and STALL, and those of the run
commands, the speed sample and the notes. -/
structure EventsOffStroke (P : State → Prop) : Prop extends KeptOffStroke P where
  recorded : ∀ s b x, P s → P (s.setRnc { s.rnc with lastCommand := some b, result := x })
  stopBegun : ∀ s, s.rnc.runState = .run → P s → P (stopBegun s)
  acknowledged : ∀ s, s.rnc.runState = .halted → s.rot.track = [] → P s →
    P (setRunState .ready (faultCleared (trackerToIdle (endContexts (clearStops s)))))
  sampled : ∀ s, P s → P (formLeads (s.setTrc (s.trc.sample s.rnc.record)))
  holds : ∀ s lanes v, P s → P (setHolds lanes v s)
  targets : ∀ s j lanes n, 2 ≤ n → n ≤ 9999 → P s → P (setTargets j lanes n s)
  freed : ∀ s c, s.tka.conveyors.get c = .out → P s → P (setConveyor c .available s)
  firstJob : ∀ s m slot, s.rnc.runState = .ready → s.rnc.record = some m →
    jobIndex (readJobRecord s.pxm.memory slot) m = none → P s →
    P (withFirstJob (readJobRecord s.pxm.memory slot) s)
  nextJob : ∀ s m slot, s.rnc.runState = .run → s.rnc.record = some m →
    jobIndex (readJobRecord s.pxm.memory slot) m = none → P s →
    P (withNextJob (readJobRecord s.pxm.memory slot) s)

/-- A property that every act of a reaction keeps, and those of the run commands, the speed sample and the
notes. -/
structure KeptByEvents (P : State → Prop) : Prop extends KeptByActs P, EventsOffStroke P

/-- A property that the acts of the aging tick keep too. -/
structure KeptByRun (P : State → Prop) : Prop extends KeptByEvents P where
  aged : ∀ s, P s → P (s.setTka { s.tka with
    waiting := ⟨raiseAges s.tka.waiting.c0, raiseAges s.tka.waiting.c1⟩ })

namespace EventsOffStroke

variable {P : State → Prop} (K : EventsOffStroke P)
include K

/-! ### Run commands -/

theorem recordCommand (s : State) (b : Byte) (x : CommandResult) (h : P s) :
    P (recordCommand b x s) := K.attention _ _ (K.recorded s b x h)

theorem stopPart (s : State) (hr : s.rnc.runState = .run) (h : P s) : P (stopPart s) := by
  rw [stopPart_eq]
  refine K.endTest _ (K.passIfJoined _ _ (foldl_inv (fun a l ha => ?_) _ (K.stopBegun s hr h)))
  split
  · exact ha
  · exact K.shortClose _ _ _ ha

theorem commandStop (s : State) (h : P s) : P (commandStop s) := by
  unfold Machine.commandStop
  split
  next hr => exact K.stopPart _ (by simpa using hr) (K.recordCommand _ _ _ h)
  all_goals exact K.recordCommand _ _ _ h

theorem missAll (l : Lane) (q : List Arrival) (s : State) (hq : (s.lnd.get l).arrivals = q)
    (h : P s) : P (missAll l q s) := by
  induction q generalizing s with
  | nil => exact h
  | cons a q ih =>
    refine ih _ ?_ (K.freeingTest _ (K.resolve s l false a q hq h))
    simp [setArrivals_arrivals]

/-- The part with its arrivals counted missing, its rows tallied and dropped, and its last stacks closed:
the run before its contexts end (R162). -/
theorem abandoned (s : State) (k : CloseKind) (h : P s) :
    P (Machine.passIfJoined s
      (closeAll k (Machine.emptyTrack (tallyStopped (allLanes.foldl missLane s))))) := by
  have hmissed : P (allLanes.foldl missLane s) :=
    foldl_inv (fun u l hu => K.missAll l _ u rfl hu) _ h
  have htallied : P (tallyStopped (allLanes.foldl missLane s)) := by
    refine foldl_inv (fun u r hu => foldl_inv (fun v l hv => ?_) _ hu) _ hmissed
    unfold tallyOpen
    split
    · exact K.tally _ _ _ hv
    · exact hv
  exact K.passIfJoined _ _
    (foldl_inv (fun u l hu => K.shortClose u k l hu) _ (K.emptyTrack _ htallied))

omit K in
/-- What the run has been abandoned to: its run state, and an empty track. -/
theorem abandoned_keeps (s : State) (k : CloseKind) :
    (Machine.passIfJoined s (closeAll k (Machine.emptyTrack
      (tallyStopped (allLanes.foldl missLane s))))).rnc = s.rnc ∧
    (Machine.passIfJoined s (closeAll k (Machine.emptyTrack
      (tallyStopped (allLanes.foldl missLane s))))).rot.track = [] := by
  constructor
  · simp [allLanes]
  · simp [Machine.emptyTrack]

theorem commandAbort (s : State) (h : P s) : P (commandAbort s) := by
  have haccept : s.rnc.runState = .run ∨ s.rnc.runState = .drain →
      P (setRunState .ready (abandonRun .shortAbort (Machine.recordCommand 3#8 .accepted s))) := by
    intro hr
    obtain ⟨hrnc, htrack⟩ := abandoned_keeps (Machine.recordCommand 3#8 .accepted s) .shortAbort
    refine K.ended _ ?_ htrack (K.abandoned _ _ (K.recordCommand s _ _ h))
    rw [hrnc]
    simpa using hr
  unfold Machine.commandAbort
  split
  next hr => exact haccept (.inl hr)
  next hr => exact haccept (.inr hr)
  all_goals exact K.recordCommand _ _ _ h

theorem commandAckFault (s : State) (h : P s) : P (commandAckFault s) := by
  unfold Machine.commandAckFault
  split
  next hr =>
    split
    · obtain ⟨hrnc, htrack⟩ := abandoned_keeps (Machine.recordCommand 4#8 .accepted s) .shortFault
      refine K.acknowledged _ ?_ htrack (K.abandoned _ _ (K.recordCommand s _ _ h))
      rw [hrnc]
      simpa using hr
    · exact K.recordCommand _ _ _ h
  all_goals exact K.recordCommand _ _ _ h

theorem speedSample (s t : State) (e : execSpeedSample s = .next t) (h : P s) : P t := by
  unfold execSpeedSample at e
  split at e <;> cases e
  · exact h
  · exact K.sampleTests _ (K.sampled s h)

/-! ### What the notes do -/

theorem spanOutcome (s : State) (n : Note) (h : P s) : P (spanOutcome s n).1 := by
  unfold Machine.spanOutcome
  split
  · exact K.holdRemainder _ _ _ _ (K.applyTracked _ _ _ _ s h)
  · exact h

theorem rowOutcome (s : State) (n : Note) (h : P s) : P (rowOutcome s n).1 := by
  unfold Machine.rowOutcome
  split
  · unfold applyRowNote
    repeat' split
    all_goals first | exact h | exact K.visitRow _ _ _ ⟨s, false, Lanes.fill false⟩ h
  · exact h

theorem conveyorOutcome (s : State) (n : Note) (h : P s) : P (conveyorOutcome s n).1 := by
  unfold Machine.conveyorOutcome
  split
  · unfold applyConveyorNote
    split
    next hc => exact K.grantPass _ (K.freed s _ hc h)
    · exact h
    · exact h
  · exact h

theorem applyActions (s : State) (j : JobRecord) (lanes : LaneSet) (x : LaneActions) (n : Nat)
    (hn : x.target = true → 2 ≤ n ∧ n ≤ 9999) (h : P s) : P (applyActions j lanes x n s) := by
  have hhold : P (if x.hold then setHolds lanes true s else s) := by
    split
    · exact K.holds s _ _ h
    · exact h
  have hrelease : ∀ u, P u → P (if x.release then setHolds lanes false u else u) := by
    intro u hu
    split
    · exact K.holds u _ _ hu
    · exact hu
  have hclose : ∀ u, P u → P (if x.closeShort then closeLanes lanes u else u) := by
    intro u hu
    split
    · exact K.passIfJoined _ _ (foldl_inv (fun v l hv => K.shortClose v _ l hv) _ hu)
    · exact hu
  have htarget : ∀ u, P u → P (if x.target then setTargets j lanes n u else u) := by
    intro u hu
    split
    next ht => exact K.targets u j lanes n (hn ht).1 (hn ht).2 hu
    · exact hu
  exact htarget _ (hclose _ (hrelease _ hhold))

omit K in
/-- The target a decoded LANE note sets is from 2 to 9999 (R83). -/
theorem decodeNote_lane {m : Memory} {a : Nat} {lanes : LaneSet} {x : LaneActions} {n : Nat}
    (h : decodeNote m a = .inl (.lane lanes x n)) : x.target = true → 2 ≤ n ∧ n ≤ 9999 := by
  unfold decodeNote at h
  split at h
  case h_3 =>
    unfold decodeLane at h
    dsimp only at h
    split at h
    · cases h
    next hf =>
      cases h
      intro ht
      simp only [firstFailing, inRange] at hf
      grind
  all_goals
    first
    | cases h
    | (simp only [decodeSpan, decodeRow, decodeConveyor, decodeJob] at h; split at h <;> cases h)

theorem laneOutcome (s : State) (n : Note) {m : Memory} {a : Nat} (hn : decodeNote m a = .inl n)
    (h : P s) : P (laneOutcome s n).1 := by
  unfold Machine.laneOutcome
  split
  · unfold applyLaneNote
    split
    · exact h
    · split
      · exact h
      · exact K.applyActions s _ _ _ _ (decodeNote_lane hn) h
  · exact h

theorem changeover (s : State) (m : MachineRecord) (slot : Nat) (hr : s.rnc.runState = .run)
    (hm : s.rnc.record = some m) (hj : jobIndex (readJobRecord s.pxm.memory slot) m = none)
    (h : P s) : P (changeover (readJobRecord s.pxm.memory slot) s) := by
  rw [changeover_eq]
  refine K.freeingTest _ (K.otherRecord _ _ rfl ?_)
  have hnext := K.nextJob s m slot hr hm hj h
  unfold dueJobCloses
  split
  · exact hnext
  · refine K.passIfJoined _ _ (foldl_inv (fun u l hu => ?_) _ hnext)
    unfold closeIfDecided
    split
    · exact K.jobClose u l hu
    · exact hu

theorem jobOutcome (s : State) (slot : Nat) (h : P s) : P (jobOutcome slot s).1 := by
  unfold Machine.jobOutcome
  split
  next m hst hm =>
    dsimp only
    split
    next hj =>
      have hr : s.rnc.runState = .ready := by
        unfold jobStanding at hst
        repeat' split at hst
        all_goals first | assumption | cases hst
      exact K.otherRecord _ _ rfl (K.firstJob s m slot hr hm hj h)
    next => exact h
  next m hst hm =>
    dsimp only
    split
    next hj =>
      have hr : s.rnc.runState = .run := by
        unfold jobStanding at hst
        repeat' split at hst
        all_goals first | assumption | cases hst
      exact K.changeover s m slot hr hm hj h
    next => exact h
  next => exact h

end EventsOffStroke

theorem KeptByRun.agingTick {P : State → Prop} (K : KeptByRun P) (s t : State)
    (e : execAgingTick s = .next t) (h : P s) : P t := by
  unfold execAgingTick at e
  split at e <;> cases e
  · exact h
  · exact K.grantPass _ (K.aged s h)


/-! ### Commands of the port and of the bursts -/

/-- What the accesses, the bursts and the requests leave of the blocks: everything but exchange memory and
the port, the page work and the half being filled. -/
structure BlocksKept (s t : State) : Prop where
  trc : t.trc = s.trc
  mkt : t.mkt = s.mkt
  rot : t.rot = s.rot
  knt : t.knt = s.knt
  lnd : t.lnd = s.lnd
  skc : t.skc = s.skc
  tka : t.tka = s.tka
  jbc : t.jbc = s.jbc
  rnc : t.rnc = s.rnc
  spans : t.ntp.spans = s.ntp.spans
  queue : t.rpw.queue = s.rpw.queue
  dropped : t.rpw.droppedCount = s.rpw.droppedCount

theorem BlocksKept.refl (s : State) : BlocksKept s s := by constructor <;> rfl

theorem BlocksKept.trans {s t u : State} (h : BlocksKept s t) (k : BlocksKept t u) :
    BlocksKept s u :=
  ⟨k.trc.trans h.trc, k.mkt.trans h.mkt, k.rot.trans h.rot, k.knt.trans h.knt, k.lnd.trans h.lnd,
   k.skc.trans h.skc, k.tka.trans h.tka, k.jbc.trans h.jbc, k.rnc.trans h.rnc,
   k.spans.trans h.spans, k.queue.trans h.queue, k.dropped.trans h.dropped⟩

theorem MemoryFrame.blocksKept {s t : State} (h : MemoryFrame s t) : BlocksKept s t := by
  obtain ⟨w, hw⟩ := h.ntp
  exact ⟨h.trc, h.mkt, h.rot, h.knt, h.lnd, h.skc, h.tka, h.jbc, h.rnc, by rw [hw], h.queue,
    h.dropped.1⟩

theorem setPxm_blocksKept (s : State) (x : Pxm) : BlocksKept s (s.setPxm x) := by
  constructor <;> rfl

theorem setChoices_blocksKept (s : State) (n : Nat) : BlocksKept s (s.setChoices n) := by
  constructor <;> rfl

theorem setNoteWork_blocksKept (w : List NoteBurst) (s : State) :
    BlocksKept s (setNoteWork w s) := (setNoteWork_memoryFrame w s).blocksKept

theorem burstWrite_blocksKept (a : Nat) (ws : List Word) (s : State) :
    BlocksKept s (burstWrite a ws s) := setPxm_blocksKept _ _

theorem requestTogether_blocksKept (b s : State) : BlocksKept s (requestTogether b s) := by
  unfold requestTogether
  split
  · exact (setPxm_blocksKept s _).trans
      (takeDue_rel BlocksKept.refl BlocksKept.trans setChoices_blocksKept
        (fun _ _ => setPxm_blocksKept _ _) _ _)
  · exact setPxm_blocksKept _ _

theorem giveFate_blocksKept (b : State) (p : Page) (i : Nat) (w : List NoteBurst) (s : State)
    (f : Fate × Nat) : BlocksKept s (giveFate b p i w (s, f)) := by
  refine BlocksKept.trans ?_ (requestTogether_blocksKept _ _)
  constructor <;> rfl

theorem finishNote_blocksKept (b : State) (p : PageInWork) (s : State) (f : Fate × Nat) :
    BlocksKept s (finishNote b p (s, f)) := by
  refine BlocksKept.trans ?_ (giveFate_blocksKept _ _ _ _ _ _)
  constructor <;> rfl

theorem finishLate_blocksKept (b : State) (p : Page) (i : Nat) (s : State) (f : Fate × Nat) :
    BlocksKept s (finishLate b p i (s, f)) := giveFate_blocksKept _ _ _ _ _ _

theorem serveRead_blocksKept (w : List NoteBurst) (s : State) : BlocksKept s (serveRead w s) :=
  (setPxm_blocksKept s _).trans (setNoteWork_blocksKept w _)

theorem takePage_blocksKept (s : State) : BlocksKept s (takePage s) := by
  unfold takePage
  split
  · exact .refl s
  · exact setNoteWork_blocksKept _ s

theorem takeExpected_blocksKept (s : State) : BlocksKept s (takeExpected s) := by
  refine BlocksKept.trans ?_ (setNoteWork_blocksKept _ _)
  constructor <;> rfl

theorem finishPage_blocksKept (p : PageInWork) (s : State) : BlocksKept s (finishPage p s) := by
  refine BlocksKept.trans ?_ (setNoteWork_blocksKept _ _)
  constructor <;> rfl

theorem finishCutShort_blocksKept (p : Page) (s : State) : BlocksKept s (finishCutShort p s) := by
  refine BlocksKept.trans ?_ (setNoteWork_blocksKept _ _)
  constructor <;> rfl

theorem writeFate_blocksKept (p : Page) (i : Nat) (f : Fate) (d : Nat) (s : State) :
    BlocksKept s (writeFate p i f d s) := by
  refine BlocksKept.trans ?_ (setNoteWork_blocksKept _ _)
  constructor <;> rfl

theorem checkPage_blocksKept (s : State) : BlocksKept s (checkPage s) := by
  unfold checkPage
  dsimp only
  split
  · exact (serveRead_blocksKept _ s).trans (takePage_blocksKept _)
  · exact serveRead_blocksKept _ s

theorem closeHalf_blocksKept (h : Half) (s : State) : BlocksKept s (closeHalf h s) := by
  unfold closeHalf
  refine BlocksKept.trans ?_ (setPxm_blocksKept _ _)
  refine BlocksKept.trans ?_ (askFor_memoryFrame _ _ _).blocksKept
  constructor <;> rfl

/-- A property that every act of the part keeps, but for the aging tick, those of HOME and STALL and the
resets, and that looks at neither exchange memory nor the port. -/
structure KeptBetweenStrokes (P : State → Prop) : Prop extends EventsOffStroke P where
  blocks : ∀ s t, BlocksKept s t → P s → P t
  written : ∀ s r rest age, s.rpw.queue = r :: rest → P s →
    P (releaseFor r (s.setRpw (s.rpw.written rest age)))
  started : ∀ s r, P s → P (startPart r s)

/-- A property that every act of the part but the aging tick keeps, and that looks at neither exchange memory
nor the port. -/
structure KeptUnaged (P : State → Prop) : Prop extends KeptByEvents P, KeptBetweenStrokes P where
  powerOn : ∀ s, P (resetPart [] true s)
  restarted : ∀ s, P s → P (commandRestart s)

/-- A property that every act of the part keeps, and that looks at neither exchange memory nor the port. -/
structure KeptByCommands (P : State → Prop) : Prop extends KeptByRun P, KeptUnaged P

namespace KeptBetweenStrokes

variable {P : State → Prop} (K : KeptBetweenStrokes P)
include K

theorem memory {s t : State} (e : MemoryFrame s t) (h : P s) : P t := K.blocks s t e.blocksKept h

theorem commandStart (s : State) (h : P s) : P (commandStart s) := by
  have hreq : P (requestBurst .machine (if s.pxm.burst.isSome then s else settleMemory s)) := by
    refine K.blocks _ _ (setPxm_blocksKept _ _) ?_
    split
    · exact h
    · exact K.memory (settleMemory_memoryFrame s) h
  unfold Machine.commandStart
  dsimp only
  generalize requestBurst .machine (if s.pxm.burst.isSome then s else settleMemory s) = u at hreq ⊢
  split
  · refine K.memory (afterBurst_memoryFrame _) ?_
    have hpop : P (popRequest (freeMemory u)) :=
      K.blocks _ _ (setPxm_blocksKept _ _) (K.memory (freeMemory_memoryFrame _) hreq)
    unfold startEvent
    split
    · exact K.started _ _ (K.recordCommand _ _ _ hpop)
    · exact K.started _ _ (K.recordCommand _ _ _ hpop)
    all_goals exact K.recordCommand _ _ _ hpop
  · exact hreq

theorem controlWrite (s : State) (w : Word) (hr : spelled (.badCode w) ≠ .restart) (h : P s) :
    P (controlWrite w s) := by
  unfold Machine.controlWrite
  split <;> rename_i hcode
  · exact K.commandStart s h
  · exact K.commandStop s h
  · exact K.commandAbort s h
  · exact K.commandAckFault s h
  · exact absurd (by simp only [spelled, hcode]) hr
  · exact K.recordCommand _ _ _ h

theorem noteStep (s : State) (k : NoteKind) (f : State → Note → State × Fate × Nat)
    (hf : ∀ u m a n, decodeNote m a = .inl n → P u → P (f u n).1) (h : P s) :
    P (noteStep k f s) := by
  have hfree := K.memory (freeMemory_memoryFrame s) h
  unfold Machine.noteStep
  dsimp only
  split
  · split
    · refine K.memory (afterBurst_memoryFrame _) ?_
      unfold noteEvent
      split
      · exact K.blocks _ _ (finishNote_blocksKept _ _ _ _) hfree
      next hn => exact K.blocks _ _ (finishNote_blocksKept _ _ _ _) (hf _ _ _ _ hn hfree)
    · exact h
  · split
    · exact K.memory (afterBurst_memoryFrame _)
        (K.blocks _ _ (finishLate_blocksKept _ _ _ _ _) hfree)
    · exact h
  · exact h

theorem jobNoteRead (s : State) (b : Nat) (f : State × Fate × Nat → State) (k : Nat → NoteBurst)
    (hf : ∀ o, BlocksKept s (f (s, o))) (h : P s) : P (jobNoteRead b f k s) := by
  unfold Machine.jobNoteRead
  repeat' split
  · exact K.blocks _ _ (hf _) h
  · exact K.blocks _ _ (serveRead_blocksKept _ _) h
  · exact K.blocks _ _ (serveRead_blocksKept _ _) h
  · exact h
  · exact K.blocks _ _ (hf _) h

theorem jobNoteStep (s : State) (h : P s) : P (jobNoteStep s) := by
  have hfree := K.memory (freeMemory_memoryFrame s) h
  unfold Machine.jobNoteStep
  dsimp only
  split
  · split
    · exact K.memory (afterBurst_memoryFrame _)
        (K.jobNoteRead _ _ _ _ (finishNote_blocksKept _ _ _) hfree)
    · exact h
  · exact K.memory (afterBurst_memoryFrame _)
      (K.blocks _ _ (finishNote_blocksKept _ _ _ _) (K.jobOutcome _ _ hfree))
  · split
    · exact K.memory (afterBurst_memoryFrame _)
        (K.jobNoteRead _ _ _ _ (finishLate_blocksKept _ _ _ _) hfree)
    · exact h
  · exact K.memory (afterBurst_memoryFrame _)
      (K.blocks _ _ (finishLate_blocksKept _ _ _ _ _) (K.jobOutcome _ _ hfree))
  · exact h

theorem reportWrite (s t : State) (e : execReportWrite s = .next t) (h : P s) : P t := by
  have hfree := K.memory (freeMemory_memoryFrame s) h
  unfold execReportWrite at e
  dsimp only at e
  split at e
  next hq =>
    split at e <;> cases e
    · unfold writeRecord
      dsimp only
      have hslot : ∀ a b v w,
          P (burstWrite a v (burstWrite b w (beginBurst .reports (freeMemory s)))) :=
        fun _ _ _ _ => K.blocks _ _ (by constructor <;> rfl) hfree
      split
      · exact K.blocks _ _ (closeHalf_blocksKept _ _) (K.written _ _ _ _ hq (hslot _ _ _ _))
      · exact K.written _ _ _ _ hq (hslot _ _ _ _)
    · exact h
  next => cases e; exact h

theorem ageTimerExpiry (s t : State) (e : execAgeTimerExpiry s = .next t) (h : P s) : P t := by
  unfold execAgeTimerExpiry at e
  split at e <;> cases e
  · exact K.memory (beginNext_memoryFrame _) (K.blocks _ _ (closeHalf_blocksKept _ _) h)
  · exact h

theorem refreshTimerExpiry (s t : State) (e : execRefreshTimerExpiry s = .next t) (h : P s) :
    P t := by
  unfold execRefreshTimerExpiry at e
  split at e <;> cases e
  · exact h
  · refine K.blocks _ _ (setPxm_blocksKept _ _) ?_
    split
    · exact K.memory (settleMemory_memoryFrame s) h
    · exact h

/-- A command that, when its burst has its turn, leaves the blocks. -/
theorem burstCommand (s t : State) (h : P s) (e : t = s ∨ BlocksKept (freeMemory s) t) : P t := by
  obtain rfl | e := e
  · exact h
  · exact K.blocks _ _ e (K.memory (freeMemory_memoryFrame s) h)

theorem fateWrite (s t : State) (e : execFateWrite s = .next t) (h : P s) : P t := by
  refine K.burstCommand s t h ?_
  unfold execFateWrite at e
  dsimp only at e
  split at e <;> cases e
  · exact .inr (writeFate_blocksKept _ _ _ _ _)
  · exact .inl rfl

theorem pageTaking (s t : State) (e : execPageTaking s = .next t) (h : P s) : P t := by
  refine K.burstCommand s t h ?_
  unfold execPageTaking at e
  dsimp only at e
  split at e <;> cases e
  · exact .inr (takeExpected_blocksKept _)
  · exact .inl rfl

theorem pageFinishing (s t : State) (e : execPageFinishing s = .next t) (h : P s) : P t := by
  refine K.burstCommand s t h ?_
  unfold execPageFinishing at e
  dsimp only at e
  split at e <;> cases e
  · exact .inr (finishPage_blocksKept _ _)
  · exact .inr (finishCutShort_blocksKept _ _)
  · exact .inl rfl

theorem pageStateCheck (s t : State) (e : execPageStateCheck s = .next t) (h : P s) : P t := by
  refine K.burstCommand s t h ?_
  unfold execPageStateCheck at e
  dsimp only at e
  split at e <;> cases e
  · exact .inr ((checkPage_blocksKept _).trans (afterBurst_memoryFrame _).blocksKept)
  · exact .inl rfl

theorem liveStatusRefresh (s t : State) (e : execLiveStatusRefresh s = .next t) (h : P s) :
    P t := by
  refine K.burstCommand s t h ?_
  unfold execLiveStatusRefresh at e
  dsimp only at e
  split at e <;> cases e
  · exact .inr ((setPxm_blocksKept _ _).trans (burstWrite_blocksKept _ _ _))
  · exact .inl rfl

/-! ### The rule -/

/-- What the acts between two strokes keep, every command but AGING_TICK, HOME, STALL and the resets
keeps. -/
theorem exec_keeps (c : Instr) (s t : State) (e : exec c s = .next t) (hc : c ≠ .agingTick)
    (hhome : c ≠ .home) (hstall : c ≠ .stall) (hreset : ¬ isReset c) (h : P s) : P t := by
  by_cases hr : Instr.isReaction c = true
  · exact K.exec_reaction c s t hr hhome hstall e h
  cases c <;> first | (exact absurd rfl hr) | skip
  case powerOnReset => exact absurd (.inl rfl) hreset
  case restart => exact absurd (.inr rfl) hreset
  case start => cases e; exact K.commandStart s h
  case stop => cases e; exact K.commandStop s h
  case abort => cases e; exact K.commandAbort s h
  case ackFault => cases e; exact K.commandAckFault s h
  case badCode w => cases e; exact K.controlWrite s w (fun hr => hreset (.inr hr)) h
  case attentionWrite w => cases e; exact K.attention _ _ h
  case attnMaskWrite w => cases e; exact K.blocks _ _ (setPxm_blocksKept _ _) h
  case registerWriteIgnored r w => cases e; exact h
  case memoryRead a => cases e; exact K.memory (pressAccess_memoryFrame _ s) h
  case memoryWrite a w => cases e; exact K.memory (pressAccess_memoryFrame _ s) h
  case notePagePosting p w => cases e; exact K.memory (pressAccess_memoryFrame _ s) h
  case halfFreeing p w => cases e; exact K.memory (pressAccess_memoryFrame _ s) h
  case forwardCount => exact K.forwardCount s t e h
  case reverseCount => exact K.reverseCount s t e h
  case illegalTransition => exact K.illegalTransition s t e h
  case speedSample => exact K.speedSample s t e h
  case markEdge => exact K.markEdge s t e h
  case markFall => exact K.markFall s t e h
  case pageTaking => exact K.pageTaking s t e h
  case spanNote => cases e; exact K.noteStep s _ _ (fun u _ _ n _ => K.spanOutcome u n) h
  case rowNote => cases e; exact K.noteStep s _ _ (fun u _ _ n _ => K.rowOutcome u n) h
  case laneNote => cases e; exact K.noteStep s _ _ (fun u _ _ n hn => K.laneOutcome u n hn) h
  case conveyorNote => cases e; exact K.noteStep s _ _ (fun u _ _ n _ => K.conveyorOutcome u n) h
  case jobNote => cases e; exact K.jobNoteStep s h
  case badNote => cases e; exact K.noteStep s _ _ (fun _ _ _ _ _ hu => hu) h
  case fateWrite => exact K.fateWrite s t e h
  case pageFinishing => exact K.pageFinishing s t e h
  case pageStateCheck => exact K.pageStateCheck s t e h
  case agingTick => exact absurd rfl hc
  case reportWrite => exact K.reportWrite s t e h
  case ageTimerExpiry => exact K.ageTimerExpiry s t e h
  case refreshTimerExpiry => exact K.refreshTimerExpiry s t e h
  case liveStatusRefresh => exact K.liveStatusRefresh s t e h
  case resetnRelease =>
    cases e
    exact K.blocks _ _ (setPxm_blocksKept _ _) (K.travel s _ ⟨rfl, rfl, rfl⟩ h)

end KeptBetweenStrokes

namespace KeptUnaged

variable {P : State → Prop} (K : KeptUnaged P)
include K

/-- What every act of the part but the aging tick keeps, every command but AGING_TICK keeps. -/
theorem exec_keeps (c : Instr) (s t : State) (e : exec c s = .next t) (hc : c ≠ .agingTick) (h : P s) :
    P t := by
  by_cases hhome : c = .home
  · subst hhome
    exact K.home s t e h
  by_cases hstall : c = .stall
  · subst hstall
    exact K.stall s t e h
  by_cases hreset : isReset c
  · rw [← exec_spelled] at e
    obtain hr | hr := hreset <;> rw [hr] at e <;> cases e
    · exact K.powerOn s
    · exact K.restarted s h
  exact K.toKeptBetweenStrokes.exec_keeps c s t e hc hhome hstall hreset h

end KeptUnaged

namespace KeptByCommands

variable {P : State → Prop} (K : KeptByCommands P)
include K

/-- What every act of the part keeps, every command keeps. -/
theorem exec_keeps (c : Instr) (s t : State) (e : exec c s = .next t) (h : P s) : P t := by
  by_cases hc : c = .agingTick
  · subst hc
    exact K.agingTick s t e h
  · exact K.toKeptUnaged.exec_keeps c s t e hc h

/-- What every act of the part keeps, every step keeps, where it does not look at the queue of waiting
commands. -/
theorem step_keeps (hq : ∀ s q, P s → P (s.setPending q)) (s t : State) (h : P s)
    (e : step s = .next t) : P t := by
  unfold step at e
  split at e
  · cases e; exact K.memory (settleMemory_memoryFrame s) h
  · exact K.exec_keeps _ _ t e (hq _ _ h)

end KeptByCommands

end Sys2Proof.Machine
end

section
/-! The track (R39, R50): every act keeps its rows' numbers, drops the oldest row, drops all of them, or
appends the successor of the last issued number. -/

namespace Sys2Proof.Machine

/-! ### Row numbers -/

/-- The row numbers of a list of rows. -/
def numbersOf (track : List Row) : List RowNum := track.map fun r => r.number

theorem trackNumbers_eq (s : State) : trackNumbers s = numbersOf s.rot.track := rfl

/-- Rows changed without their numbers keep the numbers of the track. -/
theorem numbersOf_map {f : Row → Row} (h : ∀ r, (f r).number = r.number) (track : List Row) :
    numbersOf (track.map f) = numbersOf track := by
  simp [numbersOf, h]

@[simp] theorem numbersOf_mapRow (n : RowNum) {f : Row → Row} (h : ∀ r, (f r).number = r.number)
    (track : List Row) : numbersOf (mapRow n f track) = numbersOf track := by
  refine numbersOf_map (fun r => ?_) track
  split
  · exact h r
  · rfl

@[simp] theorem numbersOf_retag (old new : JobTag) (track : List Row) :
    numbersOf (retag old new track) = numbersOf track := by
  refine numbersOf_map (fun r => ?_) track
  split <;> rfl

@[simp] theorem giveLead_number (c : LeadCut) (r : Row) : (giveLead c r).number = r.number := by
  unfold giveLead
  split <;> rfl

@[simp] theorem completeTrail_number (t : TrailCut) (bad : Bool) (r : Row) :
    (completeTrail t bad r).number = r.number := by
  unfold completeTrail
  dsimp only
  split <;> rfl

@[simp] theorem numbersOf_completeCut (c : Cycle) (t : TrailCut) (bad : Bool) (track : List Row) :
    numbersOf (completeCut c t bad track) = numbersOf track := by
  unfold completeCut
  split
  · simp
  · rfl

/-- The retirement of the oldest row takes its number away (R50). -/
theorem numbersOf_retireOldest (track : List Row) :
    numbersOf (retireOldest track) = (numbersOf track).tail := by
  unfold retireOldest
  split
  · rfl
  · split
    · split
      · simp [numbersOf]
      · rfl
    · rfl

/-- The room for a row is the track below 64 rows, and the track without its oldest row at 64. -/
theorem numbersOf_roomFor {track room : List Row} (h : roomFor track = some room) :
    (track.length < 64 ∧ room = track) ∨ (64 ≤ track.length ∧ room = retireOldest track) := by
  unfold roomFor at h
  split at h
  next hlt => cases h; exact .inl ⟨hlt, rfl⟩
  next hge =>
    split at h
    · split at h
      · cases h; exact .inr ⟨not_lt.1 hge, rfl⟩
      · cases h
    · cases h; exact absurd (by decide) hge

theorem rowSucc_ne_zero (n : RowNum) : rowSucc n ≠ 0#32 := by
  unfold rowSucc
  split <;> bv_omega

/-! ### The acts -/

/-- The invariant looks at the row numbers and the last issued one. -/
theorem TrackInv.congr {s t : State} (h : TrackInv s)
    (hn : numbersOf t.rot.track = numbersOf s.rot.track)
    (hl : t.rot.lastNumber = s.rot.lastNumber) : TrackInv t := by
  have hlen : t.rot.track.length = s.rot.track.length := by
    simpa [numbersOf] using congrArg List.length hn
  constructor
  · exact hlen ▸ h.capacity
  · rw [trackNumbers_eq, hn]; exact h.chain
  · rw [trackNumbers_eq, hn, hl]; exact h.newest
  · rw [trackNumbers_eq, hn]; exact h.nonzero

/-- The invariant of a state whose Row Track stands. -/
theorem TrackInv.of_rot {s t : State} (h : TrackInv s) (hr : t.rot = s.rot) : TrackInv t :=
  h.congr (by rw [hr]) (by rw [hr])

theorem trackInv_empty {t : State} (h : t.rot.track = []) : TrackInv t := by
  constructor <;> simp [trackNumbers, h]

/-- A row joins with the successor of the last issued number, in a track that has room (R49, R50). -/
theorem withRow_trackInv (s : State) (c : JobContext) (m : MachineRecord) (q : RowRequest)
    (next : TrackerState) (room : List Row) (hroom : roomFor s.rot.track = some room)
    (h : TrackInv s) : TrackInv (withRow c m q next room s) := by
  have htrack : trackNumbers (withRow c m q next room s) =
      numbersOf room ++ [rowSucc s.rot.lastNumber] := by
    simp [trackNumbers, numbersOf, withRow, makeRow]
  have hlast : (withRow c m q next room s).rot.lastNumber = rowSucc s.rot.lastNumber := rfl
  have hlen : (withRow c m q next room s).rot.track.length = room.length + 1 := by simp [withRow]
  have hsuffix : numbersOf room <:+ trackNumbers s := by
    obtain ⟨_, rfl⟩ | ⟨_, rfl⟩ := numbersOf_roomFor hroom
    · exact List.suffix_refl _
    · rw [numbersOf_retireOldest]; exact List.tail_suffix _
  constructor
  · rw [hlen]
    obtain ⟨hlt, rfl⟩ | ⟨hge, rfl⟩ := numbersOf_roomFor hroom
    · omega
    · have := congrArg List.length (numbersOf_retireOldest s.rot.track)
      simp only [numbersOf, List.length_map, List.length_tail] at this
      have := h.capacity
      omega
  · rw [htrack, List.isChain_append]
    refine ⟨h.chain.suffix hsuffix, List.isChain_singleton _, ?_⟩
    intro x hx y hy
    simp only [List.head?_cons, Option.mem_def, Option.some.injEq] at hy
    subst hy
    obtain ⟨p, hp⟩ := hsuffix
    rw [h.newest x (by rw [← hp, List.getLast?_append, hx]; rfl)]
  · rw [htrack, hlast]
    simp
  · rw [htrack]
    intro n hn
    obtain hn | hn := List.mem_append.1 hn
    · exact h.nonzero n (hsuffix.subset hn)
    · rw [List.mem_singleton.1 hn]; exact rowSucc_ne_zero _

theorem fireCut_trackInv (gap : Bool) (r : Row) (s : State) (h : TrackInv s) :
    TrackInv (fireCut gap r s) :=
  h.congr (by simp [fireCut, setTrack]) (by simp [fireCut, setTrack])

theorem fireTest_trackInv (gap : Bool) (s : State) (h : TrackInv s) : TrackInv (fireTest gap s) := by
  unfold fireTest
  split
  · exact fireCut_trackInv _ _ _ h
  · exact h

/-- Every act of the part keeps the track in order. -/
theorem trackInv_kept : KeptByCommands TrackInv where
  choices s n h := h.of_rot rfl
  attention s x h := h.of_rot rfl
  otherRecord s r _ h := h.of_rot (by simp)
  grantPass s h := h.of_rot (by simp)
  shortClose s k l h := h.of_rot (by simp)
  closePending s x h := h.of_rot rfl
  stopDone s l h := h.of_rot rfl
  freePrevious s c _ h := h.congr (by simp [freePrevious, setTrack]) (by simp)
  emptyTrack s h := trackInv_empty (by simp [emptyTrack])
  ended s _ _ h := h.of_rot (by simp)
  changeRow s n f hf h := h.congr (numbersOf_mapRow n (fun r => (hf r).1) _) rfl
  rejectFlap s l h := h.of_rot (by simp)
  tally s t r h := h.of_rot (by simp)
  passGood s u m l r id _ _ hp h := by
    obtain ⟨x, rfl⟩ := placeFor_keeps _ _ _ _ _ hp
    refine h.congr ?_ ?_ <;> simp [passGood, freezeEntry, setTrack]
  resolve s l b a rest _ h := h.of_rot (by simp)
  markStacks s l q _ h := h.of_rot (by simp)
  fire s gap r _ h := fireCut_trackInv gap r s h
  halt s e f h := h.of_rot (by simp)
  endStroke s c t bad n _ _ _ h := h.congr (by simp [endStroke, setTrack]) rfl
  stallFault s _ h := by unfold stallFault; split <;> exact h.of_rot (by simp)
  reassert s _ h := h.of_rot rfl
  tracker s k _ h := h.of_rot rfl
  travel s x _ h := h.of_rot rfl
  overflow s x h := h.congr rfl rfl
  refused s _ h := h.of_rot rfl
  row s c m q next room _ _ hroom _ h := withRow_trackInv s c m q next room hroom h
  spans s q g _ h := h.of_rot rfl
  departed s c l n x b _ _ h := h.of_rot (by simp [handOver]; split <;> simp)
  recorded s b x h := h.of_rot rfl
  stopBegun s _ h := by
    have hf := fireTest_trackInv false (setRunState .drain s) (h.of_rot (by simp))
    exact hf.of_rot rfl
  acknowledged s _ _ h := h.of_rot (by simp [faultCleared])
  sampled s h := h.of_rot (by simp [formLeads])
  aged s h := h.of_rot rfl
  holds s lanes v h := h.of_rot rfl
  targets s j lanes n _ _ h := h.of_rot rfl
  freed s c _ h := h.of_rot (by simp)
  firstJob s m slot _ _ _ h := h.of_rot (by simp [withFirstJob])
  nextJob s m slot _ _ _ h := h.congr (by simp [withNextJob, setTrack]) (by simp [withNextJob, setTrack])
  blocks s t e h := h.of_rot e.rot
  written s r rest age _ h := h.of_rot (by unfold releaseFor; split <;> simp)
  started s r h := trackInv_empty (by simp [startPart, Rot.reset])
  powerOn s := trackInv_empty rfl
  restarted s _ := trackInv_empty rfl

/-- Settles O55: the number a creation issues is the successor of the newest row's, and a track at 64 rows
first loses its oldest. -/
theorem stepKeepsTrackInv : Obligations.StepKeepsTrackInv := by
  intro s t h e
  exact trackInv_kept.step_keeps (fun s q h => h.of_rot rfl) s t h e

end Sys2Proof.Machine
end

section
/-! The knife (R63, R65, R71 to R73): each act leaves KNIFE_FIRE, the inhibit, the stall count and the
FIRING row in agreement with the cycle record. -/

namespace Sys2Proof.Machine

/-! ### FIRING rows -/

/-- Every FIRING row of a track is, by number and fire count, one of another. -/
def FiringWithin (track' track : List Row) : Prop :=
  ∀ r' ∈ track', ∀ f, r'.trail = .firing f →
    ∃ r ∈ track, r.number = r'.number ∧ r.trail = .firing f

theorem FiringWithin.refl (track : List Row) : FiringWithin track track :=
  fun r hr _ hf => ⟨r, hr, rfl, hf⟩

theorem FiringWithin.of_subset {track' track : List Row} (h : track' ⊆ track) :
    FiringWithin track' track := fun r hr _ hf => ⟨r, h hr, rfl, hf⟩

/-- Rows changed without their numbers and trail cuts are FIRING as before. -/
theorem FiringWithin.map {f : Row → Row}
    (h : ∀ r, (f r).number = r.number ∧ (f r).trail = r.trail) (track : List Row) :
    FiringWithin (track.map f) track := by
  intro r' hr' c hc
  obtain ⟨r, hr, rfl⟩ := List.mem_map.1 hr'
  exact ⟨r, hr, (h r).1.symm, (h r).2 ▸ hc⟩

theorem FiringWithin.mapRow (n : RowNum) {f : Row → Row}
    (h : ∀ r, (f r).number = r.number ∧ (f r).trail = r.trail) (track : List Row) :
    FiringWithin (mapRow n f track) track := by
  refine FiringWithin.map (fun r => ?_) track
  split
  · exact h r
  · exact ⟨rfl, rfl⟩

theorem FiringWithin.retag (old new : JobTag) (track : List Row) :
    FiringWithin (retag old new track) track := by
  refine FiringWithin.map (fun r => ?_) track
  split <;> exact ⟨rfl, rfl⟩

/-- A frozen entry leaves the rows FIRING as before. -/
theorem FiringWithin.freezeEntry (s : State) (l : Lane) (n : RowNum) (e : LaneEntry) :
    FiringWithin (freezeEntry l n e s).rot.track s.rot.track := by
  refine FiringWithin.mapRow n (fun r => ?_) _
  exact ⟨rfl, rfl⟩

@[simp] theorem giveLead_trail (c : LeadCut) (r : Row) : (giveLead c r).trail = r.trail := by
  unfold giveLead
  split <;> rfl

@[simp] theorem completeTrail_trail (t : TrailCut) (bad : Bool) (r : Row) :
    (completeTrail t bad r).trail = t := by
  unfold completeTrail
  dsimp only
  split <;> rfl

/-- The retirement of the oldest row leaves the others FIRING as before (R50). -/
theorem FiringWithin.retireOldest (track : List Row) :
    FiringWithin (retireOldest track) track := by
  unfold Machine.retireOldest
  split
  · exact .refl _
  next r rest =>
    split
    · split
      next n more =>
        intro x hx f hf
        obtain rfl | hx := List.mem_cons.1 hx
        · exact ⟨n, by simp, by simp, by simpa using hf⟩
        · exact ⟨x, by simp [hx], rfl, hf⟩
      next => exact .of_subset (by simp)
    · exact .of_subset (List.subset_cons_self _ _)

theorem FiringWithin.roomFor {track room : List Row} (h : roomFor track = some room) :
    FiringWithin room track := by
  obtain ⟨_, rfl⟩ | ⟨_, rfl⟩ := numbersOf_roomFor h
  · exact .refl _
  · exact .retireOldest _

/-! ### The acts -/

/-- The invariant of a state whose Knife Timer stands, in a run state that is HALTED if the one before it
was, with no row newly FIRING. -/
theorem KnifeInv.congr {s t : State} (h : KnifeInv s) (hk : t.knt = s.knt)
    (hr : s.rnc.runState = .halted → t.rnc.runState = .halted)
    (ht : FiringWithin t.rot.track s.rot.track) : KnifeInv t := by
  constructor
  · rw [hk]; exact h.output
  · rw [hk]; exact h.stalls
  · rw [hk]
    exact fun hi => ⟨(h.inhibited hi).1, hr (h.inhibited hi).2⟩
  · intro r' hr' f hf
    obtain ⟨r, hr, hn, hf⟩ := ht r' hr' f hf
    rw [hk, ← hn]
    exact h.firing r hr f hf

/-- The invariant of a state whose Knife Timer, run state and track stand. -/
theorem KnifeInv.of_eq {s t : State} (h : KnifeInv s) (hk : t.knt = s.knt)
    (hr : t.rnc.runState = s.rnc.runState) (ht : t.rot.track = s.rot.track) : KnifeInv t :=
  h.congr hk (fun e => hr.trans e) (by rw [ht]; exact .refl _)

/-- A knife that may fire holds no stroke, and is not inhibited (R62). -/
theorem fireableCut_idle {s : State} {r : Row} (h : fireableCut s = some r) :
    s.knt.cycle = none ∧ s.knt.inhibit = false ∧ nextCut s = some r := by
  unfold fireableCut at h
  split at h
  · cases h
  next hn =>
    split at h
    next hc =>
      cases h
      simp only [Bool.and_eq_true, Option.isNone_iff_eq_none, Bool.not_eq_true'] at hc
      obtain ⟨⟨⟨⟨⟨_, hcycle⟩, hinhibit⟩, _⟩, _⟩, _⟩ := hc
      exact ⟨hcycle, hinhibit, hn⟩
    next => cases h

/-- A fire makes the rows of its number FIRING, and the cycle record names them (R63, R65). -/
theorem fireCut_knifeInv (s : State) (gap : Bool) (r : Row) (hf : fireableCut s = some r)
    (h : KnifeInv s) : KnifeInv (fireCut gap r s) := by
  obtain ⟨hcycle, hinhibit, _⟩ := fireableCut_idle hf
  constructor
  · cases gap <;> simp [fireCut, setTrack]
  · exact h.stalls
  · intro hi
    exact absurd (hinhibit.symm.trans hi) Bool.false_ne_true
  · intro x hx f hxf
    obtain ⟨y, hy, rfl⟩ := List.mem_map.1 hx
    split at hxf
    next hn =>
      cases hxf
      rw [if_pos hn]
      exact ⟨_, rfl, hn.symm, rfl, rfl⟩
    next =>
      obtain ⟨c, hc, _⟩ := h.firing y hy f hxf
      rw [hcycle] at hc
      cases hc

theorem fireTest_knifeInv (s : State) (gap : Bool) (h : KnifeInv s) : KnifeInv (fireTest gap s) := by
  unfold fireTest
  split
  next hr => exact fireCut_knifeInv s gap _ hr h
  next => exact h

/-- The end of a stroke leaves no row FIRING (R66, R68). -/
theorem endStroke_knifeInv (s : State) (c : Cycle) (t : TrailCut) (bad : Bool) (n : Nat)
    (hc : s.knt.cycle = some c) (hn : n ≤ 3) (ht : ∀ f, t ≠ .firing f) (h : KnifeInv s) :
    KnifeInv (endStroke c t bad n s) := by
  have hfiring : ∀ r ∈ s.rot.track, ∀ f, r.trail = .firing f →
      c.row = r.number ∧ c.tracked = true := by
    intro r hr f hf
    obtain ⟨d, hd, hrow, -, htracked⟩ := h.firing r hr f hf
    cases hc.symm.trans hd
    exact ⟨hrow, htracked⟩
  constructor
  · exact ⟨fun _ => rfl, fun _ => rfl⟩
  · exact hn
  · intro hi
    exact ⟨rfl, (h.inhibited hi).2⟩
  · intro x hx f hf
    change x ∈ completeCut c t bad s.rot.track at hx
    unfold completeCut at hx
    split at hx
    next =>
      obtain ⟨y, hy, hyn, hyf⟩ := FiringWithin.mapRow _ (by simp) _ x hx f hf
      obtain ⟨z, hz, rfl⟩ := List.mem_map.1 hy
      split at hyf
      · exact absurd (by simpa using hyf) (ht f)
      next hne => exact absurd (hfiring z hz f hyf).1.symm hne
    next htr => exact absurd (hfiring x hx f hf).2 htr

/-- A third stall inhibits a knife that is idle, in a part that is HALTED from then on (R71). -/
theorem stallFault_knifeInv (s : State) (hc : s.knt.cycle = none) (h : KnifeInv s) :
    KnifeInv (stallFault s) := by
  unfold stallFault
  split
  next hs =>
    obtain ⟨_, hrun⟩ := Bool.and_eq_true_iff.1 hs
    constructor
    · simpa using h.output
    · simpa using h.stalls
    · exact fun _ => ⟨by simpa using hc, by rw [raiseHalting_runState, if_pos (by exact hrun)]⟩
    · simpa using h.firing
  next => exact h

/-- An inhibited knife is found only in HALTED. -/
theorem KnifeInv.not_inhibited {s : State} (h : KnifeInv s) (hr : s.rnc.runState ≠ .halted) :
    s.knt.inhibit = false := by
  cases hi : s.knt.inhibit
  · rfl
  · exact absurd (h.inhibited hi).2 hr

/-- The invariant in any run state, for a knife that is not inhibited and a track that is empty. -/
theorem KnifeInv.of_idle {t : State}
    (ho : t.knt.cycle = none ↔ t.knt.output = .released) (hn : t.knt.stallCount ≤ 3)
    (hi : t.knt.inhibit = false) (ht : t.rot.track = []) : KnifeInv t := by
  refine ⟨ho, hn, fun e => ?_, fun r hr => ?_⟩
  · exact absurd (hi.symm.trans e) Bool.false_ne_true
  · rw [ht] at hr
    cases hr

/-- A stroke that no longer finds a row is as much in flight as before. -/
theorem untrack_output {k : Knt} (h : k.cycle = none ↔ k.output = .released) :
    k.untrack.cycle = none ↔ k.untrack.output = .released := by
  simpa [Knt.untrack] using h

/-- Every act of the part keeps the knife in order. -/
theorem knifeInv_kept : KeptByCommands KnifeInv where
  choices s n h := h.of_eq rfl rfl rfl
  attention s x h := h.of_eq rfl rfl rfl
  otherRecord s r _ h := h.of_eq (by simp) (by simp) (by simp)
  grantPass s h := h.of_eq (by simp) (by simp) (by simp)
  shortClose s k l h := h.of_eq (by simp) (by simp) (by simp)
  closePending s x h := h.of_eq rfl rfl rfl
  stopDone s l h := h.of_eq rfl rfl rfl
  freePrevious s c _ h := h.congr (by simp) (by simp)
    (by simpa [freePrevious, setTrack] using FiringWithin.retag _ _ _)
  emptyTrack s h := by
    refine ⟨?_, h.stalls, ?_, ?_⟩
    · exact untrack_output h.output
    · intro hi
      obtain ⟨hc, hr⟩ := h.inhibited hi
      exact ⟨by simp [emptyTrack, Knt.untrack, hc], hr⟩
    · simp [emptyTrack]
  ended s hr ht h := by
    refine .of_idle (by simpa using h.output) (by simpa using h.stalls) ?_ (by simpa using ht)
    have := h.not_inhibited (by rintro e; rw [e] at hr; simp at hr)
    simpa using this
  changeRow s n f hf h := h.congr rfl id (.mapRow n hf _)
  rejectFlap s l h := h.of_eq rfl rfl rfl
  tally s t r h := h.of_eq (by simp) (by simp) (by simp)
  passGood s u m l r id _ _ hp h := by
    obtain ⟨x, rfl⟩ := placeFor_keeps _ _ _ _ _ hp
    exact h.congr rfl (fun e => e) (.freezeEntry s l _ _)
  resolve s l b a rest _ h := h.of_eq (by simp) (by simp) (by simp)
  markStacks s l q _ h := h.of_eq rfl rfl rfl
  fire s gap r hf h := fireCut_knifeInv s gap r hf h
  halt s e f h := by
    refine h.congr (by simp) (fun e => ?_) (by simpa using .refl _)
    rw [raiseHalting_runState, e]
    exact ite_self _
  endStroke s c t bad n hc hn ht h := endStroke_knifeInv s c t bad n hc hn ht h
  stallFault s hc h := stallFault_knifeInv s hc h
  reassert s ho h := by
    refine ⟨?_, h.stalls, h.inhibited, h.firing⟩
    have := h.output
    rw [ho] at this
    simpa using this
  tracker s k _ h := h.of_eq rfl rfl rfl
  travel s x _ h := h.of_eq rfl rfl rfl
  overflow s x h := h.of_eq rfl rfl rfl
  refused s _ h := h.of_eq rfl rfl rfl
  row s c m q next room _ _ hroom _ h := by
    refine h.congr rfl id fun r hr f hf => ?_
    obtain hr | hr := List.mem_append.1 hr
    · exact FiringWithin.roomFor hroom r hr f hf
    · rw [List.mem_singleton.1 hr] at hf
      cases hf
  spans s q g _ h := h.of_eq rfl rfl rfl
  departed s c l n x b _ _ h := by
    have hk : KnifeInv (handOver l b s) := by
      unfold handOver
      split
      · exact h.of_eq (by simp) (by simp) (by simp)
      · exact h
    exact hk.of_eq (by simp) (by simp) (by simp)
  recorded s b x h := h.of_eq rfl rfl rfl
  stopBegun s hr h := by
    have hd : KnifeInv (setRunState .drain s) :=
      h.congr (by simp) (by simp [hr]) (by simpa using .refl _)
    exact (fireTest_knifeInv _ false hd).of_eq rfl rfl rfl
  acknowledged s hr ht h := by
    refine .of_idle ?_ ?_ ?_ ?_ <;> simp [faultCleared, Knt.acknowledge, ht, h.output]
  sampled s h := by
    exact ⟨h.output, h.stalls, h.inhibited, h.firing⟩
  aged s h := h.of_eq rfl rfl rfl
  holds s lanes v h := h.of_eq rfl rfl rfl
  targets s j lanes n _ _ h := h.of_eq rfl rfl rfl
  freed s c _ h := h.of_eq rfl rfl rfl
  firstJob s m slot hr _ _ h := h.congr (by simp [withFirstJob]) (by simp [hr])
    (by simpa [withFirstJob] using .refl _)
  nextJob s m slot _ _ _ h := h.congr (by simp [withNextJob, setTrack]) (by simp [withNextJob, setTrack])
    (by simpa [withNextJob, setTrack] using FiringWithin.retag _ _ _)
  blocks s t e h := h.of_eq e.knt (by rw [e.rnc]) (by rw [e.rot])
  written s r rest age _ h := by
    unfold releaseFor
    split
    · exact h.of_eq (by simp) (by simp) (by simp)
    · exact h.of_eq rfl rfl rfl
  started s r h := by
    obtain ⟨-, hrot, hknt, -⟩ := startPart_blocks r s
    refine .of_idle ?_ ?_ ?_ ?_
    · rw [hknt]; exact untrack_output h.output
    · rw [hknt]; exact Nat.zero_le 3
    · rw [hknt]; rfl
    · rw [hrot]; rfl
  powerOn s := .of_idle ⟨fun _ => rfl, fun _ => rfl⟩ (Nat.zero_le 3) rfl rfl
  restarted s _ := .of_idle ⟨fun _ => rfl, fun _ => rfl⟩ (Nat.zero_le 3) rfl rfl

/-- Settles O56: a fire finds the knife idle and makes its row FIRING with the cycle record, the end of the
stroke leaves no row FIRING, and the inhibit is set only where the part is HALTED with it. -/
theorem stepKeepsKnifeInv : Obligations.StepKeepsKnifeInv := by
  intro s t h e
  exact knifeInv_kept.step_keeps (fun s q h => h.of_eq rfl rfl rfl) s t h e

end Sys2Proof.Machine
end

section
/-! The run state (R22, R73, R111, R146, R155, R159): each act leaves the fault code, the contexts, the
flaps, the tracker and the stop rows in agreement with the run state. -/

namespace Sys2Proof.Machine

/-! ### The index of a failing field -/

/-- The index a list of checks fails with is one of the list's. -/
theorem firstFailing_mem {checks : List (Nat × Bool)} {i : Nat}
    (h : firstFailing checks = some i) : i ∈ checks.map Prod.fst := by
  induction checks with
  | nil => cases h
  | cons c rest ih =>
    obtain ⟨j, ok⟩ := c
    cases ok with
    | true => exact List.mem_cons_of_mem _ (ih h)
    | false => cases h; exact List.mem_cons_self

/-- The config field index is at most 31 (R157). -/
theorem machineIndex_le (r : MachineRecord) : machineIndex r ≤ 31 := by
  unfold machineIndex
  cases hf : firstFailing (machineChecks r) with
  | none => exact Nat.zero_le 31
  | some i =>
    have hi : i ∈ (machineChecks r).map Prod.fst := firstFailing_mem hf
    have hall : ∀ j ∈ (machineChecks r).map Prod.fst, j ≤ 31 := by
      simp [machineChecks, allLanes, laneIndex]
    exact hall i hi

/-! ### The acts -/

/-- The part is RUN, DRAIN or HALTED: some row, context or flap of a run may stand. -/
theorem running_iff (s : State) : running s = true ↔
    s.rnc.runState = .run ∨ s.rnc.runState = .drain ∨ s.rnc.runState = .halted := by
  unfold running
  split <;> simp_all

/-- Where a row is tracked the part is running. -/
theorem RunInv.running_of_row {s : State} (h : RunInv s) {r : Row} (hr : r ∈ s.rot.track) :
    ¬ (s.rnc.runState = .off ∨ s.rnc.runState = .ready) := by
  intro e
  rw [(h.rest e).1] at hr
  cases hr

/-- Where the tracker is not IDLE the part is in RUN or HALTED. -/
theorem RunInv.of_tracking {s : State} (h : RunInv s) (hk : s.mkt.state ≠ .idle) :
    s.rnc.runState = .run ∨ s.rnc.runState = .halted := by
  have hi := h.idle
  cases hr : s.rnc.runState <;> simp_all

/-- What the invariant asks of the blocks but the Run Controller: what stands at rest stays at rest, the
tracker leaves IDLE only where the run state lets it, and a current job stays. -/
structure RunKept (s t : State) : Prop where
  rest : s.rnc.runState = .off ∨ s.rnc.runState = .ready → AtRest s → AtRest t
  idle : s.rnc.runState = .off ∨ s.rnc.runState = .ready ∨ s.rnc.runState = .drain →
    s.mkt.state = .idle → t.mkt.state = .idle
  job : s.jbc.current.isSome = true → t.jbc.current.isSome = true

/-- The invariant of a state whose Run Controller stands, and whose other blocks keep what it asks. -/
theorem RunInv.congr {s t : State} (h : RunInv s) (hr : t.rnc = s.rnc) (k : RunKept s t) :
    RunInv t := by
  constructor
  · rw [hr]; exact h.faultCode
  · rw [hr]; exact h.configIndex
  · rw [hr]; exact h.indexRange
  · rw [hr]; exact fun e => k.rest e (h.rest e)
  · rw [hr]; exact fun e => k.idle e (h.idle e)
  · rw [hr]; exact h.record
  · rw [hr]; exact fun e => k.job (h.job e)
  · rw [hr]; exact h.stops

/-- Blocks as they stand, but for rows of a track that stays empty when it is. -/
theorem RunKept.of_eq {s t : State} (ht : s.rot.track = [] → t.rot.track = [])
    (hc : t.jbc.current.isSome = s.jbc.current.isSome)
    (hp : s.jbc.previous = none → t.jbc.previous = none)
    (hf : ∀ l, (s.lnd.get l).flap = .reject → (t.lnd.get l).flap = .reject)
    (hk : s.mkt.state = .idle → t.mkt.state = .idle) : RunKept s t where
  rest _ h := by
    obtain ⟨htrack, hcur, hprev, hflap⟩ := h
    refine ⟨ht htrack, ?_, hp hprev, fun l => hf l (hflap l)⟩
    rw [hcur] at hc
    simpa using hc
  idle _ h := hk h
  job h := hc.trans h

/-- The invariant of a state whose blocks it names stand. -/
theorem RunInv.of_eq {s t : State} (h : RunInv s) (hr : t.rnc = s.rnc)
    (ht : t.rot.track = s.rot.track) (hj : t.jbc.current = s.jbc.current)
    (hp : t.jbc.previous = s.jbc.previous) (hl : t.lnd = s.lnd) (hk : t.mkt = s.mkt) : RunInv t :=
  h.congr hr (.of_eq (fun e => ht.trans e) (by rw [hj]) (fun e => hp.trans e)
    (fun l e => by rw [hl]; exact e) (fun e => by rw [hk]; exact e))

/-- The invariant of a state in OFF or READY that keeps nothing of a run. -/
theorem runInv_of_rest {t : State} (hr : t.rnc.runState = .off ∨ t.rnc.runState = .ready)
    (hf : t.rnc.faultCode = none) (hc : t.rnc.configIndex ≠ 0 → t.rnc.runState = .off)
    (hi : t.rnc.configIndex ≤ 31) (ha : AtRest t) (hk : t.mkt.state = .idle)
    (hm : t.rnc.runState ≠ .off → t.rnc.record.isSome = true)
    (hs : t.rnc.stopPending = Lanes.fill false ∧ t.rnc.stopRows = Lanes.fill none) : RunInv t := by
  refine ⟨?_, hc, hi, fun _ => ha, fun _ => hk, hm, ?_, fun _ => hs⟩
  · rw [hf]
    obtain hr | hr := hr <;> simp [hr]
  · obtain hr | hr := hr <;> simp [hr]

/-- What the ending of the contexts leaves of a run whose track is empty (R151, R161 to R163). -/
theorem endedRun_rest (s : State) (ht : s.rot.track = []) (hs : s.rnc.runState ≠ .off)
    (h : RunInv s) (u : State) (hu : u = trackerToIdle (endContexts (clearStops s))) :
    u.rot.track = [] ∧ u.jbc.current = none ∧ u.jbc.previous = none ∧ u.mkt.state = .idle ∧
    u.rnc.configIndex = 0 ∧ u.rnc.record.isSome = true ∧
    u.rnc.stopPending = Lanes.fill false ∧ u.rnc.stopRows = Lanes.fill none := by
  have hindex : s.rnc.configIndex = 0 := by
    by_contra hne
    exact hs (h.configIndex hne)
  subst hu
  refine ⟨by simp [ht], by simp [endContexts, clearTargets], by simp [endContexts, clearTargets],
    by simp [trackerToIdle, Mkt.toIdle], by simp [hindex], by simpa using h.record hs, ?_⟩
  simp [clearStops]

/-- READY, with nothing left of a run, meets the invariant. -/
theorem ready_runInv (u : State) (hf : u.rnc.faultCode = none)
    (hu : u.rot.track = [] ∧ u.jbc.current = none ∧ u.jbc.previous = none ∧ u.mkt.state = .idle ∧
      u.rnc.configIndex = 0 ∧ u.rnc.record.isSome = true ∧
      u.rnc.stopPending = Lanes.fill false ∧ u.rnc.stopRows = Lanes.fill none) :
    RunInv (setRunState .ready u) := by
  obtain ⟨ht, hc, hp, hk, hi, hm, hs⟩ := hu
  refine runInv_of_rest (.inr (by simp)) (by simpa) (by simp [hi]) (by simp [hi])
    ⟨by simpa, by simpa, by simpa, fun l => ?_⟩ (by simpa) (by simpa using hm) (by simpa)
  simp [Lnd.rejectFlap]

/-- A halting fault in RUN or DRAIN leaves the part HALTED with its code (R164). -/
theorem raiseHalting_runInv (s : State) (e : HaltingFault) (f : Count) (h : RunInv s) :
    RunInv (raiseHalting e f s) := by
  by_cases hr : s.rnc.runState = .run ∨ s.rnc.runState = .drain
  · have hrun : s.rnc.runState = .run ∨ s.rnc.runState = .drain ∨ s.rnc.runState = .halted := by tauto
    have hoff : s.rnc.runState ≠ .off := by
      intro e
      simp [e] at hr
    have hindex : s.rnc.configIndex = 0 := by
      by_contra hne
      exact hoff (h.configIndex hne)
    have hnew := raiseHalting_rnc_of_run e f s hr
    constructor <;> rw [hnew]
    · simp
    · simp [hindex]
    · simp [hindex]
    · simp
    · simp
    · simpa using h.record hoff
    · simpa using h.job hrun
    · simp
  · exact h.of_eq (raiseHalting_rnc_of_not_run e f s hr) (by simp) (by simp) (by simp) (by simp)
      (by simp)

/-- STOP leaves DRAIN, the tracker IDLE and the stop rows fixed (R159). -/
theorem stopBegun_runInv (s : State) (hr : s.rnc.runState = .run) (h : RunInv s) :
    RunInv (stopBegun s) := by
  have hindex : s.rnc.configIndex = 0 := by
    by_contra hne
    have := h.configIndex hne
    simp [hr] at this
  have hfault := h.faultCode
  have hrecord := h.record (by simp [hr])
  have hjob := h.job (.inl hr)
  rw [hr] at hfault
  constructor <;> simp_all [stopBegun, trackerToIdle, Mkt.toIdle]

/-- START leaves READY with the record in use, or OFF with the failing field's index (R157, R158). -/
theorem startPart_runInv (s : State) (r : MachineRecord) : RunInv (startPart r s) := by
  obtain ⟨hmkt, hrot, -, -, -, hjbc, -, hrnc⟩ := startPart_blocks r s
  have hstate : (startPart r s).rnc.runState = startState r := by rw [hrnc]
  have hindex : (startPart r s).rnc.configIndex = machineIndex r := by rw [hrnc]; rfl
  refine runInv_of_rest ?_ ?_ ?_ ?_ ⟨?_, ?_, ?_, ?_⟩ ?_ ?_ ?_
  · rw [hstate, startState]
    split <;> simp
  · rw [hrnc]; rfl
  · rw [hstate, hindex, startState]
    intro hne
    rw [if_neg hne]
  · rw [hindex]; exact machineIndex_le r
  · rw [hrot]; rfl
  · rw [hjbc]; rfl
  · rw [hjbc]; rfl
  · intro l; rw [startPart_lnd]
  · rw [hmkt]; rfl
  · rw [hstate, startState]
    intro hne
    by_cases h0 : machineIndex r = 0
    · rw [hrnc]; simp [Rnc.start, h0]
    · simp [h0] at hne
  · rw [hrnc]; exact ⟨rfl, rfl⟩

/-- Activation leaves RUN with its job CURRENT (R147). -/
theorem withFirstJob_runInv (s : State) (j : JobRecord) (hr : s.rnc.runState = .ready)
    (h : RunInv s) : RunInv (withFirstJob j s) := by
  have hindex : s.rnc.configIndex = 0 := by
    by_contra hne
    have := h.configIndex hne
    simp [hr] at this
  have hfault := h.faultCode
  have hrecord := h.record (by simp [hr])
  have hstops := h.stops (by simp [hr])
  rw [hr] at hfault
  constructor <;> simp_all [withFirstJob]

/-- Every act of the part keeps the run state and what it governs in agreement. -/
theorem runInv_kept : KeptByCommands RunInv where
  choices s n h := h.of_eq rfl rfl rfl rfl rfl rfl
  attention s x h := h.of_eq rfl rfl rfl rfl rfl rfl
  otherRecord s r _ h := h.of_eq (by simp) (by simp) (by simp) (by simp) (by simp) (by simp)
  grantPass s h := h.of_eq (by simp) (by simp) (by simp) (by simp) (by simp) (by simp)
  shortClose s k l h := h.of_eq (by simp) (by simp) (by simp) (by simp) (by simp) (by simp)
  closePending s x h := h.of_eq rfl rfl rfl rfl rfl rfl
  stopDone s l h := by
    refine ⟨h.faultCode, h.configIndex, h.indexRange, h.rest, h.idle, h.record, h.job, fun e => ?_⟩
    obtain ⟨hpending, hrows⟩ := h.stops e
    refine ⟨?_, hrows⟩
    simp only [State.setRnc_rnc, hpending]
    exact Lanes.ext_get fun k => by simp [Lanes.get_set]
  freePrevious s c _ h := h.congr (by simp) (.of_eq
    (by simp +contextual [freePrevious, setTrack, retag]) (by simp [freePrevious])
    (by simp [freePrevious]) (by simp) (by simp))
  emptyTrack s h := h.congr (by simp) (.of_eq (by simp [emptyTrack]) (by simp) (by simp) (by simp)
    (by simp [emptyTrack, Mkt.noNewest]))
  ended s hr ht h := by
    refine ready_runInv _ ?_ (endedRun_rest s ht (by rintro e; simp [e] at hr) h _ rfl)
    by_contra hne
    have := h.faultCode.1 (Option.isSome_iff_ne_none.2 (by simpa using hne))
    simp [this] at hr
  changeRow s n f _ h := h.congr rfl (.of_eq (by simp +contextual [setTrack, mapRow]) rfl id
    (fun _ e => e) id)
  rejectFlap s l h := h.congr rfl (.of_eq id rfl id
    (fun k e => by rw [setDecider_get]; split <;> simp_all) id)
  tally s t r h := h.congr (by simp) (.of_eq (by simp)
    (by cases t <;> simp [tallyReject]) (by cases t <;> simp +contextual [tallyReject]) (by simp)
    (by simp))
  passGood s u m l r id _ hr hp h := by
    obtain ⟨x, rfl⟩ := placeFor_keeps _ _ _ _ _ hp
    refine h.congr rfl ⟨fun e => absurd e (h.running_of_row hr), fun _ e => e, fun e => e⟩
  resolve s l b a rest _ h := h.congr (by simp) (.of_eq (by simp) (by simp) (by simp)
    (fun k e => by simpa [setArrivals, setDecider_get] using by split <;> simp_all) (by simp))
  markStacks s l q _ h := h.of_eq rfl rfl rfl rfl rfl rfl
  fire s gap r _ h := h.congr rfl (.of_eq (by simp +contextual [fireCut, setTrack, mapRow]) rfl id
    (fun _ e => e) id)
  halt s e f h := raiseHalting_runInv s e f h
  endStroke s c t bad n _ _ _ h := h.congr rfl (.of_eq
    (by simp +contextual [endStroke, setTrack, completeCut, mapRow]) rfl id (fun _ e => e) id)
  stallFault s _ h := by
    unfold stallFault
    split
    · exact raiseHalting_runInv _ _ _ (h.of_eq rfl rfl rfl rfl rfl rfl)
    · exact h
  reassert s _ h := h.of_eq rfl rfl rfl rfl rfl rfl
  tracker s k e h := h.congr rfl (.of_eq id rfl id (fun _ e => e) e.idle)
  travel s x _ h := h.of_eq rfl rfl rfl rfl rfl rfl
  overflow s x h := h.of_eq rfl rfl rfl rfl rfl rfl
  refused s hk h := h.congr rfl ⟨fun _ e => e, fun _ e => absurd e hk, fun e => e⟩
  row s c m q next room _ _ _ hk h := by
    have hr := h.of_tracking hk
    refine h.congr rfl ⟨fun e => ?_, fun _ e => absurd e hk, fun _ => rfl⟩
    obtain hr | hr := hr <;> simp [hr] at e
  spans s q g _ h := h.of_eq rfl rfl rfl rfl rfl rfl
  departed s c l n x b _ _ h := by
    have hk : RunInv (handOver l b s) := by
      unfold handOver
      split
      · exact h.of_eq (by simp) (by simp) (by simp) (by simp) (by simp) (by simp)
      · exact h
    exact hk.of_eq (by simp) (by simp) (by simp) (by simp) (by simp) (by simp)
  recorded s b x h := ⟨h.faultCode, h.configIndex, h.indexRange, h.rest, h.idle, h.record, h.job,
    h.stops⟩
  stopBegun s hr h := stopBegun_runInv s hr h
  acknowledged s hr ht h := ready_runInv _ rfl
    (endedRun_rest s ht (by simp [hr]) h (trackerToIdle (endContexts (clearStops s))) rfl)
  sampled s h := h.congr rfl (.of_eq id rfl id (fun l e => by simpa [formLeads] using e) id)
  aged s h := h.of_eq rfl rfl rfl rfl rfl rfl
  holds s lanes v h := h.of_eq rfl rfl rfl rfl rfl rfl
  targets s j lanes n _ _ h := h.of_eq rfl rfl rfl rfl rfl rfl
  freed s c _ h := h.of_eq rfl rfl rfl rfl rfl rfl
  firstJob s m slot hr _ _ h := withFirstJob_runInv s _ hr h
  nextJob s m slot hr _ _ h := by
    refine h.congr (by simp [withNextJob, setTrack]) ⟨fun e => ?_, fun e => ?_, fun _ => ?_⟩
    · simp [hr] at e
    · simp [hr] at e
    · simp [withNextJob, setTrack]
  blocks s t e h := h.of_eq e.rnc (by rw [e.rot]) (by rw [e.jbc]) (by rw [e.jbc]) e.lnd e.mkt
  written s r rest age _ h := by
    unfold releaseFor
    split
    · exact h.of_eq (by simp) (by simp) (by simp) (by simp) (by simp) (by simp)
    · exact h.of_eq rfl rfl rfl rfl rfl rfl
  started s r _ := startPart_runInv s r
  powerOn s := runInv_of_rest (.inl rfl) rfl (fun _ => rfl) (Nat.zero_le _)
    ⟨rfl, rfl, rfl, fun l => by cases l <;> rfl⟩ rfl (fun e => absurd rfl e) ⟨rfl, rfl⟩
  restarted s _ := runInv_of_rest (.inl rfl) rfl (fun _ => rfl) (Nat.zero_le _)
    ⟨rfl, rfl, rfl, fun l => by cases l <;> rfl⟩ rfl (fun e => absurd rfl e) ⟨rfl, rfl⟩

/-- Settles O57: every change of run state is one act with the items it governs, and where nothing of a run
may stand no act makes any. -/
theorem stepKeepsRunInv : Obligations.StepKeepsRunInv := by
  intro s t h e
  exact runInv_kept.step_keeps (fun s q h => h.of_eq rfl rfl rfl rfl rfl rfl) s t h e

end Sys2Proof.Machine
end

section
/-! Stack lines and the arbiter: the cases of each shared operation, and what it writes in the lines and the
waiting sets. -/

namespace Sys2Proof.Machine

/-! ### Joining -/

/-- A joining adds the lane to the waiting set of its conveyor with age 0, or changes nothing (R129). -/
theorem joinWaiting_cases (l : Lane) (s : State) : joinWaiting l s = s ∨
    ∃ m, s.rnc.record = some m ∧ frontClosed (s.skc.get l).line = true ∧
      (s.tka.waiting.get (m.conveyor l)).get l = none ∧
      joinWaiting l s =
        setWaiting (m.conveyor l) ((s.tka.waiting.get (m.conveyor l)).set l (some 0)) s := by
  unfold joinWaiting
  split
  · exact .inl rfl
  next m hm =>
    dsimp only
    split
    next h =>
      obtain ⟨hfront, hnone⟩ := Bool.and_eq_true_iff.1 h
      exact .inr ⟨m, hm, hfront, Option.isNone_iff_eq_none.1 hnone, rfl⟩
    next => exact .inl rfl

/-! ### Grants -/

/-- A better lane is the one chosen so far or the next one. -/
theorem betterLane_cases {best : Option (Lane × Nat)} {l k : Lane} {p : Option Nat} {b : Nat}
    (h : betterLane best l p = some (k, b)) : best = some (k, b) ∨ (k = l ∧ p = some b) := by
  unfold betterLane at h
  split at h
  · cases h; exact .inr ⟨rfl, rfl⟩
  · split at h
    · cases h; exact .inr ⟨rfl, rfl⟩
    · cases h; exact .inl rfl
  · exact .inl h

/-- The lane that a grant pass picks waits (R133). -/
theorem winner_waits {m : MachineRecord} {w : Lanes (Option Nat)} {l : Lane}
    (h : winner m w = some l) : (w.get l).isSome = true := by
  have hfold : ∀ (q : List Lane) (best : Option (Lane × Nat)),
      (∀ k b, best = some (k, b) → (w.get k).isSome = true) → ∀ k b,
      q.foldl (fun best l => betterLane best l (effectivePriority m w l)) best = some (k, b) →
      (w.get k).isSome = true := by
    intro q
    induction q with
    | nil => exact fun _ hb => hb
    | cons j q ih =>
      intro best hb
      refine ih _ fun k b hk => ?_
      obtain hk | ⟨rfl, hk⟩ := betterLane_cases hk
      · exact hb k b hk
      · simpa [effectivePriority] using congrArg Option.isSome hk
  unfold winner at h
  obtain ⟨⟨k, b⟩, hk, rfl⟩ := Option.map_eq_some_iff.1 h
  exact hfold allLanes none (fun _ _ => nofun) k b hk

/-- A grant makes the FRONT PUSHING and leaves the other lines (R135). -/
theorem grant_line (m : MachineRecord) (c : Conveyor) (l k : Lane) (s : State) :
    ((grant m c l s).skc.get k).line =
      if k = l then pushFront c (s.skc.get l).line else (s.skc.get k).line := by
  simp only [grant, setConveyor, State.setTka_skc, setLine_line, setWaiting]

/-! ### Closes -/

/-- The last stack of a line, closed short (R125). -/
def closedShort (k : CloseKind) (l : Lane) (x : Stack) (s : State) : Stack :=
  { x with
    closeKind := some k, closePoint := some s.trc.front,
    state := if outstanding l x.id s = 0 then StackState.closed else .completing }

/-- A short close closes the last stack when it is FILLING, and changes nothing otherwise (R125). -/
theorem shortClose_cases (k : CloseKind) (l : Lane) (s : State) : shortClose k l s = s ∨
    ∃ x, (s.skc.get l).line.getLast? = some x ∧ x.state = .filling ∧
      shortClose k l s =
        joinWaiting l (setLine l ((s.skc.get l).line.dropLast ++ [closedShort k l x s]) s) := by
  unfold shortClose
  dsimp only
  split
  · exact .inl rfl
  next x hx =>
    split
    next hf => exact .inr ⟨x, hx, hf, rfl⟩
    next => exact .inl rfl

/-! ### Allotment -/

/-- A label allotted to the last stack, which is FILLING: the only stack of the line, or one behind the
FRONT with the shelf below its limit (R123). -/
structure AllottedLast (l : Lane) (r : Row) (s u : State) (id : Nat) (x : Stack) : Prop where
  last : (s.skc.get l).line.getLast? = some x
  filling : x.state = .filling
  room : (s.skc.get l).line.length = 1 ∨ shelfTotal (s.skc.get l).line < (s.skc.get l).shelfLimit
  state : u = setLine l ((s.skc.get l).line.dropLast ++ [allotTo r.number s.trc.front x]) s
  id_eq : id = x.id

/-- A stack opened for a label: in an empty line, or behind a last stack that is not FILLING, with a place
in the line and the shelf below its limit (R123). -/
structure OpenedStack (l : Lane) (r : Row) (s u : State) (id t : Nat) : Prop where
  target : laneTarget (s.skc.get l) r.tag = some t
  room : (s.skc.get l).line = [] ∨ ((s.skc.get l).line.length < 3 ∧
    shelfTotal (s.skc.get l).line < (s.skc.get l).shelfLimit ∧
    ∀ x ∈ (s.skc.get l).line.getLast?, x.state ≠ .filling)
  state : u = setLane l { s.skc.get l with
    line := (s.skc.get l).line ++
      [allotTo r.number s.trc.front (newStack (s.skc.get l).nextId r.jobId t r.number)],
    nextId := nextStackId (s.skc.get l).nextId } s
  id_eq : id = (s.skc.get l).nextId

/-- An allotment takes the last stack or opens one (R123). -/
theorem allot_cases {l : Lane} {r : Row} {s u : State} {id : Nat} (h : allot l r s = some (u, id)) :
    (∃ x, AllottedLast l r s u id x) ∨ ∃ t, OpenedStack l r s u id t := by
  have hopen : openStack l r s = some (u, id) → ((s.skc.get l).line = [] ∨
      ((s.skc.get l).line.length < 3 ∧ shelfTotal (s.skc.get l).line < (s.skc.get l).shelfLimit ∧
        ∀ x ∈ (s.skc.get l).line.getLast?, x.state ≠ .filling)) →
      ∃ t, OpenedStack l r s u id t := by
    intro ho hroom
    unfold openStack at ho
    dsimp only at ho
    split at ho
    · cases ho
    next t ht => cases ho; exact ⟨t, ht, hroom, rfl, rfl⟩
  unfold allot at h
  dsimp only at h
  split at h
  next hnone => exact .inr (hopen h (.inl (List.getLast?_eq_none_iff.1 hnone)))
  next x hx =>
    split at h
    next hf =>
      split at h
      next h1 => cases h; exact .inl ⟨x, hx, hf, .inl h1, rfl, rfl⟩
      next =>
        split at h
        next h2 => cases h; exact .inl ⟨x, hx, hf, .inr h2, rfl, rfl⟩
        next => cases h
    next hf =>
      split at h
      next hlen =>
        split at h
        next hshelf =>
          refine .inr (hopen h (.inr ⟨hlen, hshelf, fun y hy => ?_⟩))
          cases hx.symm.trans hy
          exact hf
        next => cases h
      next => cases h

/-- A place for a label is an entry of the arrival list and an allotment (R106). -/
theorem placeFor_cases {l : Lane} {r : Row} {s u : State} {id : Nat}
    (h : placeFor l r s = some (u, id)) :
    (s.lnd.get l).arrivals.length < 16 ∧ allot l r s = some (u, id) := by
  unfold placeFor at h
  split at h
  next hlt => exact ⟨hlt, h⟩
  next => cases h

/-! ### Targets and shelf limits -/

@[simp] theorem setShelfLimit_line (l : Lane) (s : State) (k : Lane) :
    ((setShelfLimit l s).skc.get k).line = (s.skc.get k).line := by
  unfold setShelfLimit
  split
  · simp only [setLane_get]
    split <;> simp_all
  · rfl

@[simp] theorem setShelfLimits_line (s : State) (k : Lane) :
    ((setShelfLimits s).skc.get k).line = (s.skc.get k).line := by
  simp [setShelfLimits]

@[simp] theorem clearTargets_line (s : State) (k : Lane) :
    ((clearTargets s).skc.get k).line = (s.skc.get k).line ∧
    ((clearTargets s).skc.get k).shelfLimit = (s.skc.get k).shelfLimit ∧
    ((clearTargets s).skc.get k).targetCurrent = none ∧
    ((clearTargets s).skc.get k).targetPrevious = none := by
  simp [clearTargets]

@[simp] theorem clearPreviousTargets_line (s : State) (k : Lane) :
    ((clearPreviousTargets s).skc.get k).line = (s.skc.get k).line ∧
    ((clearPreviousTargets s).skc.get k).shelfLimit = (s.skc.get k).shelfLimit ∧
    ((clearPreviousTargets s).skc.get k).targetCurrent = (s.skc.get k).targetCurrent ∧
    ((clearPreviousTargets s).skc.get k).targetPrevious = none := by
  simp [clearPreviousTargets]

/-- The ending of the contexts clears the targets, and keeps the lines and their limits (R128, R151). -/
@[simp] theorem endContexts_line (s : State) (k : Lane) :
    ((endContexts s).skc.get k).line = (s.skc.get k).line ∧
    ((endContexts s).skc.get k).shelfLimit = (s.skc.get k).shelfLimit ∧
    ((endContexts s).skc.get k).targetCurrent = none ∧
    ((endContexts s).skc.get k).targetPrevious = none := by
  simp [endContexts]

end Sys2Proof.Machine
end

section
/-! Ranges and capacities: each act leaves every block within the bounds that its chapter states. -/

namespace Sys2Proof.Machine

/-! ### Checks in order -/

/-- No check of a list fails exactly when all of them pass. -/
theorem firstFailing_eq_none_iff {checks : List (Nat × Bool)} :
    firstFailing checks = none ↔ ∀ c ∈ checks, c.2 = true := by
  induction checks with
  | nil => simp [firstFailing]
  | cons c rest ih =>
    obtain ⟨i, ok⟩ := c
    cases ok <;> simp [firstFailing, ih]

/-- The config field index is 0 exactly when every field passes: no field has index 0 (R157). -/
theorem machineIndex_eq_zero_iff (r : MachineRecord) :
    machineIndex r = 0 ↔ ∀ c ∈ machineChecks r, c.2 = true := by
  rw [← firstFailing_eq_none_iff]
  unfold machineIndex
  cases hf : firstFailing (machineChecks r) with
  | none => simp
  | some i =>
    have hi : i ∈ (machineChecks r).map Prod.fst := firstFailing_mem hf
    have hall : ∀ j ∈ (machineChecks r).map Prod.fst, j ≠ 0 := by
      simp [machineChecks, allLanes, laneIndex]
    simpa using hall i hi

/-- A record that passes its checks has a lead limit of at most 16383 (field 16 of R157). -/
theorem leadMax_le {r : MachineRecord} (h : machineIndex r = 0) : r.leadMax ≤ 16383 := by
  have := (machineIndex_eq_zero_iff r).1 h (16, inRange 0 16383 r.leadMax)
    (by simp [machineChecks])
  simpa [inRange] using this

/-- The targets of a valid job's lanes are from 2 to 9999 (fields 20 to 23 of R144). -/
theorem targetIn_inRange {j : JobRecord} {m : MachineRecord} (h : jobIndex j m = none) (l : Lane) :
    TargetInRange (j.targetIn l) := by
  have := firstFailing_eq_none_iff.1 h
    (laneCheck j l (20 + laneIndex l) (inRange 2 9999 (j.lane.get l).target))
    (by cases l <;> simp [jobFieldChecks, allLanes])
  unfold JobRecord.targetIn
  intro n hn
  split at hn
  next ha =>
    cases hn
    simpa [laneCheck, ha, inRange] using this
  next => cases hn

/-- The shelf_max fields of a job record in memory are bytes (R183). -/
theorem readJobRecord_shelfMax (m : Memory) (slot : Nat) (l : Lane) :
    ((readJobRecord m slot).lane.get l).shelfMax ≤ 9999 := by
  have hbyte : ∀ a, Memory.natByte m a ≤ 9999 := fun a => by
    have := (Memory.readByte m a).isLt
    unfold Memory.natByte
    omega
  simpa [readJobRecord] using hbyte _

/-! ### The bounds block by block -/

/-- A Travel Counter within its ranges. -/
def TrcIn (x : Trc) : Prop := x.speed ≤ 4095 ∧ x.standstill ≤ 200 ∧ x.deglitchCount ≤ 7

/-- A Mark Tracker within its ranges. -/
def MktIn (x : Mkt) : Prop :=
  (64225 ≤ x.stretch ∧ x.stretch ≤ 66847) ∧ x.coastCount ≤ 255 ∧ x.strayCount ≤ 65535 ∧
  x.glitchCount ≤ 65535

/-- The machine record in use is one that passes its checks. -/
def RecordIn (x : Option MachineRecord) : Prop := ∀ m, x = some m → machineIndex m = 0

/-- The deciders' leads and lists within their limits. -/
def LndIn (x : Lanes Lnd) : Prop :=
  ∀ l, (x.get l).flapLead ≤ 16383 ∧ (x.get l).arrivals.length ≤ 16

/-- A lane of the Stack Controller within its limits. -/
structure LaneIn (x : SkcLane) : Prop where
  length : x.line.length ≤ 3
  extras : ∀ y ∈ x.line, y.extra ≤ 65535 ∧ y.suspect ≤ 65535
  nextId : 1 ≤ x.nextId ∧ x.nextId ≤ 65535
  targets : TargetInRange x.targetCurrent ∧ TargetInRange x.targetPrevious
  shelf : shelfTotal x.line ≤ x.shelfLimit ∧ x.shelfLimit ≤ 9999

/-- A context store within its ranges. -/
def ContextIn (x : Option JobContext) : Prop := TalliesInRange x ∧ ShelvesInRange x

/-- The ages of the waiting lanes are at most 7. -/
def AgesIn (w : Conveyors (Lanes (Option Nat))) : Prop := ∀ c l, ∀ a ∈ (w.get c).get l, a ≤ 7

/-- The Report Writer's records that are not STACK records, and its dropped count, within their limits. -/
def RpwIn (x : Rpw) : Prop := otherRecords x.queue ≤ 4 ∧ x.droppedCount ≤ 65535

/-- `BoundsInv`, block by block. -/
structure BlockBounds (s : State) : Prop where
  trc : TrcIn s.trc
  mkt : MktIn s.mkt
  record : RecordIn s.rnc.record
  lead : s.knt.lead ≤ 16383
  lnd : LndIn s.lnd
  track : s.rot.track.length ≤ 64
  spans : s.ntp.spans.length ≤ 32
  skc : ∀ l, LaneIn (s.skc.get l)
  current : ContextIn s.jbc.current
  previous : ContextIn s.jbc.previous
  ages : AgesIn s.tka.waiting
  rpw : RpwIn s.rpw

theorem boundsInv_iff (s : State) : BoundsInv s ↔ BlockBounds s := by
  constructor
  · intro h
    exact ⟨⟨h.speed, h.standstill, h.zoneDeglitch⟩,
      ⟨h.stretch, h.coastCount, h.strayCount, h.glitchCount⟩, h.record, h.leads.1,
      fun l => ⟨h.leads.2 l, h.arrivals l⟩, h.track, h.spans,
      fun l => ⟨h.lines l, h.extras l, h.nextId l, h.targets l, h.shelves l⟩,
      ⟨h.currentTallies, h.shelfGoals.1⟩, ⟨h.previousTallies, h.shelfGoals.2⟩, h.ages,
      ⟨h.otherRecords, h.dropped⟩⟩
  · intro h
    obtain ⟨hspeed, hstand, hdeglitch⟩ := h.trc
    obtain ⟨hstretch, hcoast, hstray, hglitch⟩ := h.mkt
    exact ⟨hspeed, hstand, hdeglitch, h.record, ⟨h.lead, fun l => (h.lnd l).1⟩, hstretch, hcoast,
      hstray, hglitch, h.track, h.spans, fun l => (h.lnd l).2, fun l => (h.skc l).length,
      fun l => (h.skc l).extras, fun l => (h.skc l).nextId, fun l => (h.skc l).targets,
      fun l => (h.skc l).shelf, ⟨h.current.2, h.previous.2⟩, h.ages, h.rpw.1, h.rpw.2,
      h.current.1, h.previous.1⟩

/-- The bounds of a state from those of another, block by block: a block that stands needs no proof. -/
theorem BlockBounds.congr {s t : State} (h : BlockBounds s)
    (trc : TrcIn s.trc → TrcIn t.trc := by first | exact fun e => e | simp)
    (mkt : MktIn s.mkt → MktIn t.mkt := by first | exact fun e => e | simp)
    (record : RecordIn s.rnc.record → RecordIn t.rnc.record := by first | exact fun e => e | simp)
    (lead : s.knt.lead ≤ 16383 → t.knt.lead ≤ 16383 := by first | exact fun e => e | simp)
    (lnd : LndIn s.lnd → LndIn t.lnd := by first | exact fun e => e | simp)
    (track : s.rot.track.length ≤ 64 → t.rot.track.length ≤ 64 := by first | exact fun e => e | simp)
    (spans : s.ntp.spans.length ≤ 32 → t.ntp.spans.length ≤ 32 := by first | exact fun e => e | simp)
    (skc : (∀ l, LaneIn (s.skc.get l)) → ∀ l, LaneIn (t.skc.get l) := by first | exact fun e => e | simp)
    (current : ContextIn s.jbc.current → ContextIn t.jbc.current := by first | exact fun e => e | simp)
    (previous : ContextIn s.jbc.previous → ContextIn t.jbc.previous := by first | exact fun e => e | simp)
    (ages : AgesIn s.tka.waiting → AgesIn t.tka.waiting := by first | exact fun e => e | simp)
    (rpw : RpwIn s.rpw → RpwIn t.rpw := by first | exact fun e => e | simp) : BlockBounds t :=
  ⟨trc h.trc, mkt h.mkt, record h.record, lead h.lead, lnd h.lnd, track h.track, spans h.spans,
   skc h.skc, current h.current, previous h.previous, ages h.ages, rpw h.rpw⟩

/-! ### Lines and shelves -/

/-- A stack as large as another, with its counts of extras and suspect marks in range. -/
structure StackSized (x y : Stack) : Prop where
  allotted : y.allotted = x.allotted
  extra : y.extra ≤ x.extra ∨ y.extra ≤ 65535
  suspect : y.suspect ≤ x.suspect ∨ y.suspect ≤ 65535

theorem StackSized.refl (x : Stack) : StackSized x x := ⟨rfl, .inl le_rfl, .inl le_rfl⟩

theorem StackMarked.sized {x y : Stack} (h : StackMarked x y) : StackSized x y := by
  obtain ⟨⟨_, _, _, rfl⟩, he, hs⟩ := h
  exact ⟨rfl, he, hs⟩

theorem sized_refl (q : List Stack) : List.Forall₂ StackSized q q :=
  List.forall₂_same.2 fun x _ => .refl x

/-- Lines of stacks of the same sizes have the same shelf total. -/
theorem shelfTotal_of_sized {q q' : List Stack} (h : List.Forall₂ StackSized q q') :
    shelfTotal q' = shelfTotal q := by
  have hsum : ∀ {p p' : List Stack}, List.Forall₂ StackSized p p' →
      p'.map (fun x => x.allotted) = p.map fun x => x.allotted := by
    intro p p' hp
    induction hp with
    | nil => rfl
    | cons hx _ ih => simp [hx.allotted, ih]
  unfold shelfTotal
  cases h with
  | nil => rfl
  | cons _ hq => rw [List.tail_cons, List.tail_cons, hsum hq]

/-- A line of stacks of the same sizes is within the same limits. -/
theorem LaneIn.of_sized {x : SkcLane} {q : List Stack} (h : LaneIn x)
    (hq : List.Forall₂ StackSized x.line q) : LaneIn { x with line := q } := by
  refine ⟨?_, ?_, h.nextId, h.targets, ?_⟩
  · exact hq.length_eq ▸ h.length
  · intro y hy
    obtain ⟨i, hi, rfl⟩ := List.mem_iff_getElem.1 hy
    have hi' : i < x.line.length := hq.length_eq ▸ hi
    have hs := (List.forall₂_iff_get.1 hq).2 i hi' hi
    have hx := h.extras _ (List.getElem_mem hi')
    simp only [List.get_eq_getElem] at hs
    obtain ⟨-, he, hs⟩ := hs
    change q[i].extra ≤ 65535 ∧ q[i].suspect ≤ 65535
    omega
  · rw [shelfTotal_of_sized hq]; exact h.shelf

/-- A lane's line replaced by one of the same sizes leaves every lane within its limits. -/
theorem setLine_laneIn {s : State} {l : Lane} {q : List Stack}
    (hq : List.Forall₂ StackSized (s.skc.get l).line q) (h : ∀ k, LaneIn (s.skc.get k)) (k : Lane) :
    LaneIn ((setLine l q s).skc.get k) := by
  rw [setLine, setLane_get]
  split
  next hk => exact (h l).of_sized hq
  next => exact h k

/-- The last stack replaced by one of its size. -/
theorem sized_last {q : List Stack} {x y : Stack} (hx : q.getLast? = some x) (h : StackSized x y) :
    List.Forall₂ StackSized q (q.dropLast ++ [y]) := by
  conv => lhs; rw [← List.dropLast_append_getLast? x hx]
  exact List.rel_append (sized_refl _) (.cons h .nil)

theorem pushFront_sized (c : Conveyor) (q : List Stack) :
    List.Forall₂ StackSized q (pushFront c q) := by
  cases q with
  | nil => exact .nil
  | cons x q => exact .cons ⟨rfl, .inl le_rfl, .inl le_rfl⟩ (sized_refl q)

/-- A stack that counts an arrival, and may become CLOSED with it, is as large as before (R121). -/
theorem settled_sized (left : Nat) (b : Bool) (x : Stack) :
    StackSized x (settleStack left (countArrival b x)) := by
  unfold settleStack countArrival
  cases b <;> simp only [Bool.false_eq_true, if_false, if_true] <;> split <;>
    exact ⟨rfl, .inl le_rfl, .inl le_rfl⟩

theorem mapStack_sized (id : Nat) {f : Stack → Stack} (h : ∀ x, StackSized x (f x))
    (q : List Stack) : List.Forall₂ StackSized q (mapStack id f q) := by
  rw [mapStack, List.forall₂_map_right_iff, List.forall₂_same]
  intro x _
  split
  · exact h x
  · exact .refl x

/-- The shelf total of a line that has lost its FRONT is no larger. -/
theorem shelfTotal_tail_le (q : List Stack) : shelfTotal q.tail ≤ shelfTotal q := by
  unfold shelfTotal
  cases q with
  | nil => exact le_rfl
  | cons x q =>
    cases q with
    | nil => exact le_rfl
    | cons y q => simp

/-- A stack behind the others adds its allotted count to the shelf; one that is alone does not. -/
theorem shelfTotal_append (q : List Stack) (x : Stack) :
    shelfTotal (q ++ [x]) = if q = [] then 0 else shelfTotal q + x.allotted := by
  cases q with
  | nil => rfl
  | cons y q => simp [shelfTotal]

@[simp] theorem allotTo_allotted (n : RowNum) (f : Count) (x : Stack) :
    (allotTo n f x).allotted = x.allotted + 1 := by
  unfold allotTo
  dsimp only
  split <;> rfl

@[simp] theorem allotTo_marks (n : RowNum) (f : Count) (x : Stack) :
    (allotTo n f x).extra = x.extra ∧ (allotTo n f x).suspect = x.suspect := by
  unfold allotTo
  dsimp only
  split <;> exact ⟨rfl, rfl⟩

/-- Ids move from 65535 to 1 (R120). -/
theorem nextStackId_range {n : Nat} (h : 1 ≤ n ∧ n ≤ 65535) :
    1 ≤ nextStackId n ∧ nextStackId n ≤ 65535 := by
  unfold nextStackId
  split <;> omega

/-- An allotment leaves every lane within its limits: it adds to the shelf only below its limit (R122,
R123). -/
theorem allot_laneIn {l : Lane} {r : Row} {s u : State} {id : Nat} (h : allot l r s = some (u, id))
    (hs : ∀ k, LaneIn (s.skc.get k)) (k : Lane) : LaneIn (u.skc.get k) := by
  have hl := hs l
  obtain ⟨x, hx⟩ | ⟨t, ht⟩ := allot_cases h
  · rw [hx.state, setLine, setLane_get]
    split
    next =>
      have hmem := List.mem_of_getLast? hx.last
      have hline := List.dropLast_append_getLast? x hx.last
      refine ⟨?_, ?_, hl.nextId, hl.targets, ?_, hl.shelf.2⟩
      · have := congrArg List.length hline
        have := hl.length
        simp only [List.length_append, List.length_singleton] at *
        omega
      · intro y hy
        obtain hy | hy := List.mem_append.1 hy
        · exact hl.extras y (List.mem_of_mem_dropLast hy)
        · rw [List.mem_singleton.1 hy]
          simpa using hl.extras x hmem
      · change shelfTotal ((s.skc.get l).line.dropLast ++ _) ≤ _
        have htotal := shelfTotal_append (s.skc.get l).line.dropLast x
        rw [hline] at htotal
        rw [shelfTotal_append]
        split
        next => exact Nat.zero_le _
        next hne =>
          rw [if_neg hne] at htotal
          have hroom := hx.room
          have hlen := congrArg List.length hline
          have := List.length_pos_of_ne_nil hne
          simp only [List.length_append, List.length_singleton] at hlen
          rw [allotTo_allotted]
          change _ ≤ (s.skc.get l).shelfLimit
          omega
    next => exact hs k
  · rw [ht.state, setLane_get]
    split
    next =>
      refine ⟨?_, ?_, nextStackId_range hl.nextId, hl.targets, ?_, hl.shelf.2⟩
      · obtain hnil | ⟨hlen, -⟩ := ht.room
        · simp [hnil]
        · simp only [List.length_append, List.length_singleton]
          omega
      · intro y hy
        obtain hy | hy := List.mem_append.1 hy
        · exact hl.extras y hy
        · rw [List.mem_singleton.1 hy]
          simp [newStack]
      · change shelfTotal ((s.skc.get l).line ++ _) ≤ _
        rw [shelfTotal_append]
        split
        next => exact Nat.zero_le _
        next hne =>
          obtain hnil | ⟨-, hshelf, -⟩ := ht.room
          · exact absurd hnil hne
          · rw [allotTo_allotted]
            change _ + (0 + 1) ≤ (s.skc.get l).shelfLimit
            omega
    next => exact hs k

/-- A shelf limit set again holds the shelf total, and is in range with the goal (R122). -/
theorem setShelfLimit_laneIn (l : Lane) (s : State) (hc : ShelvesInRange s.jbc.current)
    (hp : ShelvesInRange s.jbc.previous) (h : ∀ k, LaneIn (s.skc.get k)) (k : Lane) :
    LaneIn ((setShelfLimit l s).skc.get k) := by
  have hgoal : ∀ x : Option JobContext, ShelvesInRange x → ∀ g, shelfMaxIn x l = some g →
      g ≤ 9999 := by
    intro x hx g hg
    unfold shelfMaxIn at hg
    split at hg
    next c =>
      split at hg
      · cases hg; exact hx c rfl l
      · cases hg
    next => cases hg
  unfold setShelfLimit
  split
  next g hg =>
    have hg9 : g ≤ 9999 := by
      unfold shelfGoal at hg
      split at hg
      next hcur => cases hg; exact hgoal _ hc _ hcur
      next => exact hgoal _ hp _ hg
    rw [setLane_get]
    split
    next =>
      have hl := h l
      have := hl.shelf
      refine ⟨hl.length, hl.extras, hl.nextId, hl.targets, le_max_right _ _, ?_⟩
      change max g _ ≤ 9999
      omega
    next => exact h k
  next => exact h k

theorem setShelfLimits_laneIn (s : State) (hc : ShelvesInRange s.jbc.current)
    (hp : ShelvesInRange s.jbc.previous) (h : ∀ k, LaneIn (s.skc.get k)) (k : Lane) :
    LaneIn ((setShelfLimits s).skc.get k) := by
  refine setShelfLimit_laneIn _ _ (by simpa) (by simpa) ?_ k
  refine setShelfLimit_laneIn _ _ (by simpa) (by simpa) ?_
  refine setShelfLimit_laneIn _ _ (by simpa) (by simpa) ?_
  exact setShelfLimit_laneIn _ _ hc hp h

/-- Targets changed within their range leave a lane within its limits. -/
theorem LaneIn.of_targets {x y : SkcLane} (h : LaneIn x) (hl : y.line = x.line)
    (hn : y.nextId = x.nextId) (hs : y.shelfLimit = x.shelfLimit)
    (ht : TargetInRange y.targetCurrent ∧ TargetInRange y.targetPrevious) : LaneIn y := by
  refine ⟨hl ▸ h.length, ?_, hn ▸ h.nextId, ht, ?_⟩
  · rw [hl]; exact h.extras
  · rw [hl, hs]; exact h.shelf

theorem targetInRange_none : TargetInRange none := fun _ => nofun

/-! ### Waiting sets -/

theorem setWaiting_ages {w : Conveyors (Lanes (Option Nat))} (c : Conveyor) (l : Lane)
    {a : Option Nat} (ha : ∀ n ∈ a, n ≤ 7) (h : AgesIn w) :
    AgesIn (w.set c ((w.get c).set l a)) := by
  intro d k n hn
  rw [Conveyors.get_set] at hn
  split at hn
  · rw [Lanes.get_set] at hn
    split at hn
    · exact ha n hn
    · exact h c k n hn
  · exact h d k n hn

theorem joinWaiting_ages (l : Lane) (s : State) (h : AgesIn s.tka.waiting) :
    AgesIn (joinWaiting l s).tka.waiting := by
  obtain e | ⟨m, -, -, -, e⟩ := joinWaiting_cases l s
  · rwa [e]
  · rw [e]
    exact setWaiting_ages _ _ (by simp) h

/-! ### The acts -/

theorem grantTurn_bounds (c : Conveyor) (s : State) (h : BlockBounds s) :
    BlockBounds (grantTurn c s) := by
  obtain e | ⟨m, l, -, -, -, -, e⟩ := grantTurn_cases c s
  · rwa [e]
  · rw [e]
    refine h.congr (skc := fun hk k => ?_) (ages := fun ha => ?_)
    · have := setLine_laneIn (pushFront_sized c (s.skc.get l).line) hk k
      simpa only [grant, setConveyor, State.setTka_skc, setWaiting, setLine, setLane,
        State.setSkc_skc] using this
    · rw [grant_tka]
      exact setWaiting_ages _ _ (by simp) ha

theorem joinWaiting_bounds (l : Lane) (s : State) (h : BlockBounds s) :
    BlockBounds (joinWaiting l s) :=
  h.congr (ages := joinWaiting_ages l s)

theorem setLine_bounds {s : State} {l : Lane} {q : List Stack} (h : BlockBounds s)
    (hq : List.Forall₂ StackSized (s.skc.get l).line q) : BlockBounds (setLine l q s) :=
  h.congr (skc := setLine_laneIn hq)

theorem shortClose_bounds (k : CloseKind) (l : Lane) (s : State) (h : BlockBounds s) :
    BlockBounds (shortClose k l s) := by
  obtain e | ⟨x, hx, -, e⟩ := shortClose_cases k l s
  · rwa [e]
  · rw [e]
    exact joinWaiting_bounds _ _ (setLine_bounds h
      (sized_last hx ⟨rfl, .inl le_rfl, .inl le_rfl⟩))

/-- A record that joins leaves at most 4 that are not STACK records, and is counted otherwise (R177). -/
theorem queueRecord_rpwIn (r : Record) (s : State) (h : RpwIn s.rpw) :
    RpwIn (queueRecord r s).rpw := by
  unfold queueRecord
  split
  next hroom =>
    have hrpw : (updateReportRequest (s.setRpw { s.rpw with queue := s.rpw.queue ++ [r] })).rpw =
        { s.rpw with queue := s.rpw.queue ++ [r] } := by simp
    rw [hrpw]
    refine ⟨?_, h.2⟩
    simp only [Bool.or_eq_true, decide_eq_true_eq, Config.otherRecordCapacity] at hroom
    have := h.1
    simp only [otherRecords, List.countP_append, List.countP_singleton] at *
    split <;> simp_all
  next => exact ⟨h.1, riseTo_le _ _⟩

theorem queueRecord_bounds (r : Record) (s : State) (h : BlockBounds s) :
    BlockBounds (queueRecord r s) := h.congr (rpw := queueRecord_rpwIn r s)

theorem raiseTally_range {t : Tallies} (r : Reason) (h : ∀ x, t.get x ≤ 65535) (x : Reason) :
    (raiseTally t r).get x ≤ 65535 := by
  have hr := riseTo_le 65535 (t.get r)
  have hx := h x
  unfold raiseTally
  cases r <;> cases x <;> assumption

theorem raise_contextIn (r : Reason) {x : Option JobContext} (h : ContextIn x) :
    ContextIn (x.map fun c => c.raise r) := by
  constructor
  · intro c hc
    obtain ⟨d, hd, rfl⟩ := Option.map_eq_some_iff.1 hc
    exact raiseTally_range r (h.1 d hd)
  · intro c hc
    obtain ⟨d, hd, rfl⟩ := Option.map_eq_some_iff.1 hc
    exact h.2 d hd

theorem contextIn_none : ContextIn none := ⟨fun _ => nofun, fun _ => nofun⟩

/-- A context as it begins: no tally, and the shelves of its job. -/
theorem newContext_in {j : JobRecord} (h : ∀ l, (j.lane.get l).shelfMax ≤ 9999) :
    ContextIn (some (newContext j)) := by
  constructor
  · intro c hc r
    cases hc
    cases r <;> exact Nat.zero_le _
  · intro c hc
    cases hc
    exact h

/-- The leads formed from a record that passes its checks are in range (R60, R103). -/
theorem leadAt_le {m : Option MachineRecord} (h : RecordIn m) (v : Nat) :
    knifeLeadAt m v ≤ 16383 ∧ flapLeadAt m v ≤ 16383 := by
  cases m with
  | none => exact ⟨Nat.zero_le _, Nat.zero_le _⟩
  | some m =>
    have := leadMax_le (h m rfl)
    exact ⟨(min_le_left _ _).trans this, (min_le_left _ _).trans this⟩

theorem sampledSpeed_le (t : Trc) : sampledSpeed t ≤ 4095 := by
  unfold sampledSpeed
  dsimp only
  split
  · exact Nat.zero_le _
  · exact min_le_left _ _

/-- A sample leaves the Travel Counter within its ranges (R10, R12, R14). -/
theorem sample_trcIn (m : Option MachineRecord) (t : Trc) (h : TrcIn t) : TrcIn (t.sample m) := by
  have hspeed := sampledSpeed_le t
  have hstand : standstillAfter (sampledSpeed t) t.standstill ≤ 200 := by
    unfold standstillAfter
    split
    · exact riseTo_le _ _
    · exact Nat.zero_le _
  refine ⟨by simpa, by simpa, ?_⟩
  have hd := h.2.2
  cases m with
  | none => exact hd
  | some m =>
    simp only [Trc.sample, Trc.zoneSample]
    repeat' split
    all_goals first | exact Nat.zero_le _ | (dsimp only; omega)

theorem stretchUpdate_range (x m n : Nat) :
    64225 ≤ stretchUpdate x m n ∧ stretchUpdate x m n ≤ 66847 := by
  unfold stretchUpdate
  dsimp only
  split
  · exact ⟨le_rfl, by decide⟩
  · split
    · exact ⟨by decide, le_rfl⟩
    · omega

/-- An unstretched web is within the range of the stretch estimate (R19, R36). -/
theorem unitStretch_in : 64225 ≤ Config.unitStretch ∧ Config.unitStretch ≤ 66847 := by decide

/-- A creation leaves every block within its limits (R29, R49, R50, R90). -/
theorem withRow_bounds (s : State) (c : JobContext) (m : MachineRecord) (q : RowRequest)
    (next : TrackerState) (room : List Row) (hc : s.jbc.current = some c)
    (hroom : roomFor s.rot.track = some room) (h : BlockBounds s) :
    BlockBounds (withRow c m q next room s) := by
  refine h.congr (mkt := fun hk => ?_) (track := fun ht => ?_) (spans := fun hs => ?_)
    (current := fun hj => ?_)
  · obtain ⟨hstretch, hcoast, hstray, hglitch⟩ := hk
    refine ⟨?_, ?_, hstray, hglitch⟩
    · change 64225 ≤ requestStretch c.job q s.mkt ∧ requestStretch c.job q s.mkt ≤ 66847
      unfold requestStretch
      split
      · split
        · exact stretchUpdate_range _ _ _
        · exact hstretch
      · exact hstretch
    · simp only [withRow, State.setMkt_mkt, trackerAfter]
      split
      · exact hcoast
      · exact Nat.zero_le _
      · exact Nat.zero_le _
  · change (room ++ [_]).length ≤ 64
    simp only [List.length_append, List.length_singleton]
    obtain ⟨hlt, rfl⟩ | ⟨hge, rfl⟩ := numbersOf_roomFor hroom
    · omega
    · have := congrArg List.length (numbersOf_retireOldest s.rot.track)
      simp only [numbersOf, List.length_map, List.length_tail] at this
      omega
  · exact (List.length_filter_le _ _).trans hs
  · rw [hc] at hj
    exact ⟨fun d hd => by cases hd; exact hj.1 c rfl, fun d hd => by cases hd; exact hj.2 c rfl⟩

/-- The job of a JOB note in memory, activated or changed to, leaves every block within its limits. -/
theorem withFirstJob_bounds (s : State) (m : MachineRecord) (slot : Nat)
    (hj : jobIndex (readJobRecord s.pxm.memory slot) m = none) (h : BlockBounds s) :
    BlockBounds (withFirstJob (readJobRecord s.pxm.memory slot) s) := by
  have hnew := newContext_in (readJobRecord_shelfMax s.pxm.memory slot)
  refine h.congr (mkt := ?_) (record := ?_) (lead := ?_) (lnd := ?_) (skc := ?_) (current := ?_)
    (previous := ?_) (trc := ?_) (track := ?_) (spans := ?_) (ages := ?_) (rpw := ?_) <;>
    try simp [withFirstJob]
  · exact fun hk => ⟨unitStretch_in, Nat.zero_le _, hk.2.2.1, hk.2.2.2⟩
  · intro hk
    refine setShelfLimits_laneIn _ (by simpa using hnew.2) (by simpa using h.previous.2) fun k => ?_
    refine (hk k).of_targets ?_ ?_ ?_ ?_ <;>
      simp [activationTargets, targetIn_inRange hj k, targetInRange_none]
  · exact fun _ => hnew

theorem withNextJob_bounds (s : State) (m : MachineRecord) (slot : Nat)
    (hj : jobIndex (readJobRecord s.pxm.memory slot) m = none) (h : BlockBounds s) :
    BlockBounds (withNextJob (readJobRecord s.pxm.memory slot) s) := by
  have hnew := newContext_in (readJobRecord_shelfMax s.pxm.memory slot)
  refine h.congr (mkt := ?_) (record := ?_) (lead := ?_) (lnd := ?_) (skc := ?_) (current := ?_)
    (previous := ?_) (trc := ?_) (track := ?_) (spans := ?_) (ages := ?_) (rpw := ?_) <;>
    try simp [withNextJob, setTrack]
  · exact fun hk => ⟨hk.1, Nat.zero_le _, hk.2.2.1, hk.2.2.2⟩
  · simp [retag]
  · intro hk
    refine setShelfLimits_laneIn _ (by simpa using hnew.2) (by simpa using h.current.2) fun k => ?_
    refine (hk k).of_targets ?_ ?_ ?_ ?_ <;>
      simp [changeoverTargets, targetIn_inRange hj k, (hk k).targets.1]
  · exact fun _ => hnew
  · exact fun _ => h.current

/-- The FRONT's departure leaves every block within its limits (R122, R131). -/
theorem departFront_bounds (l : Lane) (s : State) (h : BlockBounds s) :
    BlockBounds (departFront l s) := by
  have htail : BlockBounds (setLine l (s.skc.get l).line.tail s) := by
    refine h.congr (skc := fun hk k => ?_)
    rw [setLine, setLane_get]
    split
    next =>
      have hl := hk l
      refine ⟨?_, fun y hy => hl.extras y (List.mem_of_mem_tail hy), hl.nextId, hl.targets,
        (shelfTotal_tail_le _).trans hl.shelf.1, hl.shelf.2⟩
      have := hl.length
      simp only [List.length_tail]
      omega
    next => exact hk k
  have hlimit : BlockBounds (if shelfTotal (s.skc.get l).line.tail < shelfTotal (s.skc.get l).line
      then setShelfLimit l (setLine l (s.skc.get l).line.tail s)
      else setLine l (s.skc.get l).line.tail s) := by
    split
    · exact htail.congr (skc := setShelfLimit_laneIn _ _ htail.current.2 htail.previous.2)
    · exact htail
  unfold departFront
  dsimp only
  split
  · exact grantTurn_bounds _ _ (grantTurn_bounds _ _ (joinWaiting_bounds _ _ hlimit))
  · exact hlimit

theorem handOver_bounds (l : Lane) (b : Bool) (s : State) (h : BlockBounds s) :
    BlockBounds (handOver l b s) := by
  unfold handOver
  split
  · exact queueRecord_bounds _ _ h
  · exact h

theorem setRunState_bounds (r : RunState) (s : State) (h : BlockBounds s) :
    BlockBounds (setRunState r s) := by
  refine h.congr (lnd := fun hl k => ?_)
  cases r <;> simpa [Lnd.rejectFlap] using hl k

theorem raiseHalting_bounds (e : HaltingFault) (f : Count) (s : State) (h : BlockBounds s) :
    BlockBounds (raiseHalting e f s) := by
  have hflag : ∀ u, BlockBounds u → BlockBounds (flagFault u) := fun _ hu => hu.congr
  unfold raiseHalting
  split
  · exact h
  · exact h
  all_goals
    first
    | exact queueRecord_bounds _ _ (hflag _ (setRunState_bounds _ _ h.congr))
    | exact queueRecord_bounds _ _ (hflag _ h)

/-- The end of the contexts leaves every block within its limits (R128, R151). -/
theorem endContexts_bounds (s : State) (h : BlockBounds s) : BlockBounds (endContexts s) := by
  have hqueue : ∀ x u, BlockBounds u → BlockBounds (queueJobEnd x u) := by
    intro x u hu
    cases x with
    | none => exact hu
    | some c => exact queueRecord_bounds _ u hu
  have hqueued := hqueue s.jbc.current _ (hqueue s.jbc.previous s h)
  refine hqueued.congr (trc := ?_) (mkt := ?_) (record := ?_) (lead := ?_) (lnd := ?_) (track := ?_)
    (spans := ?_) (skc := fun hk k => ?_) (current := ?_) (previous := ?_) (ages := ?_) (rpw := ?_)
  case refine_8 =>
    refine (h.skc k).of_targets ?_ ?_ ?_ ?_ <;> simp [targetInRange_none]
  case refine_9 => exact fun _ => by simpa [endContexts, clearTargets] using contextIn_none
  case refine_10 => exact fun _ => by simpa [endContexts, clearTargets] using contextIn_none
  all_goals exact fun e => by simpa [endContexts, clearTargets] using e

/-- The tracker at IDLE and the stops dropped leave every block within its limits. -/
theorem endedRun_bounds (s : State) (h : BlockBounds s) :
    BlockBounds (trackerToIdle (endContexts (clearStops s))) := by
  have hstops : BlockBounds (clearStops s) := h.congr
  have hended := endContexts_bounds _ hstops
  exact hended.congr (mkt := fun hk => ⟨hk.1, Nat.zero_le _, hk.2.2.1, hk.2.2.2⟩)

/-- A decider changed but for its flap lead and its list. -/
theorem setDecider_bounds {s : State} {l : Lane} {x : Lnd} (h : BlockBounds s)
    (hl : x.flapLead = (s.lnd.get l).flapLead) (ha : x.arrivals.length ≤ 16) :
    BlockBounds (setDecider l x s) := by
  refine h.congr (lnd := fun hk k => ?_)
  rw [setDecider_get]
  split
  · exact ⟨hl ▸ (hk l).1, ha⟩
  · exact hk k

/-- A label passed good leaves every block within its limits: the list had a place for it (R106, R112). -/
theorem passGood_bounds (s u : State) (m : MachineRecord) (l : Lane) (r : Row) (id : Nat)
    (hp : placeFor l r s = some (u, id)) (h : BlockBounds s) : BlockBounds (passGood m l r id u) := by
  obtain ⟨hlen, hallot⟩ := placeFor_cases hp
  have hu : BlockBounds u := by
    have hskc := allot_laneIn hallot h.skc
    obtain ⟨x, rfl⟩ := placeFor_keeps _ _ _ _ _ hp
    exact h.congr (skc := fun _ => hskc)
  have hlnd : u.lnd = s.lnd := by
    obtain ⟨x, rfl⟩ := placeFor_keeps _ _ _ _ _ hp
    rfl
  have hfrozen : BlockBounds (freezeEntry l r.number (.good id) u) :=
    hu.congr (track := by simp [freezeEntry, setTrack, mapRow])
  refine setDecider_bounds hfrozen rfl ?_
  change ((u.lnd.get l).arrivals ++ [_]).length ≤ 16
  rw [hlnd]
  simpa using hlen

/-- A stroke's end leaves the track as long as it was. -/
theorem completeCut_length (c : Cycle) (t : TrailCut) (bad : Bool) (track : List Row) :
    (completeCut c t bad track).length = track.length := by
  simpa [numbersOf] using congrArg List.length (numbersOf_completeCut c t bad track)

theorem stopBegun_bounds (s : State) (h : BlockBounds s) : BlockBounds (stopBegun s) := by
  have hdrain := setRunState_bounds .drain s h
  have hfire : BlockBounds (fireTest false (setRunState .drain s)) := by
    unfold fireTest
    split
    · exact hdrain.congr (track := by simp [fireCut, setTrack, mapRow])
    · exact hdrain
  have hidle : BlockBounds (trackerToIdle (fireTest false (setRunState .drain s))) :=
    hfire.congr (mkt := fun hk => ⟨hk.1, Nat.zero_le _, hk.2.2.1, hk.2.2.2⟩)
  exact hidle.congr

/-- A record written leaves the queue no longer (R179). -/
theorem written_bounds (s : State) (r : Record) (rest : List Record) (age : Option Nat)
    (hq : s.rpw.queue = r :: rest) (h : BlockBounds s) :
    BlockBounds (releaseFor r (s.setRpw (s.rpw.written rest age))) := by
  have hwritten : BlockBounds (s.setRpw (s.rpw.written rest age)) := by
    refine h.congr (rpw := fun hr => ⟨?_, hr.2⟩)
    have := hr.1
    rw [hq] at this
    exact ((List.sublist_cons_self r rest).countP_le).trans this
  unfold releaseFor
  split
  · exact grantTurn_bounds _ _ (grantTurn_bounds _ _ hwritten.congr)
  · exact hwritten

/-- A lane after reset. -/
theorem laneIn_reset : LaneIn SkcLane.reset :=
  ⟨Nat.zero_le _, fun _ => nofun, by decide, ⟨targetInRange_none, targetInRange_none⟩,
    le_rfl, Nat.zero_le _⟩

/-- START leaves every block within its limits: the record it takes is one that passes (R157, R158). -/
theorem startPart_bounds (s : State) (r : MachineRecord) (h : BlockBounds s) :
    BlockBounds (startPart r s) := by
  obtain ⟨hmkt, hrot, hknt, hskc, htka, hjbc, hrpw, hrnc⟩ := startPart_blocks r s
  have hrecord : RecordIn (startPart r s).rnc.record := by
    rw [hrnc]
    intro m hm
    simp only [Rnc.start] at hm
    split at hm
    next h0 => cases hm; exact h0
    next => exact h.record m hm
  constructor
  · rw [startPart_trc]; exact ⟨h.trc.1, h.trc.2.1, Nat.zero_le _⟩
  · rw [hmkt]; exact ⟨unitStretch_in, Nat.zero_le _, Nat.zero_le _, Nat.zero_le _⟩
  · exact hrecord
  · rw [hknt]; exact (leadAt_le hrecord _).1
  · intro l
    rw [startPart_lnd]
    exact ⟨(leadAt_le hrecord _).2, Nat.zero_le _⟩
  · rw [hrot]; exact Nat.zero_le _
  · rw [startPart_ntp]; exact Nat.zero_le _
  · intro l; rw [hskc, Lanes.get_fill]; exact laneIn_reset
  · rw [hjbc]; exact contextIn_none
  · rw [hjbc]; exact contextIn_none
  · rw [htka]
    intro c l a ha
    cases c <;> cases l <;> cases ha
  · rw [hrpw]; exact h.rpw

/-- The resets leave every block within its limits. -/
theorem reset_bounds (t : State) (htrc : TrcIn t.trc) (hmkt : MktIn t.mkt) (hrec : t.rnc.record = none)
    (hknt : t.knt = .reset) (hlnd : t.lnd = Lanes.fill .reset) (hrot : t.rot = .reset)
    (hntp : t.ntp = .reset) (hskc : t.skc = Lanes.fill .reset) (hjbc : t.jbc = .reset)
    (htka : t.tka = .reset) (hrpw : t.rpw = .reset) : BlockBounds t := by
  refine ⟨htrc, hmkt, by rw [hrec]; exact fun _ => nofun, by rw [hknt]; exact Nat.zero_le _, fun l => ?_,
    by rw [hrot]; exact Nat.zero_le _, by rw [hntp]; exact Nat.zero_le _, fun l => ?_,
    by rw [hjbc]; exact contextIn_none, by rw [hjbc]; exact contextIn_none, fun c l a ha => ?_,
    by rw [hrpw]; exact ⟨Nat.zero_le _, Nat.zero_le _⟩⟩
  · rw [hlnd, Lanes.get_fill]; exact ⟨Nat.zero_le _, Nat.zero_le _⟩
  · rw [hskc, Lanes.get_fill]; exact laneIn_reset
  · rw [htka] at ha
    cases c <;> cases l <;> cases ha

theorem mktIn_reset (b : Bool) : MktIn { Mkt.reset with markActive := b } :=
  ⟨unitStretch_in, Nat.zero_le _, Nat.zero_le _, Nat.zero_le _⟩

/-- Every act of the part keeps every block within its limits. -/
theorem blockBounds_kept : KeptByCommands BlockBounds where
  choices s n h := h.congr
  attention s x h := h.congr
  otherRecord s r _ h := queueRecord_bounds r s h
  grantPass s h := grantTurn_bounds _ _ (grantTurn_bounds _ _ h)
  shortClose s k l h := shortClose_bounds k l s h
  closePending s x h := h.congr
  stopDone s l h := h.congr
  freePrevious s c _ h := by
    have hqueued := queueRecord_bounds (jobEndRecord c) s h
    refine h.congr (track := by simp [freePrevious, setTrack, retag])
      (skc := fun hk => ?_) (current := by simp [freePrevious])
      (previous := fun _ => by simpa [freePrevious] using contextIn_none)
      (rpw := fun _ => by simpa [freePrevious, setTrack] using hqueued.rpw)
    refine setShelfLimits_laneIn _ (by simpa using h.current.2) (by simpa using h.previous.2) ?_
    intro k
    refine (hk k).of_targets ?_ ?_ ?_ ?_ <;> simp [(hk k).targets.1, targetInRange_none]
  emptyTrack s h := h.congr (track := by simp [emptyTrack])
    (mkt := by simp [emptyTrack, Mkt.noNewest, MktIn])
  ended s _ _ h := setRunState_bounds _ _ (endedRun_bounds s h)
  changeRow s n f _ h := h.congr (track := by simp [setTrack, mapRow])
  rejectFlap s l h := setDecider_bounds h rfl (h.lnd l).2
  tally s t r h := by
    cases t with
    | current => exact h.congr (current := raise_contextIn r)
    | previous => exact h.congr (previous := raise_contextIn r)
    | ended => exact h
  passGood s u m l r id _ _ hp h := passGood_bounds s u m l r id hp h
  resolve s l b a rest ha h := by
    have hrest : BlockBounds (setArrivals l rest s) := by
      refine setDecider_bounds h rfl ?_
      have := (h.lnd l).2
      simp only [ha, List.length_cons] at this
      exact (Nat.le_succ _).trans this
    exact joinWaiting_bounds _ _ (setLine_bounds hrest (mapStack_sized _ (settled_sized _ _) _))
  markStacks s l q hq h := setLine_bounds h (hq.imp fun _ _ e => e.sized)
  fire s gap r _ h := h.congr (track := by simp [fireCut, setTrack, mapRow])
  halt s e f h := raiseHalting_bounds e f s h
  endStroke s c t bad n _ _ _ h := h.congr (track := fun ht => (completeCut_length c t bad _).symm ▸ ht)
  stallFault s _ h := by
    unfold stallFault
    split
    · exact raiseHalting_bounds _ _ _ h.congr
    · exact h
  reassert s _ h := h.congr
  tracker s k e h := by
    refine h.congr (mkt := fun hk => ?_)
    obtain ⟨-, hstretch, hcoast, hstray, hglitch⟩ := e
    obtain ⟨hs, hc, hy, hg⟩ := hk
    exact ⟨hstretch ▸ hs, by simp only [State.setMkt_mkt]; omega,
      by simp only [State.setMkt_mkt]; omega, by simp only [State.setMkt_mkt]; omega⟩
  travel s x e h := h.congr (trc := fun ht => by
    obtain ⟨hv, hs, hd⟩ := e
    exact ⟨hv ▸ ht.1, hs ▸ ht.2.1, hd ▸ ht.2.2⟩)
  overflow s x h := h.congr
  refused s _ h := h.congr (mkt := fun hk => ⟨hk.1, Nat.zero_le _, hk.2.2.1, hk.2.2.2⟩)
  row s c m q next room hc _ hroom _ h := withRow_bounds s c m q next room hc hroom h
  spans s q g hq h := h.congr (spans := fun hs => hq.elim (fun e => e) (fun e => e.trans hs))
  departed s c l n x b _ _ h := (departFront_bounds l _ (handOver_bounds l b s h)).congr
  recorded s b x h := h.congr
  stopBegun s _ h := stopBegun_bounds s h
  acknowledged s _ _ h := setRunState_bounds _ _ (endedRun_bounds s h).congr
  sampled s h := h.congr (trc := sample_trcIn _ _) (lead := fun _ => (leadAt_le h.record _).1)
    (lnd := fun hl l => by simpa [formLeads] using ⟨(leadAt_le h.record _).2, (hl l).2⟩)
  aged s h := by
    refine h.congr (ages := fun _ c l a ha => ?_)
    have hraise : ∀ w : Lanes (Option Nat), ∀ n ∈ (raiseAges w).get l, n ≤ 7 := by
      intro w n hn
      rw [raiseAges, Lanes.get_map] at hn
      obtain ⟨k, -, rfl⟩ := Option.map_eq_some_iff.1 hn
      exact riseTo_le _ _
    cases c <;> exact hraise _ a ha
  holds s lanes v h := by
    refine h.congr (skc := fun hk k => ?_)
    simp only [setHolds, State.setSkc_skc, Lanes.get_ofFn]
    split
    · exact (hk k).of_targets rfl rfl rfl (hk k).targets
    · exact hk k
  targets s j lanes n h2 h9 h := by
    refine h.congr (skc := fun hk k => ?_)
    simp only [setTargets, State.setSkc_skc, Lanes.get_ofFn]
    split
    · exact (hk k).of_targets rfl rfl rfl
        ⟨fun x hx => by cases hx; exact ⟨h2, h9⟩, (hk k).targets.2⟩
    · exact hk k
  freed s c _ h := h.congr
  firstJob s m slot _ _ hj h := withFirstJob_bounds s m slot hj h
  nextJob s m slot _ _ hj h := withNextJob_bounds s m slot hj h
  blocks s t e h := h.congr (trc := e.trc ▸ id) (mkt := e.mkt ▸ id) (record := e.rnc ▸ id)
    (lead := e.knt ▸ id) (lnd := e.lnd ▸ id) (track := e.rot ▸ id) (spans := e.spans ▸ id)
    (skc := e.skc ▸ id) (current := e.jbc ▸ id) (previous := e.jbc ▸ id) (ages := e.tka ▸ id)
    (rpw := fun hr => ⟨by rw [e.queue]; exact hr.1, by rw [e.dropped]; exact hr.2⟩)
  written s r rest age hq h := written_bounds s r rest age hq h
  started s r h := startPart_bounds s r h
  powerOn s := reset_bounds _ ⟨Nat.zero_le _, Nat.zero_le _, Nat.zero_le _⟩ (mktIn_reset _) rfl rfl
    rfl rfl rfl rfl rfl rfl rfl
  restarted s _ := reset_bounds _ ⟨Nat.zero_le _, Nat.zero_le _, Nat.zero_le _⟩ (mktIn_reset _) rfl rfl
    rfl rfl rfl rfl rfl rfl rfl

/-- Settles O58, block by block: each act that changes a block leaves it within its limits, the allotment by
the shelf limit, the leads and targets by the checks of the records they come from. -/
theorem stepKeepsBoundsInv : Obligations.StepKeepsBoundsInv := by
  intro s t h e
  exact (boundsInv_iff t).2 (blockBounds_kept.step_keeps (fun s q h => h.congr) s t
    ((boundsInv_iff s).1 h) e)

end Sys2Proof.Machine
end

section
/-! Takeaway (R129 to R132, R135): each act keeps the reservations counted, the PUSHING conveyors on their
lanes' FRONTs, and in the waiting sets the lanes with a CLOSED FRONT, and these alone. -/

namespace Sys2Proof.Machine

/-! ### Fronts, counts and joinings -/

/-- A lane whose FRONT is CLOSED waits for its conveyor (R129, R131). -/
def Joined (s : State) (l : Lane) : Prop :=
  ∀ m x, s.rnc.record = some m → frontOf s l = some x → x.state = .closed →
    ((s.tka.waiting.get (m.conveyor l)).get l).isSome = true

theorem takeawayInv_iff (s : State) : TakeawayInv s ↔ ArbiterInv s ∧ ∀ l, Joined s l :=
  ⟨fun h => ⟨h.toArbiterInv, fun l m x => h.joined m l x⟩,
   fun h => { h.1 with joined := fun m l x => h.2 l m x }⟩

/-- What the arbiter holds is in order, and, when `J` asks for it, every lane with a CLOSED FRONT waits: the
two invariants of the arbiter, for the two truth values of `J`. -/
def ArbiterHeld (J : Prop) (s : State) : Prop := ArbiterInv s ∧ (J → ∀ l, Joined s l)

theorem frontClosed_iff (q : List Stack) :
    frontClosed q = true ↔ ∃ x, q.head? = some x ∧ x.state = .closed := by
  cases q <;> simp [frontClosed]

/-- What a line's change keeps of its FRONT: a PUSHING one stays so on its conveyor, a CLOSED one stays
CLOSED, and, but for a lane that is to join, none becomes CLOSED. -/
structure FrontKept (joins : Prop) (q q' : List Stack) : Prop where
  pushing : ∀ x, q.head? = some x → x.state = .pushing →
    ∃ y, q'.head? = some y ∧ y.state = .pushing ∧ y.conveyor = x.conveyor
  closed : ∀ x, q.head? = some x → x.state = .closed → ∃ y, q'.head? = some y ∧ y.state = .closed
  fresh : joins ∨ ∀ y, q'.head? = some y → y.state = .closed → ∃ x, q.head? = some x ∧ x.state = .closed

theorem FrontKept.refl (joins : Prop) (q : List Stack) : FrontKept joins q q :=
  ⟨fun x h e => ⟨x, h, e, rfl⟩, fun x h e => ⟨x, h, e⟩, .inr fun x h e => ⟨x, h, e⟩⟩

/-- A line whose FRONT has changed from one state to another. -/
theorem FrontKept.of_head {joins : Prop} {q q' : List Stack} {x y : Stack} (hq : q.head? = some x)
    (hq' : q'.head? = some y)
    (hp : x.state = .pushing → y.state = .pushing ∧ y.conveyor = x.conveyor)
    (hc : x.state = .closed → y.state = .closed)
    (hf : joins ∨ (y.state = .closed → x.state = .closed)) : FrontKept joins q q' := by
  refine ⟨fun z hz e => ?_, fun z hz e => ?_, hf.imp_right fun hf z hz e => ?_⟩
  · cases hq.symm.trans hz
    exact ⟨y, hq', (hp e).1, (hp e).2⟩
  · cases hq.symm.trans hz
    exact ⟨y, hq', hc e⟩
  · cases hq'.symm.trans hz
    exact ⟨x, hq, hf e⟩

/-- A line of stacks that keep their states and conveyors. -/
theorem FrontKept.of_forall₂ {joins : Prop} {R : Stack → Stack → Prop}
    (hR : ∀ x y, R x y → y.state = x.state ∧ y.conveyor = x.conveyor) {q q' : List Stack}
    (h : List.Forall₂ R q q') : FrontKept joins q q' := by
  cases h with
  | nil => exact .refl _ _
  | cons hx _ =>
    obtain ⟨hs, hc⟩ := hR _ _ hx
    exact .of_head rfl rfl (fun e => ⟨hs.trans e, hc⟩) (fun e => hs.trans e)
      (.inr fun e => hs.symm.trans e)

/-- The stacks PUSHING, conveyor by conveyor. -/
theorem pushingCount_set (t : Tka) (c : Conveyor) (x : ConveyorState) :
    pushingCount { t with conveyors := t.conveyors.set c x } + (t.conveyors.get c).isPushing.toNat =
      pushingCount t + x.isPushing.toNat := by
  unfold pushingCount
  cases c <;> simp only [Conveyors.set, Conveyors.get] <;> omega

/-- A record that joins the queue, counted among its STACK records. -/
theorem stackRecords_queueRecord (r : Record) (s : State) :
    stackRecords (queueRecord r s).rpw.queue =
      stackRecords s.rpw.queue + r.isStack.toNat := by
  unfold queueRecord
  split
  · simp [stackRecords, List.countP_append, List.countP_singleton]
    cases r.isStack <;> rfl
  next h =>
    simp only [Bool.or_eq_true, not_or, Bool.not_eq_true] at h
    simp [h.1, stackRecords]

/-! ### The invariant of what stands -/

/-- The invariant of a state whose arbiter stands, with as many STACK records, the record in use, and every
FRONT kept; a lane that is to join may have a FRONT newly CLOSED. -/
theorem ArbiterHeld.congr {J : Prop} {s t : State} (h : ArbiterHeld J s)
    (htka : t.tka = s.tka := by simp)
    (hrec : stackRecords t.rpw.queue = stackRecords s.rpw.queue := by simp)
    (hm : t.rnc.record = s.rnc.record := by simp)
    (hfront : ∀ l, FrontKept False (s.skc.get l).line (t.skc.get l).line := by
      intro l; simpa using FrontKept.refl _ _) : ArbiterHeld J t := by
  obtain ⟨ha, hj⟩ := h
  refine ⟨⟨by rw [htka, hrec]; exact ha.count, by rw [htka]; exact ha.atMost, ?_, ?_⟩, ?_⟩
  · intro c l n e
    rw [htka] at e
    obtain ⟨x, hx, hp, hc⟩ := ha.pushing c l n e
    obtain ⟨y, hy, hyp, hyc⟩ := (hfront l).pushing x hx hp
    exact ⟨y, hy, hyp, hyc.trans hc⟩
  · intro c l e
    rw [htka] at e
    obtain ⟨⟨x, hx, hc⟩, hr⟩ := ha.waiting c l e
    obtain ⟨y, hy, hyc⟩ := (hfront l).closed x hx hc
    exact ⟨⟨y, hy, hyc⟩, by rw [hm]; exact hr⟩
  · intro hJ l m y hrm hy hyc
    rw [htka]
    obtain hf | hf := (hfront l).fresh
    · exact hf.elim
    · obtain ⟨x, hx, hxc⟩ := hf y hy hyc
      exact hj hJ l m x (hm ▸ hrm) hx hxc

/-- One lane's line changed, and the lane then joins when its FRONT is CLOSED (R129). -/
theorem ArbiterHeld.join {J : Prop} {u : State} {l : Lane} (h : ArbiterInv u)
    (hj : J → ∀ k, k ≠ l → Joined u k) : ArbiterHeld J (joinWaiting l u) := by
  obtain e | ⟨m, hm, hfront, hnone, e⟩ := joinWaiting_cases l u
  · rw [e]
    refine ⟨h, fun hJ k => ?_⟩
    by_cases hk : k = l
    · subst hk
      intro m x hm hx hc
      by_contra hw
      have hclosed : frontClosed (u.skc.get k).line = true := (frontClosed_iff _).2 ⟨x, hx, hc⟩
      have hwait : (u.tka.waiting.get (m.conveyor k)).get k = none := by simpa using hw
      have := congrArg (fun v : State => (v.tka.waiting.get (m.conveyor k)).get k) e
      simp [joinWaiting, hm, hclosed, hwait, setWaiting] at this
    · exact hj hJ k hk
  · rw [e]
    have hwaiting : ∀ c k, (((setWaiting (m.conveyor l)
        ((u.tka.waiting.get (m.conveyor l)).set l (some 0)) u).tka.waiting.get c).get k).isSome =
        if c = m.conveyor l ∧ k = l then true else ((u.tka.waiting.get c).get k).isSome := by
      intro c k
      by_cases hc : c = m.conveyor l <;> by_cases hk : k = l <;>
        simp [setWaiting, Conveyors.get_set, Lanes.get_set, hc, hk]
    refine ⟨⟨h.count, h.atMost, h.pushing, fun c k hw => ?_⟩, fun hJ k => ?_⟩
    · rw [hwaiting] at hw
      split at hw
      next hck =>
        obtain ⟨rfl, rfl⟩ := hck
        exact ⟨(frontClosed_iff _).1 hfront, m, hm, rfl⟩
      next => exact h.waiting c k hw
    · intro m' x hm' hx hc
      cases hm.symm.trans hm'
      rw [hwaiting]
      split
      · rfl
      next hck =>
        by_cases hk : k = l
        · exact absurd ⟨by rw [hk], hk⟩ hck
        · exact hj hJ k hk m x hm' hx hc

/-- One lane's line changed so that its FRONT is kept, the lane then joining when its FRONT is CLOSED. -/
theorem ArbiterHeld.setLine_join {J : Prop} {s : State} {l : Lane} {q : List Stack}
    (h : ArbiterHeld J s) (hq : FrontKept True (s.skc.get l).line q) :
    ArbiterHeld J (joinWaiting l (setLine l q s)) := by
  obtain ⟨ha, hj⟩ := h
  have hline : ∀ k, frontOf (setLine l q s) k = if k = l then q.head? else frontOf s k := by
    intro k
    rw [frontOf, setLine_line]
    split <;> rfl
  refine ArbiterHeld.join ⟨ha.count, ha.atMost, ?_, ?_⟩ ?_
  · intro c k n e
    obtain ⟨x, hx, hp, hc⟩ := ha.pushing c k n e
    rw [hline]
    split
    next hk =>
      subst hk
      obtain ⟨y, hy, hyp, hyc⟩ := hq.pushing x hx hp
      exact ⟨y, hy, hyp, hyc.trans hc⟩
    next => exact ⟨x, hx, hp, hc⟩
  · intro c k e
    obtain ⟨⟨x, hx, hc⟩, hr⟩ := ha.waiting c k e
    refine ⟨?_, hr⟩
    rw [hline]
    split
    next hk =>
      subst hk
      exact hq.closed x hx hc
    next => exact ⟨x, hx, hc⟩
  · intro hJ k hk m x hm hx hc
    rw [hline, if_neg hk] at hx
    exact hj hJ k m x hm hx hc

/-! ### The acts -/

theorem queueRecord_arbiter {J : Prop} (s : State) (r : Record) (hr : r.isStack = false)
    (h : ArbiterHeld J s) : ArbiterHeld J (queueRecord r s) :=
  h.congr (hrec := by simp [stackRecords_queueRecord, hr])

/-- A grant takes a lane from the waiting set, whose CLOSED FRONT is then PUSHING with a reservation of its
own (R130, R135). -/
theorem grantTurn_arbiter {J : Prop} (c : Conveyor) (s : State) (h : ArbiterHeld J s) :
    ArbiterHeld J (grantTurn c s) := by
  obtain e | ⟨m, l, hm, hfree, hlt, hwin, e⟩ := grantTurn_cases c s
  · rwa [e]
  rw [e]
  obtain ⟨ha, hj⟩ := h
  obtain ⟨⟨x, hx, hclosed⟩, m', hm', hconv⟩ := ha.waiting c l (winner_waits hwin)
  cases hm.symm.trans hm'
  have hfront : ∀ k, frontOf (grant m c l s) k =
      if k = l then some { x with state := .pushing, conveyor := some c } else frontOf s k := by
    intro k
    rw [frontOf, grant_line]
    split
    · obtain ⟨rest, hrest⟩ := List.head?_eq_some_iff.1 hx
      simp [hrest, pushFront]
    · rfl
  have hcount : pushingCount (grant m c l s).tka = pushingCount s.tka + 1 := by
    have := pushingCount_set s.tka c (.pushing l (m.conveyorTimeout * 100))
    rw [hfree] at this
    rw [grant_tka]
    simpa [pushingCount, ConveyorState.isPushing] using this
  have hother : ∀ d k, ((grant m c l s).tka.waiting.get d).get k =
      if d = c ∧ k = l then none else (s.tka.waiting.get d).get k := by
    intro d k
    rw [grant_tka]
    by_cases hd : d = c <;> by_cases hk : k = l <;>
      simp [Conveyors.get_set, Lanes.get_set, hd, hk]
  refine ⟨⟨?_, ?_, ?_, ?_⟩, ?_⟩
  · rw [hcount, grant_tka]
    have := ha.count
    simp only [grant_keeps]
    omega
  · rw [grant_tka]
    exact hlt
  · intro d k n hd
    rw [hfront]
    rw [grant_tka] at hd
    simp only [Conveyors.get_set] at hd
    split at hd
    next hdc =>
      cases hd
      exact ⟨_, if_pos rfl, rfl, by rw [hdc]⟩
    next =>
      obtain ⟨y, hy, hp, hyc⟩ := ha.pushing d k n hd
      refine ⟨y, ?_, hp, hyc⟩
      split
      next hk =>
        subst hk
        cases hx.symm.trans hy
        simp [hclosed] at hp
      next => exact hy
  · intro d k hw
    rw [hother] at hw
    split at hw
    · simp at hw
    next hdk =>
      obtain ⟨⟨y, hy, hyc⟩, m', hm', hd⟩ := ha.waiting d k hw
      refine ⟨⟨y, ?_, hyc⟩, m', by simpa using hm', hd⟩
      rw [hfront]
      split
      next hk =>
        subst hk
        cases hm.symm.trans hm'
        exact absurd ⟨hd.symm.trans hconv, rfl⟩ hdk
      next => exact hy
  · intro hJ k m' y hm' hy hyc
    rw [hfront] at hy
    split at hy
    · cases hy
      cases hyc
    next hk =>
      rw [hother, if_neg (fun e => hk e.2)]
      exact hj hJ k m' y (by simpa using hm') hy hyc

theorem grantPass_arbiter {J : Prop} (s : State) (h : ArbiterHeld J s) :
    ArbiterHeld J (grantPass s) := grantTurn_arbiter _ _ (grantTurn_arbiter _ _ h)

/-- A line whose last stack has changed keeps its FRONT, when that stack was FILLING. -/
theorem frontKept_last {joins : Prop} {q : List Stack} {x y : Stack} (hx : q.getLast? = some x)
    (hf : x.state = .filling) (hy : joins ∨ y.state ≠ .closed) :
    FrontKept joins q (q.dropLast ++ [y]) := by
  have hq := List.dropLast_append_getLast? x hx
  cases hd : q.dropLast with
  | nil =>
    rw [hd] at hq
    subst hq
    exact .of_head rfl rfl (by simp [hf]) (by simp [hf]) (hy.imp_right fun e h => absurd h e)
  | cons z p =>
    rw [hd] at hq
    subst hq
    exact .of_head rfl rfl (fun e => ⟨e, rfl⟩) (fun e => e) (.inr fun e => e)

theorem shortClose_arbiter {J : Prop} (k : CloseKind) (l : Lane) (s : State) (h : ArbiterHeld J s) :
    ArbiterHeld J (shortClose k l s) := by
  obtain e | ⟨x, hx, hf, e⟩ := shortClose_cases k l s
  · rwa [e]
  · rw [e]
    exact h.setLine_join (frontKept_last hx hf (.inl trivial))

/-- A resolution keeps a FRONT that is PUSHING or CLOSED, and the lane joins when it becomes CLOSED (R121,
R129). -/
theorem resolve_arbiter {J : Prop} (s : State) (l : Lane) (id : Nat) (b : Bool)
    (h : ArbiterHeld J s) : ArbiterHeld J (resolve l id b s) := by
  refine h.setLine_join ?_
  have hkept : ∀ (left : Nat) (x : Stack),
      ((settleStack left (countArrival b x)).state = x.state ∨
        (x.state = .completing ∧ (settleStack left (countArrival b x)).state = .closed)) ∧
      (settleStack left (countArrival b x)).conveyor = x.conveyor := by
    intro left x
    have hcount : (countArrival b x).state = x.state ∧ (countArrival b x).conveyor = x.conveyor := by
      cases b <;> exact ⟨rfl, rfl⟩
    unfold settleStack
    split
    next hs =>
      simp only [hcount.1, Bool.and_eq_true, decide_eq_true_eq] at hs
      exact ⟨.inr ⟨hs.1, rfl⟩, hcount.2⟩
    next => exact ⟨.inl hcount.1, hcount.2⟩
  cases hq : (s.skc.get l).line with
  | nil => exact .refl _ _
  | cons x q =>
    by_cases hid : x.id = id
    · have hhead := hkept (outstanding l id s) x
      refine .of_head (y := settleStack (outstanding l id s) (countArrival b x)) rfl
        (by simp only [mapStack, List.map_cons, if_pos hid, List.head?_cons]) ?_ ?_
        (.inl trivial)
      · intro e
        rw [e] at hhead
        exact ⟨by simpa using hhead.1, hhead.2⟩
      · intro e
        rw [e] at hhead
        simpa using hhead.1
    · exact .of_head rfl (by simp only [mapStack, List.map_cons, if_neg hid, List.head?_cons])
        (fun e => ⟨e, rfl⟩) (fun e => e) (.inl trivial)

/-- A label allotted closes no stack (R123, R124). -/
theorem allotTo_state (n : RowNum) (f : Count) (x : Stack) :
    (allotTo n f x).state = x.state ∨ (allotTo n f x).state = .completing := by
  unfold allotTo
  dsimp only
  split
  · exact .inr rfl
  · exact .inl rfl

theorem allot_frontKept {l : Lane} {r : Row} {s u : State} {id : Nat}
    (h : allot l r s = some (u, id)) (k : Lane) :
    FrontKept False (s.skc.get k).line (u.skc.get k).line := by
  have hopen : ∀ x : Stack, x.state = .filling → ∀ n f, (allotTo n f x).state ≠ .closed := by
    intro x hx n f
    obtain e | e := allotTo_state n f x <;> simp [e, hx]
  obtain ⟨x, hx⟩ | ⟨t, ht⟩ := allot_cases h
  · rw [hx.state, setLine_line]
    split
    next hk =>
      subst hk
      exact frontKept_last hx.last hx.filling (.inr (hopen x hx.filling _ _))
    next => exact .refl _ _
  · rw [ht.state, setLane_get]
    split
    next hk =>
      subst hk
      cases hq : (s.skc.get k).line with
      | nil =>
        have := hopen (newStack (s.skc.get k).nextId r.jobId t r.number) rfl r.number s.trc.front
        exact ⟨fun _ => nofun, fun _ => nofun, .inr fun y hy e => by
          simp only [List.nil_append, List.head?_cons, Option.some.injEq] at hy
          exact absurd (hy ▸ e) this⟩
      | cons x q =>
        exact .of_head rfl rfl (fun e => ⟨e, rfl⟩) (fun e => e) (.inr fun e => e)
    next => exact .refl _ _

/-- The other conveyor. -/
def otherConveyor : Conveyor → Conveyor
  | .c0 => .c1
  | .c1 => .c0

/-- A conveyor's turn does not look at the other one. -/
theorem setConveyor_grantTurn {c d : Conveyor} (hcd : c ≠ d) (x : ConveyorState) (s : State) :
    setConveyor c x (grantTurn d s) = grantTurn d (setConveyor c x s) := by
  have hget : (setConveyor c x s).tka.conveyors.get d = s.tka.conveyors.get d :=
    Conveyors.get_set_ne _ _ (Ne.symm hcd)
  have hset : ∀ (w : Conveyors ConveyorState) (y : ConveyorState),
      (w.set d y).set c x = (w.set c x).set d y := by
    intro w y
    cases c <;> cases d <;> first | rfl | exact absurd rfl hcd
  have hgrant : ∀ m l, setConveyor c x (grant m d l s) = grant m d l (setConveyor c x s) := by
    intro m l
    simp only [grant, setConveyor, setWaiting, setLine, setLane, State.setTka, State.setSkc, hset]
  have hres : (setConveyor c x s).tka.reservations = s.tka.reservations := rfl
  have hwait : (setConveyor c x s).tka.waiting = s.tka.waiting := rfl
  have hrec : (setConveyor c x s).rnc.record = s.rnc.record := rfl
  unfold grantTurn
  rw [hget, hres, hwait, hrec]
  cases s.rnc.record with
  | none => rfl
  | some m =>
    cases s.tka.conveyors.get d with
    | pushing l n => rfl
    | out => rfl
    | available =>
      by_cases hlt : s.tka.reservations < Config.reservationCapacity
      · simp only [hlt, if_true]
        cases winner m (s.tka.waiting.get d) with
        | none => rfl
        | some l => exact hgrant m l
      · simp only [hlt, if_false]

/-- A grant pass with one conveyor PUSHING is the other one's turn. -/
theorem setConveyor_grantPass {c : Conveyor} {s : State} (h : s.tka.conveyors.get c ≠ .available)
    (x : ConveyorState) :
    setConveyor c x (grantPass s) = grantTurn (otherConveyor c) (setConveyor c x s) := by
  have hbusy : ∀ u : State, u.tka.conveyors.get c ≠ .available → grantTurn c u = u := by
    intro u hu
    obtain e | ⟨_, _, _, hfree, _⟩ := grantTurn_cases c u
    · exact e
    · exact absurd hfree hu
  unfold grantPass
  cases c with
  | c0 => rw [hbusy s h, setConveyor_grantTurn (by decide)]; rfl
  | c1 =>
    rw [hbusy (grantTurn .c0 s) (by rw [grantTurn_busy _ _ _ h]; exact h),
      setConveyor_grantTurn (by decide)]
    rfl

theorem setConveyor_joinWaiting (c : Conveyor) (x : ConveyorState) (l : Lane) (s : State) :
    setConveyor c x (joinWaiting l s) = joinWaiting l (setConveyor c x s) := by
  have hwait : (setConveyor c x s).tka.waiting = s.tka.waiting := rfl
  have hskc : (setConveyor c x s).skc = s.skc := rfl
  have hrec : (setConveyor c x s).rnc.record = s.rnc.record := rfl
  unfold joinWaiting
  rw [hwait, hskc, hrec]
  cases s.rnc.record with
  | none => rfl
  | some m =>
    dsimp only
    rw [apply_ite (setConveyor c x)]
    rfl

/-- The FRONT of a lane that a conveyor is PUSHING, gone from its line, its STACK record queued, its
conveyor no longer PUSHING, before the lane may join (R131, R136, R137). -/
def frontGone (c : Conveyor) (x : ConveyorState) (l : Lane) (b : Bool) (s : State) : State :=
  let s1 := handOver l b s
  let line := (s1.skc.get l).line
  setConveyor c x (if shelfTotal line.tail < shelfTotal line
    then setShelfLimit l (setLine l line.tail s1) else setLine l line.tail s1)

/-- A departure is the FRONT's going, and then the joining of the lane whose new FRONT is CLOSED, with the
other conveyor's turn (R129, R131). -/
theorem departed_eq {c : Conveyor} {l : Lane} {n : Nat} {s : State}
    (hc : s.tka.conveyors.get c = .pushing l n) (x : ConveyorState) (b : Bool) :
    setConveyor c x (departFront l (handOver l b s)) =
      if frontClosed (s.skc.get l).line.tail
      then grantTurn (otherConveyor c) (joinWaiting l (frontGone c x l b s))
      else frontGone c x l b s := by
  have hline : ((handOver l b s).skc.get l).line = (s.skc.get l).line := by
    unfold handOver
    split <;> simp
  have htka : (handOver l b s).tka = s.tka := by
    unfold handOver
    split <;> simp
  unfold departFront frontGone
  dsimp only
  rw [hline]
  split
  · rw [setConveyor_grantPass, setConveyor_joinWaiting]
    split <;> simp [htka, hc]
  · rfl

/-- What the going of the FRONT leaves: the rest of its line, the other lines, and one more STACK record
for one PUSHING conveyor less (R131, R136, R137). -/
theorem frontGone_leaves {J : Prop} {c : Conveyor} {l : Lane} {n : Nat} {s : State}
    {x : ConveyorState} (hc : s.tka.conveyors.get c = .pushing l n) (hx : x.isPushing = false)
    (b : Bool) (h : ArbiterHeld J s) :
    (∀ k, ((frontGone c x l b s).skc.get k).line =
      if k = l then (s.skc.get l).line.tail else (s.skc.get k).line) ∧
    ArbiterInv (frontGone c x l b s) ∧
    (J → ∀ k, k ≠ l → Joined (frontGone c x l b s) k) := by
  obtain ⟨ha, hj⟩ := h
  obtain ⟨y, hy, hyp, hyc⟩ := ha.pushing c l n hc
  obtain ⟨rest, hrest⟩ := List.head?_eq_some_iff.1 hy
  have hhand : handOver l b s = queueRecord (.stack l y b) s := by
    unfold handOver
    rw [hrest]
  have hline : ∀ k, ((frontGone c x l b s).skc.get k).line =
      if k = l then (s.skc.get l).line.tail else (s.skc.get k).line := by
    intro k
    unfold frontGone
    dsimp only
    rw [hhand]
    split <;> simp [setConveyor, setLine_line]
  have htka : (frontGone c x l b s).tka =
      { s.tka with conveyors := s.tka.conveyors.set c x } := by
    unfold frontGone
    dsimp only
    rw [hhand]
    split <;> simp [setConveyor]
  have hrecords : stackRecords (frontGone c x l b s).rpw.queue = stackRecords s.rpw.queue + 1 := by
    have : (frontGone c x l b s).rpw = (queueRecord (.stack l y b) s).rpw := by
      unfold frontGone
      dsimp only
      rw [hhand]
      split <;> simp [setConveyor]
    rw [this, stackRecords_queueRecord]
    rfl
  have hrecord : (frontGone c x l b s).rnc = s.rnc := by
    unfold frontGone
    dsimp only
    rw [hhand]
    split <;> simp [setConveyor]
  have hfront : ∀ k, k ≠ l → frontOf (frontGone c x l b s) k = frontOf s k := by
    intro k hk
    rw [frontOf, hline, if_neg hk]
    rfl
  refine ⟨hline, ⟨?_, ?_, ?_, ?_⟩, ?_⟩
  · have := pushingCount_set s.tka c x
    rw [hc, hx] at this
    rw [hrecords, htka]
    have := ha.count
    simp only [ConveyorState.isPushing, Bool.toNat_true, Bool.toNat_false] at *
    omega
  · rw [htka]; exact ha.atMost
  · intro d k m hd
    rw [htka] at hd
    simp only [Conveyors.get_set] at hd
    split at hd
    next =>
      rw [hd] at hx
      cases hx
    next hdc =>
      obtain ⟨z, hz, hzp, hzc⟩ := ha.pushing d k m hd
      refine ⟨z, ?_, hzp, hzc⟩
      rw [hfront k, hz]
      rintro rfl
      cases hy.symm.trans hz
      cases hyc.symm.trans hzc
      exact hdc rfl
  · intro d k hw
    rw [htka] at hw
    obtain ⟨⟨z, hz, hzc⟩, hm⟩ := ha.waiting d k hw
    refine ⟨⟨z, ?_, hzc⟩, by rw [hrecord]; exact hm⟩
    rw [hfront k, hz]
    rintro rfl
    cases hy.symm.trans hz
    simp [hyp] at hzc
  · intro hJ k hk m z hm hz hzc
    rw [hfront k hk] at hz
    rw [htka]
    exact hj hJ k m z (by rw [← hrecord]; exact hm) hz hzc

theorem departed_arbiter {J : Prop} {c : Conveyor} {l : Lane} {n : Nat} {s : State}
    {x : ConveyorState} (hc : s.tka.conveyors.get c = .pushing l n) (hx : x.isPushing = false)
    (b : Bool) (h : ArbiterHeld J s) :
    ArbiterHeld J (setConveyor c x (departFront l (handOver l b s))) := by
  obtain ⟨hline, ha, hj⟩ := frontGone_leaves hc hx b h
  rw [departed_eq hc]
  split
  · exact grantTurn_arbiter _ _ (ArbiterHeld.join ha hj)
  next hclosed =>
    refine ⟨ha, fun hJ k => ?_⟩
    by_cases hk : k = l
    · subst hk
      intro m z _ hz hzc
      refine absurd ((frontClosed_iff _).2 ⟨z, ?_, hzc⟩) hclosed
      simpa [frontOf, hline] using hz
    · exact hj hJ k hk

/-- A STACK record gone from the queue with its reservation given back (R130). -/
theorem released_arbiter {J : Prop} {s : State} {r : Record} {rest : List Record} {x : Rpw}
    (hq : s.rpw.queue = r :: rest) (hr : r.isStack = true) (hx : x.queue = rest)
    (h : ArbiterHeld J s) :
    ArbiterHeld J ((s.setRpw x).setTka { s.tka with reservations := s.tka.reservations - 1 }) := by
  obtain ⟨ha, hj⟩ := h
  refine ⟨⟨?_, (Nat.sub_le _ _).trans ha.atMost, ha.pushing, ha.waiting⟩, hj⟩
  have hcount := ha.count
  rw [hq, stackRecords, List.countP_cons_of_pos hr] at hcount
  change s.tka.reservations - 1 = pushingCount s.tka + stackRecords x.queue
  rw [hcount, hx]
  rfl

/-- A written STACK record gives its reservation back, with a grant pass (R130, R179). -/
theorem written_arbiter {J : Prop} (s : State) (r : Record) (rest : List Record)
    (age : Option Nat) (hq : s.rpw.queue = r :: rest) (h : ArbiterHeld J s) :
    ArbiterHeld J (releaseFor r (s.setRpw (s.rpw.written rest age))) := by
  unfold releaseFor
  split
  next hr => exact grantPass_arbiter _ (released_arbiter hq hr rfl h)
  next hr => exact h.congr (hrec := by rw [hq]; simp [stackRecords, hr, Rpw.written])

/-- No conveyor PUSHING and no lane waiting: the arbiter after START and the resets. -/
theorem arbiterHeld_of_idle {J : Prop} {t : State}
    (hconv : ∀ c, t.tka.conveyors.get c = .available)
    (hwait : ∀ c l, (t.tka.waiting.get c).get l = none) (hline : ∀ l, (t.skc.get l).line = [])
    (hcount : t.tka.reservations = stackRecords t.rpw.queue) (hle : t.tka.reservations ≤ 12) :
    ArbiterHeld J t := by
  refine ⟨⟨?_, hle, ?_, ?_⟩, ?_⟩
  · have h0 := hconv .c0
    have h1 := hconv .c1
    simp only [Conveyors.get] at h0 h1
    simp [pushingCount, h0, h1, ConveyorState.isPushing, hcount]
  · intro c l n hc
    rw [hconv] at hc
    cases hc
  · intro c l hw
    rw [hwait] at hw
    cases hw
  · intro _ l m x _ hx
    rw [frontOf, hline] at hx
    cases hx

theorem setRunState_arbiter {J : Prop} (r : RunState) (s : State) (h : ArbiterHeld J s) :
    ArbiterHeld J (setRunState r s) := h.congr

theorem raiseHalting_arbiter {J : Prop} (e : HaltingFault) (f : Count) (s : State)
    (h : ArbiterHeld J s) : ArbiterHeld J (raiseHalting e f s) := by
  have hflag : ∀ u, ArbiterHeld J u → ArbiterHeld J (flagFault u) := fun _ hu => hu.congr
  unfold raiseHalting
  split
  · exact h
  · exact h
  all_goals
    first
    | exact queueRecord_arbiter _ _ rfl (hflag _ (setRunState_arbiter _ _ h.congr))
    | exact queueRecord_arbiter _ _ rfl (hflag _ h)

theorem queueJobEnd_arbiter {J : Prop} (x : Option JobContext) (s : State)
    (h : ArbiterHeld J s) : ArbiterHeld J (queueJobEnd x s) := by
  cases x with
  | none => exact h
  | some c => exact queueRecord_arbiter s _ rfl h

theorem endedRun_arbiter {J : Prop} (s : State) (h : ArbiterHeld J s) :
    ArbiterHeld J (trackerToIdle (endContexts (clearStops s))) := by
  have hstops : ArbiterHeld J (clearStops s) := h.congr
  have hqueued := queueJobEnd_arbiter s.jbc.current _ (queueJobEnd_arbiter s.jbc.previous _ hstops)
  exact hqueued.congr (htka := by rfl) (hrec := by rfl) (hm := by rfl) (hfront := fun l => by
    simpa [trackerToIdle, endContexts, clearTargets] using .refl _ _)

/-- Every act of the part keeps the arbiter in order. -/
theorem arbiterHeld_kept (J : Prop) : KeptByCommands (ArbiterHeld J) where
  choices s n h := h.congr
  attention s x h := h.congr
  otherRecord s r hr h := queueRecord_arbiter s r hr h
  grantPass s h := grantPass_arbiter s h
  shortClose s k l h := shortClose_arbiter k l s h
  closePending s x h := h.congr
  stopDone s l h := h.congr
  freePrevious s c _ h := by
    have hqueued := queueRecord_arbiter s (jobEndRecord c) rfl h
    exact hqueued.congr (hrec := by simp [freePrevious, setTrack])
      (hfront := fun l => by simpa [freePrevious, setTrack] using .refl _ _)
  emptyTrack s h := h.congr
  ended s _ _ h := setRunState_arbiter _ _ (endedRun_arbiter s h)
  changeRow s n f _ h := h.congr
  rejectFlap s l h := h.congr
  tally s t r h := h.congr
  passGood s u m l r id _ _ hp h := by
    have hkept := allot_frontKept (placeFor_cases hp).2
    obtain ⟨x, rfl⟩ := placeFor_keeps _ _ _ _ _ hp
    exact h.congr (htka := rfl) (hrec := rfl) (hm := rfl) (hfront := hkept)
  resolve s l b a rest _ h := by
    have hrest : ArbiterHeld J (setArrivals l rest s) := h.congr
    exact resolve_arbiter _ l _ b hrest
  markStacks s l q hq h := by
    refine h.congr (hfront := fun k => ?_)
    rw [setLine_line]
    split
    next hk =>
      subst hk
      exact .of_forall₂ (fun x y e => by obtain ⟨⟨_, _, _, rfl⟩, -, -⟩ := e; exact ⟨rfl, rfl⟩) hq
    next => exact .refl _ _
  fire s gap r _ h := h.congr
  halt s e f h := raiseHalting_arbiter e f s h
  endStroke s c t bad n _ _ _ h := h.congr (htka := rfl) (hrec := rfl) (hm := rfl)
    (hfront := fun _ => .refl _ _)
  stallFault s _ h := by
    unfold stallFault
    split
    · exact raiseHalting_arbiter _ _ _ h.congr
    · exact h
  reassert s _ h := h.congr
  tracker s k _ h := h.congr
  travel s x _ h := h.congr
  overflow s x h := h.congr
  refused s _ h := h.congr
  row s c m q next room _ _ _ _ h := h.congr (htka := rfl) (hrec := rfl) (hm := rfl)
    (hfront := fun _ => .refl _ _)
  spans s q g _ h := h.congr
  departed s c l n x b hc hx h := departed_arbiter hc hx b h
  recorded s b x h := h.congr
  stopBegun s _ h := h.congr (htka := by simp [stopBegun]) (hrec := by simp [stopBegun])
    (hm := by simp [stopBegun]) (hfront := fun l => by simpa [stopBegun] using .refl _ _)
  acknowledged s _ _ h := by
    have hended := endedRun_arbiter s h
    have hcleared : ArbiterHeld J (faultCleared (trackerToIdle (endContexts (clearStops s)))) :=
      hended.congr (htka := rfl) (hrec := rfl) (hm := rfl) (hfront := fun _ => .refl _ _)
    exact setRunState_arbiter _ _ hcleared
  sampled s h := h.congr
  aged s h := by
    obtain ⟨ha, hj⟩ := h
    have haged : ∀ c l, (((⟨raiseAges s.tka.waiting.c0, raiseAges s.tka.waiting.c1⟩ :
        Conveyors (Lanes (Option Nat))).get c).get l).isSome =
        ((s.tka.waiting.get c).get l).isSome := by
      intro c l
      cases c <;> simp [Conveyors.get, raiseAges]
    refine ⟨⟨ha.count, ha.atMost, ha.pushing, fun c l hw => ?_⟩, fun hJ l m x hm hx hc => ?_⟩
    · exact ha.waiting c l (by rw [← haged]; exact hw)
    · exact (haged _ l).trans (hj hJ l m x hm hx hc)
  holds s lanes v h := h.congr (htka := rfl) (hrec := rfl) (hm := rfl) (hfront := fun l => by
    simp only [setHolds, State.setSkc_skc, Lanes.get_ofFn]
    split <;> exact .refl _ _)
  targets s j lanes n _ _ h := h.congr (htka := rfl) (hrec := rfl) (hm := rfl) (hfront := fun l => by
    simp only [setTargets, State.setSkc_skc, Lanes.get_ofFn]
    split <;> exact .refl _ _)
  freed s c hc h := by
    obtain ⟨ha, hj⟩ := h
    refine ⟨⟨?_, ha.atMost, fun d l n hd => ?_, ha.waiting⟩, hj⟩
    · have := pushingCount_set s.tka c .available
      rw [hc] at this
      have hcount := ha.count
      simp only [ConveyorState.isPushing, Bool.toNat_false, Nat.add_zero] at this
      exact this.symm ▸ hcount
    · simp only [setConveyor, State.setTka_tka, Conveyors.get_set] at hd
      split at hd
      · cases hd
      · exact ha.pushing d l n hd
  firstJob s m slot _ _ _ h := h.congr (htka := by simp [withFirstJob]) (hrec := by simp [withFirstJob])
    (hm := by simp [withFirstJob]) (hfront := fun l => by
      simpa [withFirstJob, activationTargets] using .refl _ _)
  nextJob s m slot _ _ _ h := h.congr (htka := by simp [withNextJob]) (hrec := by simp [withNextJob])
    (hm := by simp [withNextJob]) (hfront := fun l => by
      simpa [withNextJob, changeoverTargets] using .refl _ _)
  blocks s t e h := h.congr (htka := e.tka) (hrec := by rw [e.queue]) (hm := by rw [e.rnc])
    (hfront := fun l => by rw [e.skc]; exact .refl _ _)
  written s r rest age hq h := written_arbiter s r rest age hq h
  started s r h := by
    obtain ⟨-, -, -, hskc, htka, -, hrpw, -⟩ := startPart_blocks r s
    have hcount := h.1.count
    have hle := h.1.atMost
    refine arbiterHeld_of_idle ?_ ?_ ?_ ?_ ?_
    · intro c; rw [htka]; cases c <;> rfl
    · intro c l; rw [htka]; cases c <;> cases l <;> rfl
    · intro l; rw [hskc, Lanes.get_fill]; rfl
    · rw [htka, hrpw]
      change s.tka.reservations - pushingCount s.tka = _
      omega
    · rw [htka]
      change s.tka.reservations - pushingCount s.tka ≤ 12
      omega
  powerOn s := arbiterHeld_of_idle (fun c => by cases c <;> rfl)
    (fun c l => by cases c <;> cases l <;> rfl) (fun l => by cases l <;> rfl) rfl (Nat.zero_le _)
  restarted s _ := arbiterHeld_of_idle (fun c => by cases c <;> rfl)
    (fun c l => by cases c <;> cases l <;> rfl) (fun l => by cases l <;> rfl) rfl (Nat.zero_le _)

theorem arbiterHeld_false (s : State) : ArbiterHeld False s ↔ ArbiterInv s :=
  ⟨fun h => h.1, fun h => ⟨h, False.elim⟩⟩

theorem arbiterHeld_true (s : State) : ArbiterHeld True s ↔ TakeawayInv s :=
  Iff.trans ⟨fun h => ⟨h.1, h.2 trivial⟩, fun h => ⟨h.1, fun _ => h.2⟩⟩ (takeawayInv_iff s).symm

/-- Settles O59: a reservation is taken with a grant and goes from the push to its STACK record, and a lane
joins in the act that leaves its FRONT CLOSED. -/
theorem stepKeepsTakeawayInv : Obligations.StepKeepsTakeawayInv := by
  have hstep := fun J s t (h : ArbiterHeld J s) (e : step s = .next t) =>
    (arbiterHeld_kept J).step_keeps (fun s q h => h.congr) s t h e
  exact ⟨fun s t h e => (arbiterHeld_false t).1 (hstep _ s t ((arbiterHeld_false s).2 h) e),
    fun s t h e => (arbiterHeld_true t).1 (hstep _ s t ((arbiterHeld_true s).2 h) e)⟩

end Sys2Proof.Machine
end

section
/-! Stack lines (R119 to R121, R125): each act keeps every stack accounting for the labels allotted to it,
the ids of a line consecutive, and only its last stack FILLING. -/

namespace Sys2Proof.Machine

/-! ### A line with its arrival list -/

/-- The entries of an arrival list that name a stack. -/
def awaited (a : List Arrival) (id : Nat) : Nat := a.countP fun e => e.stackId == id

/-- A stack accounts for its labels when `k` of them are still expected at the eye (R121). -/
def Accounted (x : Stack) (k : Nat) : Prop :=
  x.allotted = x.arrived + x.missing + k ∧
  (x.state = .closed ∨ x.state = .pushing → k = 0) ∧
  (x.state = .completing → k ≠ 0)

/-- What LineInv says of a line `q`, its arrival list `a` and the id `n` of its next stack. -/
structure LineOk (q : List Stack) (a : List Arrival) (n : Nat) : Prop where
  capacity : q.length ≤ 3
  accounts : ∀ x ∈ q, Accounted x (awaited a x.id)
  ids : List.IsChain (fun i j => j = nextStackId i) (q.map fun x => x.id)
  newest : ∀ x ∈ q.getLast?, nextStackId x.id = n
  idRange : ∀ x ∈ q, 1 ≤ x.id ∧ x.id ≤ 65535
  filling : ∀ x ∈ q.dropLast, x.state ≠ .filling
  expected : ∀ e ∈ a, ∃ x ∈ q, x.id = e.stackId
  nextId : 1 ≤ n ∧ n ≤ 65535

/-- Every lane's line is in order. -/
def LinesOk (s : State) : Prop :=
  ∀ l, LineOk (s.skc.get l).line (s.lnd.get l).arrivals (s.skc.get l).nextId

theorem stackInv_iff (s : State) : StackInv s ↔ ArbiterInv s ∧ LinesOk s :=
  ⟨fun h => ⟨h.takeaway, fun l =>
      have hl := h.lines l
      ⟨hl.capacity, hl.accounts, hl.ids, hl.newest, hl.idRange, hl.filling, hl.expected, h.nextId l⟩⟩,
    fun h => ⟨h.1, fun l =>
      have hl := h.2 l
      ⟨hl.capacity, hl.accounts, hl.ids, hl.newest, hl.idRange, hl.filling, hl.expected⟩,
      fun l => (h.2 l).nextId⟩⟩

theorem lineOk_empty {n : Nat} (h : 1 ≤ n ∧ n ≤ 65535) : LineOk [] [] n :=
  ⟨Nat.zero_le _, fun _ => nofun, .nil, fun _ => nofun, fun _ => nofun, fun _ => nofun,
    fun _ => nofun, h⟩

/-- A line changed stack by stack, with the ids kept, no stack FILLING that was not, and each stack
accounting for what the list now expects. -/
theorem LineOk.changed {q q' : List Stack} {a a' : List Arrival} {n : Nat} (h : LineOk q a n)
    (hq : List.Forall₂ (fun x y => y.id = x.id ∧ (y.state = .filling → x.state = .filling) ∧
      (x ∈ q → Accounted x (awaited a x.id) → Accounted y (awaited a' x.id))) q q')
    (ha : ∀ e ∈ a', e ∈ a ∨ ∃ x ∈ q, x.id = e.stackId) : LineOk q' a' n := by
  have hids : q'.map (fun x => x.id) = q.map fun x => x.id := by
    have : List.Forall₂ (fun x y => x.id = y.id) q q' := hq.imp fun _ _ e => e.1.symm
    exact (List.forall₂_eq_eq_eq ▸ List.forall₂_map_left_iff.2 (List.forall₂_map_right_iff.2 this) :
      q.map (fun x => x.id) = q'.map fun x => x.id).symm
  have hmem : ∀ y ∈ q', ∃ x ∈ q, y.id = x.id ∧ Accounted y (awaited a' y.id) := by
    intro y hy
    obtain ⟨i, hi, rfl⟩ := List.getElem_of_mem hy
    have hlen := hq.length_eq
    have hi' : i < q.length := by omega
    obtain ⟨hid, -, hacc⟩ := hq.get hi' hi
    simp only [List.get_eq_getElem] at hid hacc
    have hx := List.getElem_mem hi'
    exact ⟨_, hx, hid, hid ▸ hacc hx (h.accounts _ hx)⟩
  refine ⟨hq.length_eq ▸ h.capacity, fun y hy => (hmem y hy).elim fun _ e => e.2.2, hids ▸ h.ids,
    ?_, ?_, ?_, ?_, h.nextId⟩
  · intro y hy
    have hlast : q.getLast?.map (fun x => x.id) = q'.getLast?.map fun x => x.id := by
      rw [← List.getLast?_map, ← List.getLast?_map, hids]
    rw [hy] at hlast
    obtain ⟨x, hx, e⟩ := Option.map_eq_some_iff.1 hlast
    exact (congrArg nextStackId e).symm.trans (h.newest x hx)
  · intro y hy
    obtain ⟨x, hx, e, -⟩ := hmem y hy
    exact e ▸ h.idRange x hx
  · intro y hy e
    have hdrop : List.Forall₂ (fun x y => y.state = .filling → x.state = .filling)
        q.dropLast q'.dropLast := by
      rw [List.dropLast_eq_take, List.dropLast_eq_take, ← hq.length_eq]
      exact List.forall₂_take _ (hq.imp fun _ _ e => e.2.1)
    obtain ⟨i, hi, rfl⟩ := List.getElem_of_mem hy
    have hi' : i < q.dropLast.length := by rw [hdrop.length_eq]; exact hi
    exact h.filling _ (List.getElem_mem hi') (hdrop.get hi' hi e)
  · intro e he
    obtain he | ⟨x, hx, hid⟩ := ha e he
    · obtain ⟨x, hx, hid⟩ := h.expected e he
      have : e.stackId ∈ q'.map fun x => x.id := hids ▸ List.mem_map.2 ⟨x, hx, hid⟩
      exact List.mem_map.1 this
    · have : e.stackId ∈ q'.map fun x => x.id := hids ▸ List.mem_map.2 ⟨x, hx, hid⟩
      exact List.mem_map.1 this

/-- Up to four consecutive stack ids differ (R120). -/
theorem nodup_of_chain {q : List Nat} (hc : List.IsChain (fun i j => j = nextStackId i) q)
    (hr : ∀ i ∈ q, 1 ≤ i ∧ i ≤ 65535) (hlen : q.length ≤ 4) : q.Nodup := by
  replace hc : List.IsChain (fun i j => (i = 65535 ∧ j = 1) ∨ (i ≠ 65535 ∧ j = i + 1)) q := by
    refine hc.imp fun i j e => ?_
    subst e
    unfold nextStackId
    split
    next hi => exact .inl ⟨hi, rfl⟩
    next hi => exact .inr ⟨hi, rfl⟩
  match q, hlen with
  | [], _ => exact .nil
  | [_], _ => exact List.nodup_singleton _
  | [a, b], _ =>
    simp only [List.isChain_cons_cons, List.forall_mem_cons] at hc hr
    simp only [List.nodup_cons, List.mem_cons, List.not_mem_nil, List.nodup_nil, or_false,
      not_false_eq_true, and_true]
    omega
  | [a, b, c], _ =>
    simp only [List.isChain_cons_cons, List.forall_mem_cons] at hc hr
    simp only [List.nodup_cons, List.mem_cons, List.not_mem_nil, List.nodup_nil, or_false,
      not_false_eq_true, and_true, not_or]
    omega
  | [a, b, c, d], _ =>
    simp only [List.isChain_cons_cons, List.forall_mem_cons] at hc hr
    simp only [List.nodup_cons, List.mem_cons, List.not_mem_nil, List.nodup_nil, or_false,
      not_false_eq_true, and_true, not_or]
    omega

namespace LineOk

variable {q : List Stack} {a : List Arrival} {n : Nat} (h : LineOk q a n)
include h

/-- The ids of a line, with the one to come, follow each other (R120). -/
theorem ids_next : List.IsChain (fun i j => j = nextStackId i) (q.map (fun x => x.id) ++ [n]) := by
  refine h.ids.append (.singleton _) ?_
  simp only [List.getLast?_map, Option.mem_def, Option.map_eq_some_iff, List.head?_cons,
    Option.some.injEq]
  rintro _ ⟨x, hx, rfl⟩ _ rfl
  exact (h.newest x hx).symm

theorem nodup : (q.map (fun x => x.id) ++ [n]).Nodup := by
  refine nodup_of_chain h.ids_next ?_ (by simpa using Nat.lt_succ_of_le h.capacity)
  simp only [List.mem_append, List.mem_map, List.mem_singleton]
  rintro _ (⟨x, hx, rfl⟩ | rfl)
  · exact h.idRange x hx
  · exact h.nextId

/-- No label is expected for a stack that is not in the line. -/
theorem awaited_eq_zero {i : Nat} (hi : ∀ x ∈ q, x.id ≠ i) : awaited a i = 0 := by
  refine List.countP_eq_zero.2 fun e he => ?_
  obtain ⟨x, hx, hid⟩ := h.expected e he
  simpa [hid] using hi x hx

theorem id_ne_next : ∀ x ∈ q, x.id ≠ n := by
  intro x hx e
  have := (List.nodup_append.1 h.nodup).2.2 x.id (List.mem_map.2 ⟨x, hx, rfl⟩) n (by simp)
  exact this e

/-- The stacks before the last one have other ids than it. -/
theorem id_ne_last {x : Stack} (hx : q.getLast? = some x) : ∀ y ∈ q.dropLast, y.id ≠ x.id := by
  intro y hy e
  have hnodup := (List.nodup_append.1 h.nodup).1
  rw [← List.dropLast_append_getLast? x hx, List.map_append, List.nodup_append] at hnodup
  exact hnodup.2.2 y.id (List.mem_map.2 ⟨y, hy, rfl⟩) x.id (by simp) e

/-- The last stack changed, the others as they are. -/
theorem changeLast {a' : List Arrival} {x y : Stack} (hx : q.getLast? = some x) (hid : y.id = x.id)
    (hf : x.state = .filling)
    (hacc : Accounted x (awaited a x.id) → Accounted y (awaited a' x.id))
    (ha : ∀ e ∈ a', e ∈ a ∨ e.stackId = x.id)
    (hothers : ∀ i, i ≠ x.id → awaited a' i = awaited a i) :
    LineOk (q.dropLast ++ [y]) a' n := by
  refine h.changed ?_ fun e he => (ha e he).imp_right fun e => ⟨x, List.mem_of_getLast? hx, e.symm⟩
  have hsplit := List.dropLast_append_getLast? x hx
  have hsame : List.Forall₂ (fun x y => y.id = x.id ∧ (y.state = .filling → x.state = .filling) ∧
      (x ∈ q → Accounted x (awaited a x.id) → Accounted y (awaited a' x.id)))
      q.dropLast q.dropLast := List.forall₂_same.2 fun z hz =>
    ⟨rfl, fun e => e, fun _ hz' => (hothers _ (h.id_ne_last hx z hz)).symm ▸ hz'⟩
  conv in (occs := 2) q => rw [← hsplit]
  exact List.rel_append hsame (.cons ⟨hid, fun _ => hf, fun _ => hacc⟩ .nil)

/-- A stack opened behind the others for a label, which is the first one its id is expected for. -/
theorem opened {y : Stack} {e : Arrival} (hid : y.id = n) (hy : Accounted y 1)
    (he : e.stackId = n) (hroom : q = [] ∨ q.length < 3 ∧ ∀ x ∈ q.getLast?, x.state ≠ .filling) :
    LineOk (q ++ [y]) (a ++ [e]) (nextStackId n) := by
  have hawaited : ∀ i, awaited (a ++ [e]) i = awaited a i + if n = i then 1 else 0 := by
    intro i
    simp [awaited, List.countP_append, List.countP_singleton, he]
  refine ⟨?_, ?_, ?_, ?_, ?_, ?_, ?_, nextStackId_range h.nextId⟩
  · obtain rfl | ⟨hlt, -⟩ := hroom
    · exact Nat.le_of_ble_eq_true rfl
    · simpa using hlt
  · intro x hx
    rw [hawaited]
    obtain hx | rfl := List.mem_append.1 hx |>.imp_right List.mem_singleton.1
    · rw [if_neg fun e => h.id_ne_next x hx e.symm]
      exact h.accounts x hx
    · rw [hid, if_pos rfl, h.awaited_eq_zero h.id_ne_next]
      exact hy
  · simpa [hid] using h.ids_next
  · simp [hid]
  · intro x hx
    obtain hx | rfl := List.mem_append.1 hx |>.imp_right List.mem_singleton.1
    · exact h.idRange x hx
    · exact hid ▸ h.nextId
  · intro x hx
    rw [List.dropLast_concat] at hx
    obtain rfl | ⟨-, hlast⟩ := hroom
    · cases hx
    · obtain ⟨z, hz⟩ := Option.ne_none_iff_exists'.1
        (mt List.getLast?_eq_none_iff.1 (List.ne_nil_of_mem hx))
      rw [← List.dropLast_append_getLast? z hz] at hx
      obtain hx | rfl := List.mem_append.1 hx |>.imp_right List.mem_singleton.1
      · exact h.filling x hx
      · exact hlast x hz
  · intro b hb
    obtain hb | rfl := List.mem_append.1 hb |>.imp_right List.mem_singleton.1
    · obtain ⟨x, hx, e⟩ := h.expected b hb
      exact ⟨x, List.mem_append_left _ hx, e⟩
    · exact ⟨y, by simp, hid.trans he.symm⟩

/-- The FRONT, for which no label is expected, gone from the line. -/
theorem departed (hfront : ∀ x ∈ q.head?, awaited a x.id = 0) : LineOk q.tail a n := by
  cases q with
  | nil => exact h
  | cons x q =>
    refine ⟨(Nat.le_succ _).trans h.capacity, fun y hy => h.accounts y (List.mem_cons_of_mem _ hy),
      h.ids.tail, fun y hy => h.newest y ?_, fun y hy =>
      h.idRange y (List.mem_cons_of_mem _ hy), fun y hy => h.filling y ?_, fun e he => ?_, h.nextId⟩
    · rw [List.tail_cons, Option.mem_def] at hy
      rw [List.getLast?_cons, hy]
      rfl
    · cases q with
      | nil => cases hy
      | cons z q => exact List.mem_cons_of_mem _ hy
    · obtain ⟨y, hy, e'⟩ := h.expected e he
      obtain rfl | hy := List.mem_cons.1 hy
      · refine absurd (hfront y rfl) (Nat.pos_iff_ne_zero.1 (List.countP_pos_iff.2 ⟨e, he, ?_⟩))
        simp [e']
      · exact ⟨y, hy, e'⟩

/-- The oldest entry taken from the list and counted in the stack it names (R113, R114, R121). -/
theorem resolved {e : Arrival} {rest : List Arrival} (ha : a = e :: rest) (b : Bool) :
    LineOk (mapStack e.stackId (fun x => settleStack (awaited rest e.stackId) (countArrival b x)) q)
      rest n := by
  subst ha
  refine h.changed ?_ fun d hd => .inl (List.mem_cons_of_mem _ hd)
  rw [mapStack, List.forall₂_map_right_iff, List.forall₂_same]
  intro x _
  have hawaited : awaited (e :: rest) x.id = awaited rest x.id + if e.stackId = x.id then 1 else 0 := by
    simp [awaited, List.countP_cons]
  rw [hawaited]
  split
  next hid =>
    rw [if_pos hid.symm, ← hid]
    obtain ⟨hs, hi⟩ : (countArrival b x).state = x.state ∧ (countArrival b x).id = x.id := by
      cases b <;> exact ⟨rfl, rfl⟩
    have hcount : x.allotted = x.arrived + x.missing + (awaited rest x.id + 1) →
        (countArrival b x).allotted =
          (countArrival b x).arrived + (countArrival b x).missing + awaited rest x.id := by
      cases b <;> simp only [countArrival, Bool.false_eq_true, if_false, if_true] <;> omega
    unfold settleStack
    split
    next hc =>
      simp only [Bool.and_eq_true, decide_eq_true_eq] at hc
      exact ⟨hi, nofun, fun _ hacc => ⟨hcount hacc.1, fun _ => hc.2, nofun⟩⟩
    next hc =>
      simp only [Bool.and_eq_true, decide_eq_true_eq, not_and] at hc
      refine ⟨hi, fun e => hs ▸ e, fun _ hacc => ⟨hcount hacc.1, fun e => ?_, hc⟩⟩
      exact absurd (hacc.2.1 (hs ▸ e)) (Nat.succ_ne_zero _)
  next hid => exact ⟨rfl, fun e => e, fun _ hacc => by simpa [Ne.symm hid] using hacc⟩

end LineOk

/-! ### The acts -/

/-- The lines of a state in which no line, arrival list or next id has changed. -/
theorem LinesOk.congr {s t : State} (h : LinesOk s)
    (hline : ∀ l, (t.skc.get l).line = (s.skc.get l).line := by simp)
    (hid : ∀ l, (t.skc.get l).nextId = (s.skc.get l).nextId := by simp)
    (harr : ∀ l, (t.lnd.get l).arrivals = (s.lnd.get l).arrivals := by simp) : LinesOk t := by
  intro l
  rw [hline, hid, harr]
  exact h l

/-- One lane's line changed. -/
theorem LinesOk.setLine {s : State} (h : LinesOk s) {l : Lane} {q : List Stack}
    (hq : LineOk q (s.lnd.get l).arrivals (s.skc.get l).nextId) : LinesOk (setLine l q s) := by
  intro k
  rw [setLine_line, (setLine_lane l k q s).2.1]
  split
  next e => subst e; exact hq
  next => exact h k

theorem joinWaiting_lines (l : Lane) (s : State) (h : LinesOk s) : LinesOk (joinWaiting l s) :=
  h.congr

/-- A grant makes a CLOSED FRONT PUSHING, for which no label was expected (R129, R135). -/
theorem grantTurn_lines (c : Conveyor) (s : State) (ha : ArbiterInv s) (h : LinesOk s) :
    LinesOk (grantTurn c s) := by
  obtain e | ⟨m, l, -, -, -, hwin, e⟩ := grantTurn_cases c s
  · rwa [e]
  rw [e]
  obtain ⟨⟨x, hx, hclosed⟩, -⟩ := ha.waiting c l (winner_waits hwin)
  obtain ⟨rest, hrest⟩ := List.head?_eq_some_iff.1 hx
  intro k
  rw [grant_line, (grant_keeps m c l s).2.2.2.2.2.1, (grant_lane m c l s k).2.1]
  split
  next hk =>
    subst hk
    rw [hrest, pushFront]
    have hk := h k
    rw [hrest] at hk
    refine hk.changed (.cons ⟨rfl, nofun, fun _ hacc => ⟨hacc.1, fun _ => hacc.2.1 (.inl hclosed), nofun⟩⟩
      (List.forall₂_same.2 fun z _ => ⟨rfl, fun e => e, fun _ e => e⟩)) fun e he => .inl he
  next => exact h k

theorem grantPass_lines (s : State) (ha : ArbiterInv s) (h : LinesOk s) : LinesOk (grantPass s) := by
  have hturn := (arbiterHeld_false _).1 (grantTurn_arbiter .c0 s ((arbiterHeld_false s).2 ha))
  exact grantTurn_lines _ _ hturn (grantTurn_lines _ _ ha h)

/-- A short close makes the last stack CLOSED or COMPLETING by what is still expected for it (R125). -/
theorem shortClose_lines (k : CloseKind) (l : Lane) (s : State) (h : LinesOk s) :
    LinesOk (shortClose k l s) := by
  obtain e | ⟨x, hx, hf, e⟩ := shortClose_cases k l s
  · rwa [e]
  rw [e]
  refine joinWaiting_lines _ _ (h.setLine ((h l).changeLast hx rfl hf (fun hacc => ⟨hacc.1, ?_⟩)
    (fun _ => .inl) fun _ _ => rfl))
  change (_ → outstanding l x.id s = 0) ∧ (_ → outstanding l x.id s ≠ 0)
  unfold closedShort
  split
  next h0 => exact ⟨fun _ => h0, nofun⟩
  next h0 => exact ⟨fun e => by simp at e, fun _ => h0⟩

/-- A resolution takes an entry from the list and counts it in the stack it names (R113, R114, R121). -/
theorem resolve_lines (l : Lane) (b : Bool) (a : Arrival) (rest : List Arrival) (s : State)
    (ha : (s.lnd.get l).arrivals = a :: rest) (h : LinesOk s) :
    LinesOk (resolve l a.stackId b (setArrivals l rest s)) := by
  refine joinWaiting_lines _ _ fun k => ?_
  have harr : ((setArrivals l rest s).lnd.get k).arrivals =
      if k = l then rest else (s.lnd.get k).arrivals := by
    rw [setArrivals, setDecider_get]
    split <;> rfl
  have hleft : outstanding l a.stackId (setArrivals l rest s) = awaited rest a.stackId := by
    simp [outstanding, awaited, setArrivals, setDecider_get]
  rw [setLine_line, (setLine_lane l k _ _).2.1, hleft]
  change LineOk _ ((setArrivals l rest s).lnd.get k).arrivals (s.skc.get k).nextId
  rw [harr]
  split
  next hk => subst hk; exact (h k).resolved ha b
  next => exact h k

theorem allotTo_id (n : RowNum) (f : Count) (x : Stack) : (allotTo n f x).id = x.id := by
  unfold allotTo
  dsimp only
  split <;> rfl

theorem allotTo_accounted {x : Stack} {k : Nat} (hf : x.state = .filling) (h : Accounted x k)
    (n : RowNum) (f : Count) : Accounted (allotTo n f x) (k + 1) := by
  have hcount : (allotTo n f x).allotted = x.allotted + 1 ∧ (allotTo n f x).arrived = x.arrived ∧
      (allotTo n f x).missing = x.missing := by
    unfold allotTo
    dsimp only
    split <;> exact ⟨rfl, rfl, rfl⟩
  obtain ⟨h1, h2, h3⟩ := hcount
  refine ⟨by rw [h1, h2, h3, h.1]; omega, fun e => ?_, fun _ => Nat.succ_ne_zero k⟩
  obtain e' | e' := allotTo_state n f x <;> simp [e', hf] at e

/-- A label passed good is allotted to the last stack, or to a stack opened for it, and its entry joins the
list (R107, R123). -/
theorem passGood_lines (s u : State) (m : MachineRecord) (l : Lane) (r : Row) (id : Nat)
    (hp : placeFor l r s = some (u, id)) (h : LinesOk s) : LinesOk (passGood m l r id u) := by
  have hlnd : u.lnd = s.lnd := by
    obtain ⟨x, rfl⟩ := placeFor_keeps _ _ _ _ _ hp
    rfl
  have harr : ∀ k, ((passGood m l r id u).lnd.get k).arrivals =
      if k = l then (s.lnd.get l).arrivals ++ [arrivalOf m l r id] else (s.lnd.get k).arrivals := by
    intro k
    rw [passGood, setDecider_get]
    split
    · simp [freezeEntry, setTrack, hlnd]
    · simp [freezeEntry, setTrack, hlnd]
  intro k
  change LineOk (u.skc.get k).line _ (u.skc.get k).nextId
  rw [harr]
  obtain ⟨x, hx⟩ | ⟨t, ht⟩ := allot_cases (placeFor_cases hp).2
  · rw [hx.state, setLine_line, (setLine_lane l k _ _).2.1]
    split
    next hk =>
      subst hk
      have hawaited : ∀ i, awaited ((s.lnd.get k).arrivals ++ [arrivalOf m k r id]) i =
          awaited (s.lnd.get k).arrivals i + if x.id = i then 1 else 0 := by
        intro i
        simp [awaited, List.countP_append, List.countP_singleton, arrivalOf, hx.id_eq]
      refine (h k).changeLast hx.last (allotTo_id _ _ _) hx.filling (fun hacc => ?_)
        (fun e he => ?_) fun i hi => by rw [hawaited, if_neg hi.symm, Nat.add_zero]
      · rw [hawaited, if_pos rfl]
        exact allotTo_accounted hx.filling hacc _ _
      · exact (List.mem_append.1 he).imp_right fun e' => by
          rw [List.mem_singleton.1 e']
          exact hx.id_eq
    next => exact h k
  · rw [ht.state, setLane_get]
    split
    next hk =>
      subst hk
      exact (h k).opened (allotTo_id _ _ _)
        (allotTo_accounted rfl (by simp [Accounted, newStack]) _ _) ht.id_eq
        (ht.room.imp_right fun e => ⟨e.1, e.2.2⟩)
    next => exact h k

/-- The FRONT that a conveyor pushed leaves its line, and a lane whose new FRONT is CLOSED joins and may be
granted the other conveyor (R131, R136, R137). -/
theorem departed_lines {c : Conveyor} {l : Lane} {n : Nat} {s : State} {x : ConveyorState}
    (hc : s.tka.conveyors.get c = .pushing l n) (hx : x.isPushing = false) (b : Bool)
    (ha : ArbiterInv s) (h : LinesOk s) :
    LinesOk (setConveyor c x (departFront l (handOver l b s))) := by
  obtain ⟨hline, hgone, -⟩ := frontGone_leaves hc hx b ((arbiterHeld_false s).2 ha)
  obtain ⟨y, hy, hyp, -⟩ := ha.pushing c l n hc
  have hhand : ∀ k, ((handOver l b s).skc.get k).nextId = (s.skc.get k).nextId ∧
      (handOver l b s).lnd = s.lnd := by
    intro k
    unfold handOver
    split <;> simp
  have hlines : LinesOk (frontGone c x l b s) := by
    intro k
    have hid : ((frontGone c x l b s).skc.get k).nextId = (s.skc.get k).nextId := by
      unfold frontGone
      dsimp only
      split <;> simp [setConveyor, hhand]
    have harr : (frontGone c x l b s).lnd = s.lnd := by
      unfold frontGone
      dsimp only
      split <;> simp [setConveyor, hhand k]
    rw [hline, hid, harr]
    split
    next hk =>
      subst hk
      refine (h k).departed fun z hz => ?_
      cases hy.symm.trans hz
      exact ((h k).accounts y (List.mem_of_mem_head? hy)).2.1 (.inr hyp)
    next => exact h k
  rw [departed_eq hc]
  split
  · have hjoin := (arbiterHeld_false _).1 (ArbiterHeld.join (J := False) (l := l) hgone nofun)
    exact grantTurn_lines _ _ hjoin (joinWaiting_lines _ _ hlines)
  · exact hlines

theorem raiseHalting_lines (e : HaltingFault) (f : Count) (s : State) (h : LinesOk s) :
    LinesOk (raiseHalting e f s) := by
  refine h.congr (hline := fun l => ?_) (hid := fun l => ?_) (harr := fun l => ?_) <;>
    (unfold raiseHalting; split <;> simp)

theorem setRunState_lines (r : RunState) (s : State) (h : LinesOk s) : LinesOk (setRunState r s) := by
  refine h.congr (harr := fun l => ?_)
  cases r <;> simp [Lnd.rejectFlap]

/-- No label and no stack in any lane: the lines after START and the resets. -/
theorem linesOk_of_reset {t : State} (hskc : t.skc = Lanes.fill .reset)
    (harr : ∀ l, (t.lnd.get l).arrivals = []) : LinesOk t := by
  intro l
  rw [hskc, harr, Lanes.get_fill]
  exact lineOk_empty (by decide)

/-- The arbiter and the lines together. -/
def StacksHeld (s : State) : Prop := ArbiterHeld False s ∧ LinesOk s

/-- Every act of the part keeps the lines in order. -/
theorem stacksHeld_kept : KeptByCommands StacksHeld where
  choices s n h := ⟨(arbiterHeld_kept _).choices s n h.1, h.2.congr⟩
  attention s x h := ⟨(arbiterHeld_kept _).attention s x h.1, h.2.congr⟩
  otherRecord s r hr h := ⟨(arbiterHeld_kept _).otherRecord s r hr h.1, h.2.congr⟩
  grantPass s h := ⟨(arbiterHeld_kept _).grantPass s h.1, grantPass_lines s h.1.1 h.2⟩
  shortClose s k l h := ⟨(arbiterHeld_kept _).shortClose s k l h.1, shortClose_lines k l s h.2⟩
  closePending s x h := ⟨(arbiterHeld_kept _).closePending s x h.1, h.2.congr⟩
  stopDone s l h := ⟨(arbiterHeld_kept _).stopDone s l h.1, h.2.congr⟩
  freePrevious s c hc h := ⟨(arbiterHeld_kept _).freePrevious s c hc h.1,
    h.2.congr (hline := fun l => by simp [freePrevious, setTrack])⟩
  emptyTrack s h := ⟨(arbiterHeld_kept _).emptyTrack s h.1, h.2.congr⟩
  ended s hr ht h := by
    refine ⟨(arbiterHeld_kept _).ended s hr ht h.1, setRunState_lines _ _ (h.2.congr ?_ ?_ ?_)⟩ <;>
      intro l <;> simp [trackerToIdle, clearStops]
  changeRow s n f hf h := ⟨(arbiterHeld_kept _).changeRow s n f hf h.1, h.2.congr⟩
  rejectFlap s l h := ⟨(arbiterHeld_kept _).rejectFlap s l h.1, h.2.congr (harr := fun k => by
    rw [setDecider_get]; split <;> simp_all [Lnd.rejectFlap])⟩
  tally s t r h := ⟨(arbiterHeld_kept _).tally s t r h.1, h.2.congr⟩
  passGood s u m l r id hm hr hp h :=
    ⟨(arbiterHeld_kept _).passGood s u m l r id hm hr hp h.1, passGood_lines s u m l r id hp h.2⟩
  resolve s l b a rest ha h :=
    ⟨(arbiterHeld_kept _).resolve s l b a rest ha h.1, resolve_lines l b a rest s ha h.2⟩
  markStacks s l q hq h := by
    refine ⟨(arbiterHeld_kept _).markStacks s l q hq h.1, h.2.setLine ((h.2 l).changed
      (hq.imp fun x y e => ?_) fun _ => .inl)⟩
    obtain ⟨⟨_, _, _, rfl⟩, -, -⟩ := e
    exact ⟨rfl, fun e => e, fun _ e => e⟩
  fire s gap r hr h := ⟨(arbiterHeld_kept _).fire s gap r hr h.1, h.2.congr⟩
  halt s e f h := ⟨(arbiterHeld_kept _).halt s e f h.1, raiseHalting_lines e f s h.2⟩
  endStroke s c t bad n hc hn ht h := ⟨(arbiterHeld_kept _).endStroke s c t bad n hc hn ht h.1,
    h.2.congr (fun _ => rfl) (fun _ => rfl) (fun _ => rfl)⟩
  stallFault s hc h := by
    refine ⟨(arbiterHeld_kept _).stallFault s hc h.1, ?_⟩
    unfold stallFault
    split
    · exact raiseHalting_lines _ _ _ h.2.congr
    · exact h.2
  reassert s ho h := ⟨(arbiterHeld_kept _).reassert s ho h.1, h.2.congr⟩
  tracker s k hk h := ⟨(arbiterHeld_kept _).tracker s k hk h.1, h.2.congr⟩
  travel s x hx h := ⟨(arbiterHeld_kept _).travel s x hx h.1, h.2.congr⟩
  overflow s x h := ⟨(arbiterHeld_kept _).overflow s x h.1, h.2.congr⟩
  refused s hk h := ⟨(arbiterHeld_kept _).refused s hk h.1, h.2.congr⟩
  row s c m q next room hc hm hroom hk h :=
    ⟨(arbiterHeld_kept _).row s c m q next room hc hm hroom hk h.1,
      h.2.congr (fun _ => rfl) (fun _ => rfl) (fun _ => rfl)⟩
  spans s q g hq h := ⟨(arbiterHeld_kept _).spans s q g hq h.1, h.2.congr⟩
  departed s c l n x b hc hx h :=
    ⟨(arbiterHeld_kept _).departed s c l n x b hc hx h.1, departed_lines hc hx b h.1.1 h.2⟩
  recorded s b x h := ⟨(arbiterHeld_kept _).recorded s b x h.1, h.2.congr⟩
  stopBegun s hr h := ⟨(arbiterHeld_kept _).stopBegun s hr h.1,
    h.2.congr (fun l => by simp [stopBegun]) (fun l => by simp [stopBegun])
      (fun l => by simp [stopBegun])⟩
  acknowledged s hr ht h := by
    refine ⟨(arbiterHeld_kept _).acknowledged s hr ht h.1, setRunState_lines _ _ (h.2.congr ?_ ?_ ?_)⟩ <;>
      intro l <;> simp [faultCleared, trackerToIdle, clearStops]
  sampled s h := ⟨(arbiterHeld_kept _).sampled s h.1, h.2.congr (harr := fun l => by simp [formLeads])⟩
  aged s h := ⟨(arbiterHeld_kept _).aged s h.1, h.2.congr⟩
  holds s lanes v h := ⟨(arbiterHeld_kept _).holds s lanes v h.1, by
    refine h.2.congr (fun l => ?_) (fun l => ?_) (fun l => rfl) <;>
      (simp only [setHolds, State.setSkc_skc, Lanes.get_ofFn]; split <;> rfl)⟩
  targets s j lanes n h2 h9 h := ⟨(arbiterHeld_kept _).targets s j lanes n h2 h9 h.1, by
    refine h.2.congr (fun l => ?_) (fun l => ?_) (fun l => rfl) <;>
      (simp only [setTargets, State.setSkc_skc, Lanes.get_ofFn]; split <;> rfl)⟩
  freed s c hc h := ⟨(arbiterHeld_kept _).freed s c hc h.1, h.2.congr⟩
  firstJob s m slot hr hm hj h := ⟨(arbiterHeld_kept _).firstJob s m slot hr hm hj h.1,
    h.2.congr (fun l => by simp [withFirstJob, activationTargets])
      (fun l => by simp [withFirstJob, activationTargets]) (fun l => by simp [withFirstJob])⟩
  nextJob s m slot hr hm hj h := ⟨(arbiterHeld_kept _).nextJob s m slot hr hm hj h.1,
    h.2.congr (fun l => by simp [withNextJob, changeoverTargets])
      (fun l => by simp [withNextJob, changeoverTargets]) (fun l => by simp [withNextJob])⟩
  blocks s t e h := ⟨(arbiterHeld_kept _).blocks s t e h.1,
    h.2.congr (fun l => by rw [e.skc]) (fun l => by rw [e.skc]) (fun l => by rw [e.lnd])⟩
  written s r rest age hq h := by
    refine ⟨(arbiterHeld_kept _).written s r rest age hq h.1, ?_⟩
    unfold releaseFor
    split
    next hr =>
      have hreleased := released_arbiter (x := s.rpw.written rest age) hq hr rfl h.1
      exact grantPass_lines _ hreleased.1 h.2.congr
    next => exact h.2.congr
  started s r h := by
    refine ⟨(arbiterHeld_kept _).started s r h.1, linesOk_of_reset (startPart_blocks r s).2.2.2.1
      fun l => by rw [startPart_lnd]⟩
  powerOn s := ⟨(arbiterHeld_kept _).powerOn s, linesOk_of_reset rfl fun l => by cases l <;> rfl⟩
  restarted s h := ⟨(arbiterHeld_kept _).restarted s h.1,
    linesOk_of_reset rfl fun l => by cases l <;> rfl⟩

/-- Settles O60: a label allotted is expected from then on, a resolution moves it from the list to the counts
of its stack, and a stack leaves only when it expects none. -/
theorem stepKeepsStackInv : Obligations.StepKeepsStackInv := by
  intro s t h e
  have held : ∀ u, StackInv u ↔ StacksHeld u := fun u => by
    rw [stackInv_iff, StacksHeld, arbiterHeld_false]
  exact (held t).2 (stacksHeld_kept.step_keeps
    (fun s q h => ⟨h.1.congr, h.2.congr⟩) s t ((held s).1 h) e)

end Sys2Proof.Machine
end

section
/-! Exchange memory, the requests and the work of their sources (R78 to R82, R168, R170, R178 to R180), in the
parts that the commands change one at a time. -/

namespace Sys2Proof.Machine

/-! ### The invariant by its parts -/

/-- The port's memory, requests and burst by themselves (R168, R170). -/
structure PortOk (x : Pxm) : Prop where
  memory : x.memory.wf = true
  once : x.requests.Nodup
  single : ∀ b, x.burst = some b → b.source ∉ x.requests ∧ b.source ≠ .machine
  words : ∀ b, x.burst = some b → ∀ w ∈ b.words, w.address + 2 ≤ 8192

/-- The Report Writer by itself (R178 to R180). -/
structure WriterOk (x : Rpw) : Prop where
  halfWork : HalfWork x
  slot : ∀ h, x.writer = .filling h → x.fillIndex < 48 ∨ (x.fillIndex = 48 ∧ x.halfWork ≠ [])
  aged : x.ageTimer.isSome = true → (∃ h, x.writer = .filling h) ∧ 0 < x.fillIndex

/-- A burst of the source has the memory. -/
def Bursts (x : Pxm) (b : BurstSource) : Prop := ∃ y, x.burst = some y ∧ y.source = b

/-- A source has a burst in progress, or has requested one exactly when it needs one (R170). -/
def Asked (x : Pxm) (b : BurstSource) (needed : Prop) : Prop :=
  Bursts x b ∨ (b ∈ x.requests ↔ needed)

/-- ExchangeInv but for a half state access whose turn has come: what holds between the end of a burst and
the beginning of the next. -/
structure ExchangeHeld (s : State) : Prop where
  port : PortOk s.pxm
  pages : PageWork s.ntp
  writer : WriterOk s.rpw
  notes : Asked s.pxm .notes (s.ntp.work ≠ [])
  reports : Asked s.pxm .reports (s.rpw.needsBurst = true)

/-- A half state access whose turn has come has begun. -/
def Begun (s : State) : Prop :=
  s.pxm.burst = none → s.rpw.halfWork ≠ [] → s.pxm.requests.head? ≠ some .reports

theorem exchangeInv_iff (s : State) : ExchangeInv s ↔ ExchangeHeld s ∧ Begun s :=
  ⟨fun h => ⟨⟨⟨h.memory, h.once, h.single, h.burst⟩, h.pageWork, ⟨h.halfWork, h.slot, h.aged⟩,
      h.notes, h.reports⟩, h.begun⟩,
    fun ⟨h, hb⟩ => ⟨h.port.memory, h.pages, h.writer.halfWork, h.writer.slot, h.writer.aged,
      h.port.once, h.port.single, h.notes, h.reports, hb, h.port.words⟩⟩

/-- What ExchangeInv looks at. -/
structure ExchangeView where
  memory : Memory
  requests : List BurstSource
  burst : Option Burst
  inWork : Option PageInWork
  work : List NoteBurst
  queue : List Record
  writer : WriterState
  fillIndex : Nat
  ageTimer : Option Nat
  halfWork : List HalfAccess

def exchangeView (s : State) : ExchangeView :=
  { memory := s.pxm.memory, requests := s.pxm.requests, burst := s.pxm.burst,
    inWork := s.ntp.inWork, work := s.ntp.work, queue := s.rpw.queue, writer := s.rpw.writer,
    fillIndex := s.rpw.fillIndex, ageTimer := s.rpw.ageTimer, halfWork := s.rpw.halfWork }

theorem exchangeHeld_of_view {s t : State} (e : exchangeView t = exchangeView s)
    (h : ExchangeHeld s) : ExchangeHeld t := by
  obtain ⟨⟨h1, h2, h3, h4⟩, h5, ⟨h6, h7, h8⟩, h9, h10⟩ := h
  simp only [exchangeView, ExchangeView.mk.injEq] at e
  obtain ⟨e1, e2, e3, e4, e5, e6, e7, e8, e9, e10⟩ := e
  refine ⟨⟨e1 ▸ h1, e2 ▸ h2, e2 ▸ e3 ▸ h3, e3 ▸ h4⟩, ?_, ⟨?_, ?_, ?_⟩, ?_, ?_⟩
  · rw [PageWork, e4, e5]; exact h5
  · rw [HalfWork, e10, e7, e9, e8]; exact h6
  · rw [e7, e8, e10]; exact h7
  · rw [e9, e7, e8]; exact h8
  · rw [Asked, Bursts, e3, e2, e5]; exact h9
  · rw [Asked, Bursts, Rpw.needsBurst, e3, e2, e10, e7, e6]; exact h10

theorem begun_of_view {s t : State} (e : exchangeView t = exchangeView s) (h : Begun s) :
    Begun t := by
  simp only [exchangeView, ExchangeView.mk.injEq] at e
  obtain ⟨-, e2, e3, -, -, -, -, -, -, e10⟩ := e
  rw [Begun, e3, e10, e2]
  exact h

/-! ### Requests -/

theorem inProgress_iff (b : BurstSource) (s : State) : inProgress b s = true ↔ Bursts s.pxm b := by
  unfold inProgress Bursts
  cases s.pxm.burst <;> simp

/-- What stands requested after a source has asked. -/
theorem mem_askFor {b c : BurstSource} {n : Bool} {s : State} :
    c ∈ (askFor b n s).pxm.requests ↔
      c ∈ s.pxm.requests ∨ (c = b ∧ n = true ∧ ¬ Bursts s.pxm b) := by
  rw [← inProgress_iff]
  unfold askFor
  split
  next hn =>
    simp only [Bool.and_eq_true, Bool.not_eq_true'] at hn
    simp only [requestBurst, setRequests, withRequest, State.setPxm_pxm]
    split
    next hb => constructor <;> [exact .inl; rintro (h | ⟨rfl, -⟩)] <;> assumption
    next => simp [hn]
  next hn =>
    simp only [Bool.and_eq_true, Bool.not_eq_true', not_and, Bool.not_eq_false] at hn
    constructor
    · exact .inl
    · rintro (h | ⟨-, h, hp⟩)
      · exact h
      · exact absurd (hn h) hp

theorem withRequest_nodup (b : BurstSource) {q : List BurstSource} (h : q.Nodup) :
    (withRequest b q).Nodup := by
  unfold withRequest
  split
  · exact h
  next hb => exact List.nodup_append.2 ⟨h, List.nodup_singleton b, fun x hx y hy => by
    rw [List.mem_singleton.1 hy]
    exact ne_of_mem_of_not_mem hx hb⟩

/-- The first request stays the first when another joins. -/
theorem withRequest_head (b c : BurstSource) (q : List BurstSource) :
    (withRequest b q).head? = some c ↔ q.head? = some c ∨ (q = [] ∧ c = b) := by
  unfold withRequest
  cases q with
  | nil => simp [eq_comm]
  | cons d q => split <;> simp

theorem askFor_head (b c : BurstSource) (n : Bool) (s : State)
    (h : (askFor b n s).pxm.requests.head? = some c) : s.pxm.requests.head? = some c ∨
      (s.pxm.requests = [] ∧ c = b ∧ n = true ∧ ¬ Bursts s.pxm b) := by
  rw [← inProgress_iff]
  unfold askFor at h
  split at h
  next hn =>
    refine ((withRequest_head b c _).1 h).imp_right fun ⟨h1, h2⟩ => ⟨h1, h2, ?_⟩
    simpa using hn
  next => exact .inl h

theorem askFor_burst (b : BurstSource) (n : Bool) (s : State) :
    (askFor b n s).pxm.burst = s.pxm.burst := by
  unfold askFor
  split <;> rfl

theorem PortOk.askFor {s : State} (h : PortOk s.pxm) (b : BurstSource) (n : Bool) :
    PortOk (askFor b n s).pxm := by
  have hmemory : (Machine.askFor b n s).pxm.memory = s.pxm.memory := by
    unfold Machine.askFor
    split <;> rfl
  refine ⟨hmemory ▸ h.memory, ?_, fun y hy => ?_, by rw [askFor_burst]; exact h.words⟩
  · unfold Machine.askFor
    split
    · exact withRequest_nodup b h.once
    · exact h.once
  · rw [askFor_burst] at hy
    refine ⟨fun hm => ?_, (h.single y hy).2⟩
    obtain hm | ⟨hb, -, hn⟩ := mem_askFor.1 hm
    · exact (h.single y hy).1 hm
    · exact hn ⟨y, hy, hb⟩

/-- A source that had requested at most what it needs has, once it has asked, requested what it needs. -/
theorem asked_askFor {b : BurstSource} {n : Bool} {s : State}
    (h : Bursts s.pxm b ∨ (b ∈ s.pxm.requests → n = true)) :
    Asked (askFor b n s).pxm b (n = true) := by
  by_cases hb : Bursts s.pxm b
  · exact .inl (by rw [Bursts, askFor_burst]; exact hb)
  · refine .inr (mem_askFor.trans ⟨?_, fun hn => .inr ⟨rfl, hn, hb⟩⟩)
    rintro (hm | ⟨-, hn, -⟩)
    · exact (h.resolve_left hb) hm
    · exact hn

/-- The other sources' requests stand. -/
theorem Asked.askFor {b c : BurstSource} {p : Prop} {s : State} (h : Asked s.pxm c p) (hc : c ≠ b)
    (n : Bool) : Asked (askFor b n s).pxm c p := by
  refine h.imp (fun h => by rw [Bursts, askFor_burst]; exact h) fun h => ?_
  rw [mem_askFor]
  simpa [hc] using h

/-- The page work replaced: the parts that make the invariant hold again once the work is requested. -/
theorem exchangeHeld_setNoteWork {u : State} {w : List NoteBurst} (hport : PortOk u.pxm)
    (hpages : PageWork { u.ntp with work := w }) (hwriter : WriterOk u.rpw)
    (hreports : Asked u.pxm .reports (u.rpw.needsBurst = true))
    (hnotes : Bursts u.pxm .notes ∨ (.notes ∈ u.pxm.requests → w ≠ [])) :
    ExchangeHeld (setNoteWork w u) := by
  unfold setNoteWork updateNoteRequest
  refine ⟨PortOk.askFor (s := u.setNtp { u.ntp with work := w }) hport _ _, by simpa using hpages,
    by simpa using hwriter, ?_, ?_⟩
  · have := asked_askFor (s := u.setNtp { u.ntp with work := w }) (b := .notes) (n := !w.isEmpty)
      (by simpa using hnotes)
    simpa using this
  · have := hreports.askFor (s := u.setNtp { u.ntp with work := w }) (b := .notes) (by decide)
      (!w.isEmpty)
    simpa using this

/-- The Report Writer replaced: the parts that make the invariant hold again once its burst is requested. -/
theorem exchangeHeld_setRpw {u : State} {x : Rpw} (hport : PortOk u.pxm) (hpages : PageWork u.ntp)
    (hwriter : WriterOk x) (hnotes : Asked u.pxm .notes (u.ntp.work ≠ []))
    (hreports : Bursts u.pxm .reports ∨ (.reports ∈ u.pxm.requests → x.needsBurst = true)) :
    ExchangeHeld (updateReportRequest (u.setRpw x)) := by
  unfold updateReportRequest
  refine ⟨PortOk.askFor (s := u.setRpw x) hport _ _, by simpa using hpages, by simpa using hwriter, ?_, ?_⟩
  · have := hnotes.askFor (s := u.setRpw x) (b := .reports) (by decide) x.needsBurst
    simpa using this
  · have := asked_askFor (s := u.setRpw x) (b := .reports) (n := x.needsBurst) hreports
    simpa using this

/-! ### The report queue -/

/-- A record that joins the queue can only bring a need for a burst. -/
theorem needsBurst_append {x : Rpw} (q : List Record) (h : x.needsBurst = true) :
    Rpw.needsBurst { x with queue := x.queue ++ q } = true := by
  unfold Rpw.needsBurst at h ⊢
  dsimp only
  split at h <;> simp_all

theorem queueRecord_held (s : State) (r : Record) (h : ExchangeHeld s) :
    ExchangeHeld (queueRecord r s) := by
  unfold queueRecord
  split
  · exact exchangeHeld_setRpw h.port h.pages ⟨h.writer.halfWork, h.writer.slot, h.writer.aged⟩ h.notes
      (h.reports.imp_right fun e hm => needsBurst_append _ (e.1 hm))
  · exact exchangeHeld_of_view (s := s) rfl h

/-- A record brings no half state access: where the writer's request is new, none was due. -/
theorem queueRecord_begun (s : State) (r : Record) (h : ExchangeHeld s) (hb : Begun s) :
    Begun (queueRecord r s) := by
  unfold queueRecord
  split
  · intro hburst hwork hhead
    unfold updateReportRequest at hburst hwork hhead
    rw [askFor_burst] at hburst
    replace hwork : s.rpw.halfWork ≠ [] := by simpa using hwork
    obtain hhead | ⟨hnil, -⟩ := askFor_head _ _ _ _ hhead
    · exact hb hburst hwork hhead
    · obtain ⟨y, hy, -⟩ | e := h.reports
      · exact absurd (hburst.symm.trans hy) nofun
      · have hneeds : s.rpw.needsBurst = true := by
          unfold Rpw.needsBurst
          split <;> simp_all
        have := e.2 hneeds
        rw [show s.pxm.requests = [] from hnil] at this
        cases this
  · exact hb

/-! ### The acts of a run -/

/-- Of the acts of a run only a record that joins the queue is seen by the memory's side. -/
theorem keptByRun_of_view {P : State → Prop}
    (hview : ∀ {s t}, exchangeView t = exchangeView s → P s → P t)
    (hqueue : ∀ s r, P s → P (queueRecord r s)) : KeptByRun P := by
  have hjobEnd : ∀ x s, P s → P (queueJobEnd x s) := by
    intro x s h
    cases x with
    | none => exact h
    | some c => exact hqueue s _ h
  have hended : ∀ s, P s → P (trackerToIdle (endContexts (clearStops s))) := fun s h =>
    hview (by simp [exchangeView, trackerToIdle, endContexts, clearTargets])
      (hjobEnd s.jbc.current _ (hjobEnd s.jbc.previous _ (hview (s := s) (t := clearStops s)
        (by simp [exchangeView]) h)))
  have hhalt : ∀ s e f, P s → P (raiseHalting e f s) := by
    intro s e f h
    unfold raiseHalting
    split
    · exact h
    · exact h
    all_goals exact hqueue _ _ (hview (by simp [exchangeView]) h)
  refine
    { choices := fun s n => hview rfl
      attention := fun s x => hview rfl
      otherRecord := fun s r _ => hqueue s r
      grantPass := fun s => hview (by simp [exchangeView])
      shortClose := fun s k l => hview (by simp [exchangeView])
      closePending := fun s x => hview rfl
      stopDone := fun s l => hview rfl
      freePrevious := fun s c _ h =>
        hview (by simp [exchangeView, freePrevious, setTrack]) (hqueue s (jobEndRecord c) h)
      emptyTrack := fun s => hview rfl
      ended := fun s _ _ h => hview (by simp [exchangeView]) (hended s h)
      changeRow := fun s n f _ => hview rfl
      rejectFlap := fun s l => hview rfl
      tally := fun s t r => hview (by simp [exchangeView])
      passGood := fun s u m l r id _ _ hp => by
        obtain ⟨x, rfl⟩ := placeFor_keeps _ _ _ _ _ hp
        exact hview rfl
      resolve := fun s l b a rest _ => hview (by simp [exchangeView])
      markStacks := fun s l q _ => hview rfl
      fire := fun s gap r _ => hview (by simp [exchangeView])
      halt := hhalt
      endStroke := fun s c t bad n _ _ _ => hview rfl
      stallFault := fun s _ h => by
        unfold stallFault
        split
        · exact hhalt _ _ _ (hview (s := s) rfl h)
        · exact h
      reassert := fun s _ => hview rfl
      tracker := fun s k _ => hview rfl
      travel := fun s x _ => hview rfl
      overflow := fun s x => hview rfl
      refused := fun s _ => hview rfl
      row := fun s c m q next room _ _ _ _ => hview rfl
      spans := fun s q g _ => hview rfl
      departed := fun s c l n x b _ _ h => ?_
      recorded := fun s b x => hview rfl
      stopBegun := fun s _ => hview (by simp [exchangeView, stopBegun])
      acknowledged := fun s _ _ h => hview (by simp [exchangeView, faultCleared]) (hended s h)
      sampled := fun s => hview (by simp [exchangeView])
      aged := fun s => hview rfl
      holds := fun s lanes v => hview rfl
      targets := fun s j lanes n _ _ => hview rfl
      freed := fun s c _ => hview rfl
      firstJob := fun s m slot _ _ _ => hview (by simp [exchangeView, withFirstJob])
      nextJob := fun s m slot _ _ _ => hview (by simp [exchangeView, withNextJob, setTrack]) }
  have hhand : P (handOver l b s) := by
    unfold handOver
    split
    · exact hqueue _ _ h
    · exact h
  exact hview (by simp [exchangeView, setConveyor]) hhand

theorem exchangeHeld_run : KeptByRun ExchangeHeld :=
  keptByRun_of_view exchangeHeld_of_view queueRecord_held

theorem exchangeInv_run : KeptByRun ExchangeInv := by
  refine keptByRun_of_view (fun e h => ?_) fun s r h => ?_ <;> rw [exchangeInv_iff] at h ⊢
  · exact ⟨exchangeHeld_of_view e h.1, begun_of_view e h.2⟩
  · exact ⟨queueRecord_held s r h.1, queueRecord_begun s r h.1 h.2⟩

end Sys2Proof.Machine
end

section
/-! The bursts and the accesses (R170): each beginning, write and end of a burst, and each access served,
keeps the invariant of the memory's side. -/

namespace Sys2Proof.Machine

/-! ### Beginnings and writes -/

theorem hasTurn_iff (b : BurstSource) (s : State) :
    hasTurn b s = true ↔ ∃ q, s.pxm.requests = b :: q := by
  unfold hasTurn
  rw [beq_iff_eq, List.head?_eq_some_iff]

/-- The requests but for the one whose turn it is. -/
theorem mem_tail_requests {b c : BurstSource} {s : State} (hturn : hasTurn b s = true) (hc : c ≠ b) :
    c ∈ s.pxm.requests.tail ↔ c ∈ s.pxm.requests := by
  obtain ⟨q, hq⟩ := (hasTurn_iff b s).1 hturn
  simp [hq, hc]

theorem notMem_tail_requests {b : BurstSource} {s : State} (h : PortOk s.pxm)
    (hturn : hasTurn b s = true) : b ∉ s.pxm.requests.tail := by
  obtain ⟨q, hq⟩ := (hasTurn_iff b s).1 hturn
  have := h.once
  rw [hq] at this ⊢
  exact (List.nodup_cons.1 this).1

/-- A source whose burst has its turn has none running. -/
theorem not_bursts_of_turn {b : BurstSource} {s : State} (h : PortOk s.pxm)
    (hturn : hasTurn b s = true) : ¬ Bursts s.pxm b := by
  rintro ⟨y, hy, rfl⟩
  obtain ⟨q, hq⟩ := (hasTurn_iff _ s).1 hturn
  exact (h.single y hy).1 (hq ▸ List.mem_cons_self)

theorem popRequest_port {s : State} (h : PortOk s.pxm) : PortOk (popRequest s).pxm :=
  ⟨h.memory, h.once.sublist (List.tail_sublist _),
    fun y hy => ⟨fun hm => (h.single y hy).1 (List.mem_of_mem_tail hm), (h.single y hy).2⟩, h.words⟩

theorem popRequest_asked {b c : BurstSource} {p : Prop} {s : State} (hturn : hasTurn b s = true)
    (hc : c ≠ b) (h : Asked s.pxm c p) : Asked (popRequest s).pxm c p :=
  h.imp_right fun h => (mem_tail_requests hturn hc).trans h

theorem beginBurst_port {b : BurstSource} {s : State} (h : PortOk s.pxm) (hturn : hasTurn b s = true)
    (hb : b ≠ .machine) : PortOk (beginBurst b s).pxm := by
  refine ⟨h.memory, h.once.sublist (List.tail_sublist _), fun y hy => ?_, fun y hy w hw => ?_⟩ <;>
    cases hy
  · exact ⟨notMem_tail_requests h hturn, hb⟩
  · cases hw

theorem beginBurst_bursts (b : BurstSource) (s : State) : Bursts (beginBurst b s).pxm b :=
  ⟨_, rfl, rfl⟩

/-- A burst that begins in a free memory leaves the other sources' requests. -/
theorem beginBurst_asked {b c : BurstSource} {p : Prop} {s : State} (hturn : hasTurn b s = true)
    (hfree : s.pxm.burst = none) (hc : c ≠ b) (h : Asked s.pxm c p) :
    Asked (beginBurst b s).pxm c p := by
  obtain ⟨y, hy, -⟩ | h := h
  · cases hfree.symm.trans hy
  · exact .inr ((mem_tail_requests hturn hc).trans h)

theorem overwritten_within {m : Memory} {a n : Nat} (h : a + 2 * n ≤ 8192) :
    ∀ w ∈ overwritten m a n, w.address + 2 ≤ 8192 := by
  induction n generalizing a with
  | zero => exact fun _ => nofun
  | succ n ih =>
    refine List.forall_mem_cons.2 ⟨?_, ih (by omega)⟩
    dsimp only
    omega

theorem burstWrite_bursts (a : Nat) (ws : List Word) (s : State) (b : BurstSource) :
    Bursts (burstWrite a ws s).pxm b ↔ Bursts s.pxm b := by
  unfold Bursts burstWrite
  cases s.pxm.burst <;> simp

theorem burstWrite_asked {a : Nat} {ws : List Word} {s : State} {b : BurstSource} {p : Prop}
    (h : Asked s.pxm b p) : Asked (burstWrite a ws s).pxm b p :=
  h.imp_left (burstWrite_bursts a ws s b).2

theorem burstWrite_port {a : Nat} {ws : List Word} {s : State} (h : PortOk s.pxm)
    (ha : a + 2 * ws.length ≤ 8192) : PortOk (burstWrite a ws s).pxm := by
  refine ⟨Memory.wf_writeWords h.memory ha, h.once, fun y hy => ?_, fun y hy w hw => ?_⟩ <;>
    (obtain ⟨z, hz, rfl⟩ := Option.map_eq_some_iff.1 hy)
  · exact h.single z hz
  · obtain hw | hw := List.mem_append.1 hw
    · exact h.words z hz w hw
    · exact overwritten_within ha w hw

/-- A burst that begins and writes words of exchange memory. -/
theorem exchangeHeld_burst {b : BurstSource} {s : State} {a : Nat} {ws : List Word}
    (h : ExchangeHeld s) (hfree : s.pxm.burst = none) (hturn : hasTurn b s = true)
    (hb : b ≠ .machine) (hn : b ≠ .notes) (hr : b ≠ .reports) (ha : a + 2 * ws.length ≤ 8192) :
    ExchangeHeld (burstWrite a ws (beginBurst b s)) :=
  ⟨burstWrite_port (beginBurst_port h.port hturn hb) ha, h.pages, h.writer,
    burstWrite_asked (beginBurst_asked hturn hfree hn.symm h.notes),
    burstWrite_asked (beginBurst_asked hturn hfree hr.symm h.reports)⟩

/-! ### Half state accesses -/

theorem needsBurst_of_halfWork {x : Rpw} (h : x.halfWork ≠ []) : x.needsBurst = true := by
  unfold Rpw.needsBurst
  split <;> simp_all

/-- A half state access begins in a free memory (R178, R180). -/
theorem halfAccess_held {x : HalfAccess} {rest : List HalfAccess} {s : State} (h : ExchangeHeld s)
    (hw : s.rpw.halfWork = x :: rest) (hfree : s.pxm.burst = none)
    (hturn : hasTurn .reports s = true) : ExchangeHeld (halfAccess x rest s) := by
  have hport := beginBurst_port h.port hturn (by decide)
  have hnotes := beginBurst_asked hturn hfree (by decide) h.notes
  have hbursts := beginBurst_bursts .reports s
  obtain ⟨hhalf, hslot, haged⟩ := h.writer
  simp only [HalfWork, hw] at hhalf
  unfold halfAccess
  dsimp only
  have hbase : ∀ k, halfBase k + 2 * 1 ≤ 8192 := by intro k; cases k <;> decide
  cases x with
  | writeClosed k =>
    refine ⟨burstWrite_port hport (hbase k), h.pages, ?_, burstWrite_asked hnotes,
      .inl ((burstWrite_bursts _ _ _ _).2 hbursts)⟩
    match rest, hhalf with
    | [.look o], ⟨hwr, ho, hage⟩ =>
      exact ⟨⟨by rw [ho]; cases k <;> exact hwr, hage⟩,
        fun c hc => (hslot c hc).imp_right fun e => ⟨e.1, nofun⟩, haged⟩
  | writeFilling k =>
    refine ⟨burstWrite_port hport (hbase k), h.pages, ?_, burstWrite_asked hnotes,
      .inl ((burstWrite_bursts _ _ _ _).2 hbursts)⟩
    match rest, hhalf with
    | [], ⟨_, hi, _⟩ => exact ⟨trivial, fun c _ => .inl (hi ▸ (by decide)), haged⟩
  | look k =>
    dsimp only
    match rest, hhalf with
    | [], ⟨_, hage⟩ =>
      split
      · exact exchangeHeld_setRpw hport h.pages
          ⟨⟨rfl, rfl, rfl⟩, fun _ _ => .inl (by simp), nofun⟩ hnotes (.inl hbursts)
      · exact ⟨hport, h.pages, ⟨trivial, nofun, fun e => by simp [hage] at e⟩, hnotes, .inl hbursts⟩

/-- A half state access has the memory once it has begun. -/
theorem halfAccess_burst (x : HalfAccess) (rest : List HalfAccess) (s : State) :
    ∃ ws, (halfAccess x rest s).pxm.burst = some ⟨.reports, ws⟩ := by
  unfold halfAccess
  dsimp only
  split
  · exact ⟨_, rfl⟩
  · exact ⟨_, rfl⟩
  · split
    · refine ⟨[], ?_⟩
      unfold takeHalf updateReportRequest
      rw [askFor_burst]
      rfl
    · exact ⟨_, rfl⟩

/-- The memory is free for the next burst: a half state access that stands first begins. -/
theorem beginNext_inv {s : State} (h : ExchangeHeld s) : ExchangeInv (beginNext s) := by
  rw [exchangeInv_iff]
  unfold beginNext
  split
  next hw => exact ⟨h, fun _ hne => absurd hw hne⟩
  next x rest hw =>
    split
    next hb =>
      simp only [Bool.and_eq_true, Option.isNone_iff_eq_none] at hb
      refine ⟨halfAccess_held h hw hb.1 hb.2, fun e => ?_⟩
      obtain ⟨ws, hy⟩ := halfAccess_burst x rest s
      cases hy.symm.trans e
    next hb =>
      refine ⟨h, fun hfree _ hhead => hb ?_⟩
      simp [hfree, hasTurn, hhead]

/-! ### Accesses served -/

/-- The expected page's taking joins the work while no page is in work (R78). -/
theorem takePage_held {s : State} (h : ExchangeHeld s) (hn : s.ntp.inWork = none) :
    ExchangeHeld (takePage s) := by
  unfold takePage
  split
  · exact h
  next hnot =>
    obtain ⟨hindex, -, hpages⟩ := h.pages
    rw [hn] at hpages
    refine exchangeHeld_setNoteWork h.port ⟨?_, ?_, ?_⟩ h.writer h.reports (.inr fun _ => by simp)
    · simp only [List.mem_append, List.mem_singleton]
      rintro b (hb | rfl)
      · exact hindex b hb
      · exact fun _ => nofun
    · have h0 : s.ntp.work.countP NoteBurst.isPageStep = 0 := by
        refine List.countP_eq_zero.2 fun b hb hstep => hnot ?_
        rw [← hpages b hb hstep]
        exact hb
      simp [List.countP_append, h0, NoteBurst.isPageStep]
    · simp only [hn, List.mem_append, List.mem_singleton]
      rintro b (hb | rfl) hstep
      · exact hpages b hb hstep
      · rfl

theorem pagePostedAct_held {s : State} (p : Page) (w : Word) (h : ExchangeHeld s) :
    ExchangeHeld (pagePostedAct p w s) := by
  unfold pagePostedAct
  split
  next hc => exact takePage_held h hc.2.2.1
  next => exact h

/-- A half that the writer awaits is taken: nothing of the writer's was due (R178). -/
theorem halfFreedAct_held {s : State} (k : Half) (w : Word) (h : ExchangeHeld s) :
    ExchangeHeld (halfFreedAct k w s) := by
  unfold halfFreedAct
  split
  next hc =>
    exact exchangeHeld_setRpw h.port h.pages ⟨⟨rfl, rfl, rfl⟩, fun _ _ => .inl (by simp), nofun⟩
      h.notes (.inr fun _ => rfl)
  next => exact h

theorem serveAccess_held {s : State} (x : PressAccess) (h : ExchangeHeld s) :
    ExchangeHeld (serveAccess x s) := by
  cases x with
  | read a => exact exchangeHeld_of_view (s := s) rfl h
  | write a w =>
    have hstored : ExchangeHeld (storeWord (byteAddress a) w s) := by
      have ha : byteAddress a + 1 < 8192 := by
        have := a.isLt
        unfold byteAddress
        omega
      exact ⟨⟨Memory.wf_writeWord h.port.memory ha, h.port.once, h.port.single, h.port.words⟩, h.pages,
        h.writer, h.notes, h.reports⟩
    unfold serveAccess pressWrite
    dsimp only
    split
    · exact pagePostedAct_held _ _ hstored
    · exact halfFreedAct_held _ _ hstored
    · exact hstored

theorem serveWaiting_held {s : State} (h : ExchangeHeld s) : ExchangeHeld (serveWaiting s) :=
  foldl_inv (fun _ x hu => serveAccess_held x hu) _ (exchangeHeld_of_view (s := s) rfl h)

/-! ### The end of a burst -/

theorem afterBurst_inv {s : State} (h : ExchangeHeld s) : ExchangeInv (afterBurst s) :=
  beginNext_inv (serveWaiting_held h)

/-- The burst that ends had kept its source from its next request (R170). -/
theorem endBurst_held {s : State} (h : ExchangeHeld s) : ExchangeHeld (endBurst s) := by
  unfold endBurst
  split
  · exact h
  next y hy =>
    have hport : PortOk (s.setPxm { s.pxm with burst := none }).pxm :=
      ⟨h.port.memory, h.port.once, nofun, nofun⟩
    have hsingle := (h.port.single y hy).1
    have hother : ∀ {b p}, b ≠ y.source → Asked s.pxm b p →
        Asked (s.setPxm { s.pxm with burst := none }).pxm b p := by
      rintro b p hb (⟨z, hz, rfl⟩ | e)
      · cases hy.symm.trans hz
        exact absurd rfl hb
      · exact .inr e
    dsimp only
    split
    next hs =>
      rw [hs] at hsingle
      exact exchangeHeld_setNoteWork (w := s.ntp.work) hport h.pages h.writer
        (hother (by rw [hs]; decide) h.reports) (.inr fun hm => absurd hm hsingle)
    next hs =>
      rw [hs] at hsingle
      exact exchangeHeld_setRpw (x := s.rpw) hport h.pages h.writer
        (hother (by rw [hs]; decide) h.notes) (.inr fun hm => absurd hm hsingle)
    all_goals
      next hs =>
        exact ⟨hport, h.pages, h.writer, hother (by rw [hs]; decide) h.notes,
          hother (by rw [hs]; decide) h.reports⟩

theorem settleMemory_inv {s : State} (h : ExchangeInv s) : ExchangeInv (settleMemory s) := by
  unfold settleMemory
  split
  · exact h
  · exact afterBurst_inv (endBurst_held ((exchangeInv_iff s).1 h).1)

theorem settleBursts_inv (n : Nat) {s : State} (h : ExchangeInv s) : ExchangeInv (settleBursts n s) := by
  induction n generalizing s with
  | zero => exact h
  | succ n ih =>
    unfold settleBursts
    split
    · exact ih (settleMemory_inv h)
    · exact h

theorem freeMemory_inv {s : State} (h : ExchangeInv s) : ExchangeInv (freeMemory s) :=
  settleBursts_inv 3 (settleMemory_inv h)

theorem pressAccess_inv {s : State} (x : PressAccess) (h : ExchangeInv s) :
    ExchangeInv (pressAccess x s) := by
  unfold pressAccess
  dsimp only
  generalize hu : (if s.pxm.waiting.isEmpty = true then s else settleMemory s) = u
  have hinv : ExchangeInv u := by
    rw [← hu]
    split
    · exact h
    · exact settleMemory_inv h
  rw [exchangeInv_iff] at hinv
  split
  · exact (exchangeInv_iff _).2 ⟨exchangeHeld_of_view (s := u) rfl hinv.1, begun_of_view (s := u) rfl hinv.2⟩
  · exact beginNext_inv (serveAccess_held x hinv.1)

/-! ### The memory freed -/

/-- The half state accesses that may still come before the writer needs none. -/
def halfSteps : List HalfAccess → Nat
  | [] => 0
  | [.writeFilling _] => 1
  | [.look _] => 2
  | _ => 3

theorem halfSteps_le (q : List HalfAccess) : halfSteps q ≤ 3 := by
  unfold halfSteps
  split <;> omega

theorem halfAccess_steps {x : HalfAccess} {rest : List HalfAccess} {s : State}
    (h : HalfWork s.rpw) (hw : s.rpw.halfWork = x :: rest) :
    halfSteps (halfAccess x rest s).rpw.halfWork < halfSteps (x :: rest) := by
  simp only [HalfWork, hw] at h
  unfold halfAccess
  cases x with
  | writeClosed k => match rest, h with | [.look o], _ => exact Nat.lt_succ_self 2
  | writeFilling k => match rest, h with | [], _ => exact Nat.zero_lt_one
  | look k =>
    match rest, h with
    | [], _ =>
      dsimp only
      split
      · simp [takeHalf, halfSteps]
      · exact Nat.zero_lt_two

/-- After the beginning of what begins by itself the memory is free, or a half state access less is due. -/
theorem beginNext_steps {s : State} (h : HalfWork s.rpw) (hfree : s.pxm.burst = none) :
    (beginNext s).pxm.burst = none ∨
      halfSteps (beginNext s).rpw.halfWork < halfSteps s.rpw.halfWork := by
  unfold beginNext
  split
  · exact .inl hfree
  next hw =>
    split
    · exact .inr (hw ▸ halfAccess_steps h hw)
    · exact .inl hfree

/-- The accesses served leave the burst, and those that wait. -/
theorem serveAccess_burst (x : PressAccess) (s : State) :
    (serveAccess x s).pxm.burst = s.pxm.burst ∧ (serveAccess x s).pxm.waiting = s.pxm.waiting := by
  have hask : ∀ b n u, (askFor b n u).pxm.waiting = u.pxm.waiting := by
    intro b n u
    unfold askFor
    split <;> rfl
  cases x with
  | read a => exact ⟨rfl, rfl⟩
  | write a w =>
    unfold serveAccess pressWrite pagePostedAct takePage halfFreedAct takeHalf
    dsimp only
    split
    · split
      · split
        · exact ⟨rfl, rfl⟩
        · exact ⟨(askFor_burst _ _ _).trans rfl, (hask _ _ _).trans rfl⟩
      · exact ⟨rfl, rfl⟩
    · split
      · exact ⟨(askFor_burst _ _ _).trans rfl, (hask _ _ _).trans rfl⟩
      · exact ⟨rfl, rfl⟩
    · exact ⟨rfl, rfl⟩

theorem serveWaiting_burst (s : State) :
    (serveWaiting s).pxm.burst = s.pxm.burst ∧ (serveWaiting s).pxm.waiting = [] := by
  refine foldl_inv (P := fun u => u.pxm.burst = s.pxm.burst ∧ u.pxm.waiting = [])
    (fun u x hu => ?_) _ ⟨rfl, rfl⟩
  obtain ⟨h1, h2⟩ := serveAccess_burst x u
  exact ⟨h1.trans hu.1, h2.trans hu.2⟩

theorem beginNext_waiting (s : State) : (beginNext s).pxm.waiting = s.pxm.waiting := by
  unfold beginNext halfAccess takeHalf
  dsimp only
  repeat' split
  all_goals simp [beginBurst]

theorem endBurst_burst (s : State) : (endBurst s).pxm.burst = none ∧
    (endBurst s).pxm.waiting = s.pxm.waiting ∧ (endBurst s).rpw = s.rpw := by
  unfold endBurst
  repeat' split
  all_goals simp_all

/-- The half state accesses due stay in order where they are taken in turn. -/
theorem beginNext_halfWork {s : State} (h : HalfWork s.rpw) : HalfWork (beginNext s).rpw := by
  unfold beginNext
  split
  · exact h
  next x rest hw =>
    split
    · simp only [HalfWork, hw] at h
      unfold halfAccess
      cases x with
      | writeClosed k =>
        match rest, h with
        | [.look o], ⟨hwriter, ho, hage⟩ => exact ⟨by rw [ho]; cases k <;> exact hwriter, hage⟩
      | writeFilling k => match rest, h with | [], _ => trivial
      | look k =>
        match rest, h with
        | [], _ =>
          dsimp only
          split
          · simp [takeHalf, HalfWork]
          · trivial
    · exact h

theorem serveAccess_halfWork {s : State} (x : PressAccess) (h : HalfWork s.rpw) :
    HalfWork (serveAccess x s).rpw := by
  cases x with
  | read a => exact h
  | write a w =>
    unfold serveAccess pressWrite pagePostedAct takePage halfFreedAct
    dsimp only
    repeat' split
    all_goals first
      | simpa using h
      | simp [takeHalf, HalfWork]

theorem serveWaiting_halfWork {s : State} (h : HalfWork s.rpw) :
    HalfWork (serveWaiting (endBurst s)).rpw := by
  refine foldl_inv (P := fun u => HalfWork u.rpw) (fun u x hu => serveAccess_halfWork x hu) _ ?_
  rw [State.setPxm_rpw, (endBurst_burst s).2.2]
  exact h

theorem settleMemory_halfWork {s : State} (h : HalfWork s.rpw) : HalfWork (settleMemory s).rpw := by
  unfold settleMemory
  split
  · exact h
  · exact beginNext_halfWork (serveWaiting_halfWork h)

/-- A memory that is settled is free, or one of the half state accesses has begun. -/
theorem settleMemory_steps {s : State} (h : HalfWork s.rpw) :
    (settleMemory s).pxm.burst = none ∨ ((settleMemory s).pxm.waiting = [] ∧
      halfSteps (settleMemory s).rpw.halfWork < halfSteps (serveWaiting (endBurst s)).rpw.halfWork) := by
  unfold settleMemory
  split
  next hr =>
    simp only [readBurst, Bool.and_eq_true, Option.isNone_iff_eq_none] at hr
    exact .inl hr.1
  next =>
    obtain ⟨h1, h2⟩ := serveWaiting_burst (endBurst s)
    exact (beginNext_steps (serveWaiting_halfWork h) (h1.trans (endBurst_burst s).1)).imp_right
      fun e => ⟨(beginNext_waiting _).trans h2, e⟩

theorem settleBursts_free (n : Nat) {s : State} (h : HalfWork s.rpw)
    (hs : s.pxm.burst = none ∨ (s.pxm.waiting = [] ∧ halfSteps s.rpw.halfWork < n)) :
    (settleBursts n s).pxm.burst = none := by
  induction n generalizing s with
  | zero => exact hs.resolve_right (fun e => by omega)
  | succ n ih =>
    unfold settleBursts
    split
    next hb =>
      obtain ⟨hw, hlt⟩ := hs.resolve_left fun e => by simp [e] at hb
      refine ih (settleMemory_halfWork h) ((settleMemory_steps h).imp_right fun ⟨hw', hlt'⟩ => ⟨hw', ?_⟩)
      obtain ⟨-, h2, h3⟩ := endBurst_burst s
      rw [serveWaiting_none _ (h2.trans hw), h3] at hlt'
      omega
    next hb => simpa using hb

/-- A freed memory has no burst (R178, R180). -/
theorem freeMemory_burst {s : State} (h : HalfWork s.rpw) : (freeMemory s).pxm.burst = none :=
  settleBursts_free 3 (settleMemory_halfWork h) ((settleMemory_steps h).imp_right fun ⟨hw, hlt⟩ =>
    ⟨hw, hlt.trans_le (halfSteps_le _)⟩)

end Sys2Proof.Machine
end

section
/-! The commands of the bursts, the notes, the pages and the reports keep the memory's side in order, and with
them every step (R78 to R82, R156 to R158, R170, R176, R179, R180). -/

namespace Sys2Proof.Machine

/-! ### Page work -/

/-- Bursts that move no page on, for notes of a page. -/
def QuietWork (q : List NoteBurst) : Prop :=
  ∀ b ∈ q, b.isPageStep = false ∧ ∀ i ∈ b.index, i < 48

/-- Quiet work behind work in order is in order. -/
theorem PageWork.append {n : Ntp} {rest : List NoteBurst} (h : PageWork n)
    (hrest : QuietWork rest) : PageWork { n with work := n.work ++ rest } := by
  obtain ⟨hindex, hcount, hpages⟩ := h
  have hquiet : rest.countP NoteBurst.isPageStep = 0 :=
    List.countP_eq_zero.2 fun b hb => by simp [(hrest b hb).1]
  refine ⟨fun b hb => ?_, by simpa [List.countP_append, hquiet] using hcount, ?_⟩
  · exact (List.mem_append.1 hb).elim (hindex b) fun hb => (hrest b hb).2
  · have hstep : ∀ b ∈ n.work ++ rest, b.isPageStep = true → b ∈ n.work := fun b hb hs =>
      (List.mem_append.1 hb).resolve_right fun hb => by simp [(hrest b hb).1] at hs
    dsimp only at hpages ⊢
    split at hpages
    · exact fun b hb hs => hpages b (hstep b hb hs) hs
    · exact ⟨hpages.1, hpages.2.1, fun b hb hs => hpages.2.2 b (hstep b hb hs) hs⟩

/-- Behind a burst that moves the page on, the work is quiet. -/
theorem PageWork.quiet_tail {n : Ntp} {b : NoteBurst} {rest : List NoteBurst} (h : PageWork n)
    (hw : n.work = b :: rest) (hb : b.isPageStep = true) : QuietWork rest := by
  obtain ⟨hindex, hcount, -⟩ := h
  rw [hw] at hindex hcount
  rw [List.countP_cons_of_pos hb] at hcount
  have hquiet := List.countP_eq_zero.1 (Nat.le_zero.1 (Nat.le_of_succ_le_succ hcount))
  exact fun c hc => ⟨by simpa using hquiet c hc, hindex c (List.mem_cons_of_mem _ hc)⟩

/-- A burst done leaves the rest of the work in order. -/
theorem PageWork.tail {n : Ntp} (h : PageWork n) : PageWork { n with work := n.work.tail } := by
  obtain ⟨hindex, hcount, hpages⟩ := h
  refine ⟨fun b hb => hindex b (List.mem_of_mem_tail hb),
    ((List.tail_sublist _).countP_le).trans hcount, ?_⟩
  dsimp only
  split at hpages
  · exact fun b hb => hpages b (List.mem_of_mem_tail hb)
  · exact ⟨hpages.1, hpages.2.1, fun b hb => hpages.2.2 b (List.mem_of_mem_tail hb)⟩

/-- A burst that moves no page on put in the place of another such burst. -/
theorem PageWork.replace {n : Ntp} {b c : NoteBurst} {rest : List NoteBurst} (h : PageWork n)
    (hw : n.work = b :: rest) (hc : c.isPageStep = false) (hi : c.index = b.index) :
    PageWork { n with work := c :: rest } := by
  have htail := h.tail
  obtain ⟨hindex, -⟩ := h
  rw [hw] at hindex htail
  obtain ⟨-, hcount, hpages⟩ := htail
  refine ⟨List.forall_mem_cons.2 ⟨hi ▸ hindex b List.mem_cons_self, fun d hd =>
    hindex d (List.mem_cons_of_mem _ hd)⟩, by simpa [hc] using hcount, ?_⟩
  dsimp only at hpages ⊢
  split at hpages
  · simpa [hc] using hpages
  · simpa [hc] using hpages

/-- A page's next note has a place in it. -/
theorem PageWork.note_left {n : Ntp} {b : NoteBurst} {rest : List NoteBurst} {p : PageInWork}
    (h : PageWork n) (hw : n.work = b :: rest) (hp : n.inWork = some p) (hb : b.isPageStep = true)
    (hf : b ≠ .finishing) : p.next < p.count ∧ p.count ≤ 48 := by
  obtain ⟨-, -, hpages⟩ := h
  rw [hp, hw] at hpages
  exact ⟨(hpages.2.2 b List.mem_cons_self hb).2 hf, hpages.2.1⟩

/-- The work after a note of the page in work (R80). -/
theorem PageWork.noteDone {n : Ntp} {b : NoteBurst} {rest : List NoteBurst} {p : PageInWork}
    (h : PageWork n) (hw : n.work = b :: rest) (hp : n.inWork = some p) (hb : b.isPageStep = true)
    (hf : b ≠ .finishing) (f : Fate) (d : Nat) :
    PageWork { n with
      inWork := some { p with next := p.next + 1 },
      work := .fateWrite p.page p.next f d :: workAfterNote p n.work } := by
  obtain ⟨hlt, hle⟩ := h.note_left hw hp hb hf
  have hnew : PageWork { n with
      inWork := some { p with next := p.next + 1 },
      work := [.fateWrite p.page p.next f d,
        if p.count ≤ p.next + 1 then .finishing else .noteRead] } := by
    have : p.next < 48 := by omega
    by_cases hc : p.count ≤ p.next + 1 <;>
      simp [PageWork, NoteBurst.isPageStep, NoteBurst.index, hc] <;> omega
  have := hnew.append (h.quiet_tail hw hb)
  rw [workAfterNote, hw]
  exact this

/-- The work after the taking of a page (R79). -/
theorem PageWork.taken {n : Ntp} {rest : List NoteBurst} (h : PageWork n)
    (hw : n.work = .pageTaking :: rest) (page : Page) (k : Nat) (hc : Count) :
    PageWork { n with
      inWork := some ⟨page, heldCount k, hc, 0⟩,
      work := (if heldCount k = 0 then .finishing else .noteRead) :: rest } := by
  have hle : heldCount k ≤ 48 := Nat.min_le_right _ _
  have hnew : PageWork { n with
      inWork := some ⟨page, heldCount k, hc, 0⟩,
      work := [if heldCount k = 0 then .finishing else .noteRead] } := by
    by_cases h0 : heldCount k = 0
    · simp [PageWork, NoteBurst.isPageStep, NoteBurst.index, h0]
    · simp [PageWork, NoteBurst.isPageStep, NoteBurst.index, h0]
      omega
  exact hnew.append (h.quiet_tail hw rfl)

/-- The work after the finishing of a page (R81). -/
theorem PageWork.finished {n : Ntp} {rest : List NoteBurst} (h : PageWork n)
    (hw : n.work = .finishing :: rest) (page : Page) (hor : Option Count) :
    PageWork { n with
      inWork := none, expectedPage := page, horizon := hor, work := .stateCheck :: rest } := by
  have hnew : PageWork { n with
      inWork := none, expectedPage := page, horizon := hor, work := [.stateCheck] } := by
    simp [PageWork, NoteBurst.isPageStep, NoteBurst.index]
  exact hnew.append (h.quiet_tail hw rfl)

/-- The work after a JOB note's note read: its job copy (R142). -/
theorem PageWork.jobCopied {n : Ntp} {rest : List NoteBurst} {p : PageInWork} (h : PageWork n)
    (hw : n.work = .noteRead :: rest) (hp : n.inWork = some p) (slot : Nat) :
    PageWork { n with work := .jobCopy slot :: rest } := by
  obtain ⟨hlt, hle⟩ := h.note_left hw hp rfl nofun
  have hnew : PageWork { n with work := [.jobCopy slot] } := by
    simp only [PageWork, hp]
    simp [NoteBurst.isPageStep, NoteBurst.index]
    omega
  exact hnew.append (h.quiet_tail hw rfl)

/-- With no page in work, quiet work is in order. -/
theorem pageWork_of_quiet {n : Ntp} (hn : n.inWork = none) (h : QuietWork n.work) : PageWork n := by
  refine ⟨fun b hb => (h b hb).2, ?_, ?_⟩
  · exact (List.countP_eq_zero.2 fun b hb => by simp [(h b hb).1]).le.trans (Nat.zero_le 1)
  · rw [hn]
    exact fun b hb hs => by simp [(h b hb).1] at hs

/-- What START leaves to the Note Processor moves no page on (R82, R158). -/
theorem workAfterStart_quiet {n : Ntp} (h : PageWork n) (ready requested : Bool) :
    QuietWork (workAfterStart ready requested n) := by
  have hkept : QuietWork (n.work.filterMap (keptAtStart ready)) := by
    intro c hc
    obtain ⟨b, hb, e⟩ := List.mem_filterMap.1 hc
    have hi := h.1 b hb
    unfold keptAtStart at e
    split at e <;> simp only [Option.some.injEq, reduceCtorEq] at e <;> subst e <;>
      first
        | exact ⟨rfl, hi⟩
        | (split <;> exact ⟨rfl, hi⟩)
  have hlate : QuietWork (lateNote ready n).toList := by
    intro c hc
    unfold lateNote at hc
    split at hc
    next p rest hp hw =>
      have := h.note_left hw hp rfl nofun
      simp only [Option.toList_some, List.mem_singleton] at hc
      subst hc
      exact ⟨rfl, fun i hi => by cases hi; omega⟩
    next p slot rest hp hw =>
      have := h.note_left hw hp rfl nofun
      simp only [Option.toList_some, List.mem_singleton] at hc
      subst hc
      exact ⟨rfl, fun i hi => by cases hi; omega⟩
    next => cases hc
  have hcut : QuietWork (cutShort (lateNote ready n).isSome n.inWork) := by
    intro c hc
    unfold cutShort at hc
    split at hc
    · cases hc
    next p hp =>
      have hle : p.count ≤ 48 := by
        obtain ⟨-, -, hpages⟩ := h
        rw [hp] at hpages
        exact hpages.2.1
      simp only [cutShortFrom, List.mem_append, List.mem_map, List.mem_range, List.mem_singleton] at hc
      obtain ⟨k, hk, rfl⟩ | rfl := hc
      · exact ⟨rfl, fun i hi => by cases hi; omega⟩
      · exact ⟨rfl, nofun⟩
  have hall : QuietWork ((lateNote ready n).toList ++ n.work.filterMap (keptAtStart ready) ++
      cutShort (lateNote ready n).isSome n.inWork) := by
    intro c hc
    simp only [List.mem_append] at hc
    exact hc.elim (fun hc => hc.elim (hlate c) (hkept c)) (hcut c)
  unfold workAfterStart
  dsimp only
  split
  · intro c hc
    obtain hc | hc := List.mem_append.1 hc
    · exact hall c hc
    · rw [List.mem_singleton.1 hc]
      exact ⟨rfl, nofun⟩
  · exact hall

/-- A request of the Note Processor that START keeps has a burst (R176). -/
theorem workAfterStart_ne_nil (ready : Bool) (n : Ntp) : workAfterStart ready true n ≠ [] := by
  unfold workAfterStart
  dsimp only
  split
  · simp
  next h =>
    simp only [Bool.true_and, Bool.or_eq_true, not_or, List.isEmpty_iff] at h
    exact h.2

end Sys2Proof.Machine
end

section
/-! Every command of the bursts keeps the memory's side in order, and with them every step (R78 to R82, R156
to R158, R170, R176, R179, R180). -/

namespace Sys2Proof.Machine

/-! ### Notes -/

/-- Requests taken in some order: each source of the list has its request, and no other joins (R170). -/
theorem takeDue_requests (ts : List BurstSource) {s : State} (h : s.pxm.requests.Nodup) :
    ∃ q n, takeDue requestDue requestBurst ts s = (setRequests q s).setChoices n ∧ q.Nodup ∧
      ∀ c, c ∈ q ↔ c ∈ s.pxm.requests ∨ c ∈ ts := by
  have htake : ∀ (us : List BurstSource) (n : Nat) (p : List BurstSource), p.Nodup →
      ∃ q, takeAll requestBurst us ((setRequests p s).setChoices n) =
        (setRequests q s).setChoices n ∧ q.Nodup ∧ ∀ c, c ∈ q ↔ c ∈ p ∨ c ∈ us := by
    intro us n
    induction us with
    | nil => exact fun p hp => ⟨p, rfl, hp, by simp⟩
    | cons b us ih =>
      intro p hp
      obtain ⟨q, hq, hnodup, hmem⟩ := ih _ (withRequest_nodup b hp)
      refine ⟨q, hq, hnodup, fun c => ?_⟩
      rw [hmem, List.mem_cons, ← or_assoc]
      refine or_congr_left ?_
      unfold withRequest
      split
      next hb => constructor <;> [exact .inl; rintro (h | rfl)] <;> assumption
      next => simp
  have hself : s = (setRequests s.pxm.requests s).setChoices s.choices := rfl
  have hmem : ∀ c, c ∈ s.pxm.requests ∨ c ∈ ts.filter (fun t => requestDue t s) ↔
      c ∈ s.pxm.requests ∨ c ∈ ts := by
    intro c
    simp only [requestDue, List.mem_filter, Bool.not_eq_true', List.contains_eq_mem,
      decide_eq_false_iff_not]
    tauto
  unfold takeDue
  split
  next hd => exact ⟨_, _, hself, h, fun c => by rw [← hmem, hd]; simp⟩
  next t hd =>
    obtain ⟨q, hq, hnodup, hm⟩ := htake [t] s.choices _ h
    exact ⟨q, _, hq, hnodup, fun c => by rw [hm, ← hmem, hd]⟩
  next t u rest hd =>
    obtain ⟨q, hq, hnodup, hm⟩ := htake
      (permute (Config.order s.choices) (rest.length + 2) (t :: u :: rest)) (s.choices + 1) _ h
    refine ⟨q, _, hq, hnodup, fun c => ?_⟩
    rw [hm, ← hmem, hd]
    exact or_congr_right (permute_perm _ _ _ (by simp)).mem_iff

/-- A note's event requests its fate write, and keeps the report write that it brought (R170). -/
theorem requestTogether_requests (before : State) {s : State} (h : s.pxm.requests.Nodup) :
    ∃ q n, requestTogether before s = (setRequests q s).setChoices n ∧ q.Nodup ∧
      ∀ c, c ∈ q ↔ c ∈ s.pxm.requests ∨ c = .notes := by
  unfold requestTogether
  split
  next hr =>
    simp only [Bool.and_eq_true, List.contains_eq_mem, decide_eq_true_eq] at hr
    obtain ⟨q, n, hq, hnodup, hm⟩ := takeDue_requests [.notes, .reports]
      (s := withdrawBurst .reports s) (h.filter _)
    refine ⟨q, n, hq, hnodup, fun c => ?_⟩
    rw [hm]
    simp only [withdrawBurst, setRequests, State.setPxm_pxm, List.mem_filter, bne_iff_ne, ne_eq,
      List.mem_cons, List.not_mem_nil, or_false]
    constructor
    · rintro (⟨hc, -⟩ | rfl | rfl)
      · exact .inl hc
      · exact .inr rfl
      · exact .inl hr.1
    · rintro (hc | rfl)
      · by_cases hcr : c = .reports
        · exact .inr (.inr hcr)
        · exact .inl ⟨hc, hcr⟩
      · exact .inr (.inl rfl)
  next =>
    refine ⟨withRequest .notes s.pxm.requests, s.choices, rfl, withRequest_nodup _ h, fun c => ?_⟩
    unfold withRequest
    split
    next hb => constructor <;> [exact .inl; rintro (h | rfl)] <;> assumption
    next => simp

/-- The turn of the Note Processor in a free memory, with its work and its page. -/
structure WorkTurn (w : List NoteBurst) (x : Option PageInWork) (s : State) : Prop where
  held : ExchangeHeld s
  free : s.pxm.burst = none
  turn : hasTurn .notes s = true
  work : s.ntp.work = w
  inWork : s.ntp.inWork = x

/-- What a note does leaves the turn that stands. -/
theorem workTurn_run (w : List NoteBurst) (x : Option PageInWork) : KeptByRun (WorkTurn w x) := by
  refine keptByRun_of_view (fun e h => ?_) fun s r h => ?_
  · obtain ⟨h1, h2, h3, h4, h5⟩ := h
    have hheld := exchangeHeld_of_view e h1
    simp only [exchangeView, ExchangeView.mk.injEq] at e
    obtain ⟨-, e2, e3, e4, e5, -⟩ := e
    exact ⟨hheld, e3.trans h2, by rw [hasTurn, e2]; exact h3, e5.trans h4, e4.trans h5⟩
  · refine ⟨queueRecord_held s r h.held, by simpa using h.free, ?_, by simpa using h.work,
      by simpa using h.inWork⟩
    obtain ⟨q, hq⟩ := (hasTurn_iff _ s).1 h.turn
    unfold queueRecord
    split
    · unfold updateReportRequest askFor
      split
      · refine beq_iff_eq.2 ((withRequest_head _ _ _).2 (.inl ?_))
        simp [hq]
      · exact h.turn
    · exact h.turn

/-- A note's event gives its fate write to the work, and requests it (R80, R170). -/
theorem giveFate_held (before : State) (page : Page) (i : Nat) (w : List NoteBurst)
    (o : State × Fate × Nat) (hport : PortOk o.1.pxm) (hturn : hasTurn .notes o.1 = true)
    (hwriter : WriterOk o.1.rpw) (hreports : Asked o.1.pxm .reports (o.1.rpw.needsBurst = true))
    (hpages : PageWork { o.1.ntp with work := .fateWrite page i o.2.1 o.2.2 :: w }) :
    ExchangeHeld (giveFate before page i w o) := by
  obtain ⟨u, f, d⟩ := o
  have hpop := popRequest_port hport
  obtain ⟨q, n, hq, hnodup, hm⟩ := requestTogether_requests before
    (s := (popRequest u).setNtp { u.ntp with work := .fateWrite page i f d :: w }) hpop.once
  unfold giveFate
  dsimp only
  rw [show (popRequest u).ntp = u.ntp from rfl, hq]
  refine ⟨⟨hpop.memory, hnodup, fun y hy => ⟨fun hmem => ?_, (hpop.single y hy).2⟩, hpop.words⟩,
    hpages, hwriter, .inr ⟨nofun, fun _ => (hm _).2 (.inr rfl)⟩, ?_⟩
  · obtain hmem | hmem := (hm _).1 hmem
    · exact (hpop.single y hy).1 hmem
    · exact not_bursts_of_turn hport hturn ⟨y, hy, hmem⟩
  · exact (popRequest_asked hturn (by decide) hreports).imp_right fun e =>
      (hm _).trans (by simpa using e)

theorem WorkTurn.finishNote {b : NoteBurst} {rest : List NoteBurst} {p : PageInWork}
    {o : State × Fate × Nat} (h : WorkTurn (b :: rest) (some p) o.1) (hb : b.isPageStep = true)
    (hf : b ≠ .finishing) (before : State) : ExchangeHeld (finishNote before p o) :=
  giveFate_held _ _ _ _ _ h.held.port h.turn h.held.writer h.held.reports
    (h.held.pages.noteDone h.work h.inWork hb hf _ _)

theorem WorkTurn.finishLate {b : NoteBurst} {rest : List NoteBurst} {x : Option PageInWork}
    {o : State × Fate × Nat} {i : Nat} (h : WorkTurn (b :: rest) x o.1) (hi : b.index = some i)
    (before : State) (page : Page) : ExchangeHeld (finishLate before page i o) := by
  refine giveFate_held _ _ _ _ _ h.held.port h.turn h.held.writer h.held.reports ?_
  rw [h.work]
  exact h.held.pages.replace h.work rfl hi.symm

/-- A burst that only reads, taken at its end, with the work that follows (R170). -/
theorem WorkTurn.serveRead {w : List NoteBurst} {x : Option PageInWork} {u : State}
    (h : WorkTurn w x u) {v : List NoteBurst} (hv : PageWork { u.ntp with work := v }) :
    ExchangeHeld (serveRead v u) :=
  exchangeHeld_setNoteWork (popRequest_port h.held.port) hv h.held.writer
    (popRequest_asked h.turn (by decide) h.held.reports)
    (.inr fun hm => absurd hm (notMem_tail_requests h.held.port h.turn))

/-- The turn that a command for the Note Processor finds once the memory is free. -/
theorem workTurn_free {s : State} (h : ExchangeInv s) {b : NoteBurst}
    (ht : noteTurn (freeMemory s) = some b) : ∃ rest,
      WorkTurn (b :: rest) (freeMemory s).ntp.inWork (freeMemory s) := by
  unfold noteTurn at ht
  split at ht
  next hturn =>
    obtain ⟨rest, hw⟩ := List.head?_eq_some_iff.1 ht
    exact ⟨rest, ((exchangeInv_iff _).1 (freeMemory_inv h)).1, freeMemory_burst h.halfWork, hturn, hw, rfl⟩
  next => cases ht

theorem noteStep_inv (s : State) (k : NoteKind) (f : State → Note → State × Fate × Nat)
    (hf : ∀ w x u m a n, decodeNote m a = .inl n → WorkTurn w x u → WorkTurn w x (f u n).1)
    (h : ExchangeInv s) : ExchangeInv (noteStep k f s) := by
  unfold noteStep
  dsimp only
  split
  next p ht hp =>
    split
    · obtain ⟨rest, hturn⟩ := workTurn_free h ht
      rw [hp] at hturn
      refine afterBurst_inv ?_
      unfold noteEvent
      split
      · exact WorkTurn.finishNote (o := (_, _)) hturn rfl nofun _
      next hn => exact (hf _ _ _ _ _ _ hn hturn).finishNote rfl nofun _
    · exact h
  next ht =>
    split
    · obtain ⟨rest, hturn⟩ := workTurn_free h ht
      exact afterBurst_inv (WorkTurn.finishLate (o := (_, _)) hturn rfl _ _)
    · exact h
  next => exact h

/-- The end of the note read of a JOB note: its fate, or its job copy in the place of the read (R142). -/
theorem jobNoteRead_held {w : List NoteBurst} {x : Option PageInWork} {u : State}
    (h : WorkTurn w x u) (a : Nat) {finish : State × Fate × Nat → State} {copy : Nat → NoteBurst}
    (hfinish : ∀ f, ExchangeHeld (finish (u, f)))
    (hcopy : ∀ slot, PageWork { u.ntp with work := copy slot :: u.ntp.work.tail }) :
    ExchangeHeld (jobNoteRead a finish copy u) := by
  unfold jobNoteRead
  repeat' split
  · exact hfinish _
  · exact h.serveRead (hcopy _)
  · exact h.serveRead (hcopy _)
  · exact h.held
  · exact hfinish _

theorem jobNoteStep_inv (s : State) (h : ExchangeInv s) : ExchangeInv (jobNoteStep s) := by
  unfold jobNoteStep
  dsimp only
  split
  next p ht hp =>
    split
    · obtain ⟨rest, hturn⟩ := workTurn_free h ht
      rw [hp] at hturn
      refine afterBurst_inv (jobNoteRead_held hturn _
        (fun _ => WorkTurn.finishNote (o := (_, _)) hturn rfl nofun _) fun slot => ?_)
      rw [hturn.work]
      exact hturn.held.pages.jobCopied hturn.work hturn.inWork slot
    · exact h
  next slot p ht hp =>
    obtain ⟨rest, hturn⟩ := workTurn_free h ht
    rw [hp] at hturn
    exact afterBurst_inv (((workTurn_run _ _).jobOutcome _ slot hturn).finishNote rfl nofun _)
  next _ page i ht =>
    split
    · obtain ⟨rest, hturn⟩ := workTurn_free h ht
      refine afterBurst_inv (jobNoteRead_held hturn _
        (fun _ => WorkTurn.finishLate (o := (_, _)) hturn rfl _ _) fun slot => ?_)
      rw [hturn.work]
      exact hturn.held.pages.replace hturn.work rfl rfl
    · exact h
  next _ page i slot ht =>
    obtain ⟨rest, hturn⟩ := workTurn_free h ht
    exact afterBurst_inv (((workTurn_run _ _).jobOutcome _ slot hturn).finishLate rfl _ _)
  next => exact h

/-! ### Pages -/

theorem begun_of_burst {s : State} {b : BurstSource} (h : Bursts s.pxm b) : Begun s := by
  obtain ⟨y, hy, -⟩ := h
  exact fun e => absurd (hy.symm.trans e) nofun

/-- A burst of the Note Processor that writes: the work that follows waits for its end. -/
theorem WorkTurn.write {w : List NoteBurst} {x : Option PageInWork} {u : State} (h : WorkTurn w x u)
    {v : State} {q : List NoteBurst} (hport : PortOk v.pxm) (hbursts : Bursts v.pxm .notes)
    (hreports : Asked (beginBurst .notes u).pxm .reports (u.rpw.needsBurst = true) →
      Asked v.pxm .reports (u.rpw.needsBurst = true))
    (hrpw : v.rpw = u.rpw) (hpages : PageWork { v.ntp with work := q }) :
    ExchangeInv (setNoteWork q v) := by
  refine (exchangeInv_iff _).2 ⟨exchangeHeld_setNoteWork hport hpages (hrpw ▸ h.held.writer) ?_
    (.inl hbursts), begun_of_burst (b := .notes) ?_⟩
  · rw [hrpw]
    exact hreports (beginBurst_asked h.turn h.free (by decide) h.held.reports)
  · unfold setNoteWork updateNoteRequest
    rw [Bursts, askFor_burst]
    exact hbursts

theorem fateWrite_inv (s t : State) (e : execFateWrite s = .next t) (h : ExchangeInv s) :
    ExchangeInv t := by
  unfold execFateWrite at e
  dsimp only at e
  split at e <;> cases e
  next p i f d ht =>
    obtain ⟨rest, hturn⟩ := workTurn_free h ht
    have hport := beginBurst_port hturn.held.port hturn.turn (by decide)
    have hi : i < 48 := hturn.held.pages.1 _ (by rw [hturn.work]; exact List.mem_cons_self) i rfl
    have haddr : noteAddress p i + 14 + 2 * 1 ≤ 8192 := by
      unfold noteAddress pageBase
      cases p <;> dsimp only <;> omega
    exact hturn.write (burstWrite_port hport haddr)
      ((burstWrite_bursts _ _ _ _).2 (beginBurst_bursts _ _)) burstWrite_asked rfl
      hturn.held.pages.tail
  · exact h

theorem pageBase_within (p : Page) : pageBase p + 4 + 2 * 1 ≤ 8192 := by cases p <;> decide

theorem pageTaking_inv (s t : State) (e : execPageTaking s = .next t) (h : ExchangeInv s) :
    ExchangeInv t := by
  unfold execPageTaking at e
  dsimp only at e
  split at e <;> cases e
  next ht =>
    obtain ⟨rest, hturn⟩ := workTurn_free h ht
    have hport := beginBurst_port hturn.held.port hturn.turn (by decide)
    have hbase := pageBase_within (freeMemory s).ntp.expectedPage
    unfold takeExpected
    dsimp only
    refine hturn.write (burstWrite_port (burstWrite_port hport ?_) ?_) ?_
      (fun e => burstWrite_asked (burstWrite_asked e)) rfl ?_
    · simp only [List.length_singleton]; omega
    · exact hbase
    · exact (burstWrite_bursts _ _ _ _).2 ((burstWrite_bursts _ _ _ _).2 (beginBurst_bursts _ _))
    · have := hturn.held.pages.taken hturn.work (freeMemory s).ntp.expectedPage
        (Memory.natWord (freeMemory s).pxm.memory (pageBase (freeMemory s).ntp.expectedPage + 2))
        (Memory.readCount (freeMemory s).pxm.memory (pageBase (freeMemory s).ntp.expectedPage + 8))
      have hwork : (freeMemory s).ntp.work.tail = rest := by rw [hturn.work]; rfl
      rw [← hwork] at this
      exact this
  · exact h

theorem doneBurst_port {u : State} {w : List NoteBurst} {x : Option PageInWork} (h : WorkTurn w x u)
    (page : Page) : PortOk (doneBurst page u).pxm ∧ Bursts (doneBurst page u).pxm .notes ∧
      (Asked (beginBurst .notes u).pxm .reports (u.rpw.needsBurst = true) →
        Asked (doneBurst page u).pxm .reports (u.rpw.needsBurst = true)) ∧
      (doneBurst page u).rpw = u.rpw := by
  have hport := burstWrite_port (a := pageBase page) (ws := [pageDone])
    (beginBurst_port h.held.port h.turn (by decide))
    (by have := pageBase_within page; simp only [List.length_singleton]; omega)
  exact ⟨⟨hport.memory, hport.once, hport.single, hport.words⟩,
    (burstWrite_bursts (pageBase page) [pageDone] _ _).2 (beginBurst_bursts .notes u),
    fun e => burstWrite_asked (a := pageBase page) (ws := [pageDone]) e, rfl⟩

theorem pageFinishing_inv (s t : State) (e : execPageFinishing s = .next t) (h : ExchangeInv s) :
    ExchangeInv t := by
  unfold execPageFinishing at e
  dsimp only at e
  split at e <;> cases e
  next p ht hp =>
    obtain ⟨rest, hturn⟩ := workTurn_free h ht
    obtain ⟨hport, hbursts, hreports, hrpw⟩ := doneBurst_port hturn p.page
    refine hturn.write (v := (doneBurst p.page (freeMemory s)).setNtp { (freeMemory s).ntp with
      inWork := none, expectedPage := otherPage p.page,
      horizon := horizonAfter (freeMemory s).rnc.record p.hc (freeMemory s).ntp.horizon })
      (q := .stateCheck :: (freeMemory s).ntp.work.tail) hport hbursts hreports hrpw ?_
    have hwork : (freeMemory s).ntp.work.tail = rest := by rw [hturn.work]; rfl
    rw [hwork]
    exact hturn.held.pages.finished hturn.work _ _
  next _ page ht =>
    obtain ⟨rest, hturn⟩ := workTurn_free h ht
    obtain ⟨hport, hbursts, hreports, hrpw⟩ := doneBurst_port hturn page
    exact hturn.write (v := doneBurst page (freeMemory s)) (q := (freeMemory s).ntp.work.tail) hport
      hbursts hreports hrpw hturn.held.pages.tail
  · exact h

theorem pageStateCheck_inv (s t : State) (e : execPageStateCheck s = .next t) (h : ExchangeInv s) :
    ExchangeInv t := by
  unfold execPageStateCheck at e
  dsimp only at e
  split at e <;> cases e
  next ht =>
    obtain ⟨rest, hturn⟩ := workTurn_free h ht
    have hserved := hturn.serveRead hturn.held.pages.tail
    refine afterBurst_inv ?_
    unfold checkPage
    dsimp only
    split
    next hfinds =>
      refine takePage_held hserved ?_
      simp only [checkFinds, Bool.and_eq_true, Option.isNone_iff_eq_none] at hfinds
      simpa [serveRead] using hfinds.2
    next => exact hserved
  · exact h

/-! ### Reports and live status -/

theorem recordWords_length (r : Record) (d : Bool) : (recordWords r d).length = 16 := by
  have hle : (recordFields r).length ≤ 15 := by
    cases r <;> simp [recordFields, countWords, tallyWords, allReasons]
  simp only [recordWords, List.length_append, List.length_cons, List.length_replicate]
  omega

/-- The writer at the closing of its half (R180). -/
theorem writerOk_closing {x : Rpw} {k : Half} (hw : x.writer = .filling k) (hi : x.fillIndex ≤ 48) :
    WriterOk { x with ageTimer := none, halfWork := [.writeClosed k, .look (otherHalf k)] } := by
  refine ⟨⟨hw, rfl, rfl⟩, fun c _ => ?_, nofun⟩
  obtain h | h := Nat.lt_or_eq_of_le hi
  · exact .inl h
  · exact .inr ⟨h, nofun⟩

theorem closeHalf_held {u : State} {k : Half} (hport : PortOk u.pxm) (hpages : PageWork u.ntp)
    (hw : u.rpw.writer = .filling k) (hi : u.rpw.fillIndex ≤ 48)
    (hnotes : Asked u.pxm .notes (u.ntp.work ≠ [])) : ExchangeHeld (closeHalf k u) := by
  have := exchangeHeld_setRpw hport hpages (writerOk_closing hw hi) hnotes (.inr fun _ => rfl)
  exact exchangeHeld_of_view (by rfl) this

/-- A reservation given back leaves the memory's side (R130). -/
theorem releaseFor_keeps (r : Record) (s : State) : (releaseFor r s).pxm = s.pxm ∧
    (releaseFor r s).ntp = s.ntp ∧ (releaseFor r s).rpw = s.rpw := by
  unfold releaseFor releaseReservation
  split <;> simp

theorem reportWrite_inv (s t : State) (e : execReportWrite s = .next t) (h : ExchangeInv s) :
    ExchangeInv t := by
  have hheld := ((exchangeInv_iff _).1 (freeMemory_inv h)).1
  have hfree := freeMemory_burst h.halfWork
  unfold execReportWrite at e
  dsimp only at e
  split at e
  next k r rest hwork hwriter hqueue =>
    split at e <;> cases e
    next hturn =>
      have hport := beginBurst_port hheld.port hturn (by decide)
      have hbursts := beginBurst_bursts .reports (freeMemory s)
      have hnotes := beginBurst_asked hturn hfree (by decide) hheld.notes
      have hslot : (freeMemory s).rpw.fillIndex < 48 :=
        (hheld.writer.slot k hwriter).resolve_right fun e => e.2 hwork
      have hslotAddr : slotAddress k (freeMemory s).rpw.fillIndex + 2 * 16 ≤ 8192 := by
        unfold slotAddress halfBase
        cases k <;> dsimp only <;> omega
      have hheader : halfBase k + 2 + 2 * 1 ≤ 8192 := by cases k <;> decide
      unfold writeRecord
      dsimp only
      generalize hu : (burstWrite (halfBase k + 2) _ _) = u
      have huport : PortOk u.pxm := by
        rw [← hu]
        exact burstWrite_port (burstWrite_port hport (by rw [recordWords_length]; exact hslotAddr))
          hheader
      have hubursts : Bursts u.pxm .reports := by
        rw [← hu]
        exact (burstWrite_bursts _ _ _ _).2 ((burstWrite_bursts _ _ _ _).2 hbursts)
      have hunotes : Asked u.pxm .notes ((freeMemory s).ntp.work ≠ []) := by
        rw [← hu]
        exact burstWrite_asked (burstWrite_asked hnotes)
      have hurpw : u.rpw = (freeMemory s).rpw := by rw [← hu]; rfl
      have huntp : u.ntp = (freeMemory s).ntp := by rw [← hu]; rfl
      generalize ageStarted u = age
      obtain ⟨hvport, hvntp, hvrpw⟩ := releaseFor_keeps r (u.setRpw (u.rpw.written rest age))
      generalize releaseFor r (u.setRpw (u.rpw.written rest age)) = v at hvport hvntp hvrpw
      replace hvport : v.pxm = u.pxm := hvport
      replace hvntp : v.ntp = (freeMemory s).ntp := hvntp.trans huntp
      replace hvrpw : v.rpw = (freeMemory s).rpw.written rest age := by rw [hvrpw, ← hurpw]; rfl
      split
      next hfull =>
        refine (exchangeInv_iff _).2 ⟨closeHalf_held (hvport ▸ huport) (hvntp ▸ hheld.pages)
          (by rw [hvrpw]; exact hwriter) (by rw [hvrpw]; exact hfull.le)
          (by rw [hvport, hvntp]; exact hunotes), begun_of_burst (b := .reports) ?_⟩
        unfold closeHalf updateReportRequest
        simpa [Bursts, hvport] using hubursts
      next hfull =>
        refine (exchangeInv_iff _).2 ⟨⟨hvport ▸ huport, hvntp ▸ hheld.pages, ?_,
          by rw [hvport, hvntp]; exact hunotes, .inl (hvport ▸ hubursts)⟩,
          begun_of_burst (hvport ▸ hubursts)⟩
        rw [hvrpw]
        refine ⟨?_, fun c _ => .inl ?_, fun _ => ⟨⟨k, hwriter⟩, Nat.succ_pos _⟩⟩
        · simp [HalfWork, Rpw.written, hwork]
        · have hne : (freeMemory s).rpw.fillIndex + 1 ≠ 48 := hfull
          exact Nat.lt_of_le_of_ne hslot hne
    · exact h
  next => cases e; exact h

theorem ageTimerExpiry_inv (s t : State) (e : execAgeTimerExpiry s = .next t) (h : ExchangeInv s) :
    ExchangeInv t := by
  have hheld := ((exchangeInv_iff s).1 h).1
  unfold execAgeTimerExpiry at e
  split at e <;> cases e
  next hw _ =>
    refine beginNext_inv (closeHalf_held hheld.port hheld.pages hw ?_ hheld.notes)
    have := hheld.writer.slot _ hw
    omega
  next => exact h

/-- A source with no burst running requests one, of the refresh timer or START (R157, R170, R175). -/
theorem requestBurst_inv {s : State} (b : BurstSource) (h : ExchangeInv s)
    (hb : b = .refresh ∨ b = .machine) (hn : ¬ Bursts s.pxm b) : ExchangeInv (requestBurst b s) := by
  obtain ⟨hheld, hbegun⟩ := (exchangeInv_iff s).1 h
  have hask : requestBurst b s = askFor b true s := by
    have : inProgress b s = false := by simpa using mt (inProgress_iff b s).1 hn
    simp [askFor, this]
  rw [hask, exchangeInv_iff]
  have hne : .notes ≠ b ∧ .reports ≠ b := by
    obtain rfl | rfl := hb <;> decide
  refine ⟨⟨hheld.port.askFor _ _, by simpa using hheld.pages, by simpa using hheld.writer,
    by simpa using hheld.notes.askFor hne.1 true, by simpa using hheld.reports.askFor hne.2 true⟩,
    fun hburst hwork hhead => ?_⟩
  obtain hhead | ⟨-, hr, -⟩ := askFor_head _ _ _ _ hhead
  · exact hbegun (by rwa [askFor_burst] at hburst) (by simpa using hwork) hhead
  · exact hne.2 hr

/-- A settled memory is free, or one of the writer's half state accesses has it. -/
theorem settleMemory_bursts {s : State} {b : BurstSource} (h : Bursts (settleMemory s).pxm b) :
    b = .reports := by
  obtain ⟨y, hy, rfl⟩ := h
  unfold settleMemory at hy
  split at hy
  next hr =>
    simp only [readBurst, Bool.and_eq_true, Option.isNone_iff_eq_none] at hr
    cases hr.1.symm.trans hy
  next =>
    unfold afterBurst beginNext at hy
    have hfree := (serveWaiting_burst (endBurst s)).1.trans (endBurst_burst s).1
    repeat' split at hy
    · cases hfree.symm.trans hy
    next x rest _ _ =>
      obtain ⟨ws, e⟩ := halfAccess_burst x rest (serveWaiting (endBurst s))
      cases e.symm.trans hy
      rfl
    · cases hfree.symm.trans hy

theorem refreshTimerExpiry_inv (s t : State) (e : execRefreshTimerExpiry s = .next t)
    (h : ExchangeInv s) : ExchangeInv t := by
  unfold execRefreshTimerExpiry at e
  split at e <;> cases e
  · exact h
  · split
    · refine requestBurst_inv _ (settleMemory_inv h) (.inl rfl) fun hb => ?_
      cases settleMemory_bursts hb
    next hn => exact requestBurst_inv _ h (.inl rfl) (mt (inProgress_iff _ s).2 hn)

theorem liveStatusWords_length (s : State) : (liveStatusWords s).length = 32 := by
  simp [liveStatusWords, countWords, optionalWords, laneWords]

theorem liveStatusRefresh_inv (s t : State) (e : execLiveStatusRefresh s = .next t)
    (h : ExchangeInv s) : ExchangeInv t := by
  have hheld := ((exchangeInv_iff _).1 (freeMemory_inv h)).1
  unfold execLiveStatusRefresh at e
  dsimp only at e
  split at e <;> cases e
  next hturn =>
    refine (exchangeInv_iff _).2 ⟨exchangeHeld_burst hheld (freeMemory_burst h.halfWork) hturn (by decide)
      (by decide) (by decide) (by rw [liveStatusWords_length]; decide), begun_of_burst (b := .refresh) ?_⟩
    exact (burstWrite_bursts _ _ _ _).2 (beginBurst_bursts _ _)
  next => exact h

/-! ### START and the resets -/

theorem startNotes_held {s : State} (ready : Bool) (h : ExchangeHeld s) :
    ExchangeHeld (startNotes ready s) := by
  refine exchangeHeld_setNoteWork h.port (pageWork_of_quiet rfl (workAfterStart_quiet h.pages _ _))
    h.writer h.reports (.inr fun hm => ?_)
  have hm : s.pxm.requests.contains .notes = true := by simpa using hm
  rw [hm]
  exact workAfterStart_ne_nil _ _

theorem startPart_held {s : State} (r : MachineRecord) (h : ExchangeHeld s) :
    ExchangeHeld (startPart r s) := by
  refine exchangeHeld_of_view ?_ (startNotes_held (s := s.setTrc s.trc.start)
    (machineIndex r == 0) (exchangeHeld_of_view (s := s) rfl h))
  simp [startPart, exchangeView]

theorem startEvent_held {s : State} (h : ExchangeHeld s) : ExchangeHeld (startEvent s) := by
  have hrecorded := fun x => exchangeHeld_run.recordCommand s 1#8 x h
  unfold startEvent
  split
  · exact startPart_held _ (hrecorded _)
  · exact startPart_held _ (hrecorded _)
  all_goals exact hrecorded _

theorem commandStart_inv (s : State) (h : ExchangeInv s) : ExchangeInv (commandStart s) := by
  have hreq : ExchangeInv (requestBurst .machine (if s.pxm.burst.isSome then s else settleMemory s)) := by
    have hsettled : ExchangeInv (if s.pxm.burst.isSome then s else settleMemory s) := by
      split
      · exact h
      · exact settleMemory_inv h
    exact requestBurst_inv _ hsettled (.inr rfl) fun ⟨y, hy, e⟩ => (hsettled.single y hy).2 e
  unfold commandStart
  dsimp only
  generalize requestBurst .machine (if s.pxm.burst.isSome then s else settleMemory s) = u at hreq ⊢
  split
  next hturn =>
    have hheld := ((exchangeInv_iff _).1 (freeMemory_inv hreq)).1
    exact afterBurst_inv (startEvent_held ⟨popRequest_port hheld.port, hheld.pages, hheld.writer,
      popRequest_asked hturn (by decide) hheld.notes, popRequest_asked hturn (by decide) hheld.reports⟩)
  next => exact hreq

/-- A part with no burst, no request and no work. -/
theorem exchangeInv_of_reset {t : State} (hm : t.pxm.memory.wf = true) (hq : t.pxm.requests = [])
    (hb : t.pxm.burst = none) (hn : t.ntp = .reset) (hr : t.rpw = .reset) : ExchangeInv t := by
  refine (exchangeInv_iff t).2 ⟨⟨⟨hm, hq ▸ .nil, by rw [hb]; nofun, by rw [hb]; nofun⟩, ?_, ?_, .inr ?_,
    .inr ?_⟩, fun _ => by simp [hr, Rpw.reset]⟩
  · rw [hn]
    exact pageWork_of_quiet rfl fun _ => nofun
  · rw [hr]
    exact ⟨trivial, nofun, nofun⟩
  · simp [hq, hn, Ntp.reset]
  · simp [hq, hr, Rpw.reset, Rpw.needsBurst]

/-- The words that a burst had not yet written lie in exchange memory (R176). -/
theorem restoreWords_wf {ws : List Overwritten} {m : Memory} (h : m.wf = true)
    (hw : ∀ w ∈ ws, w.address + 2 ≤ 8192) : (restoreWords ws m).wf = true := by
  induction ws with
  | nil => exact h
  | cons w ws ih =>
    obtain ⟨hhead, htail⟩ := List.forall_mem_cons.1 hw
    exact Memory.wf_writeWord (ih htail) (by omega)

theorem commandRestart_inv (s : State) (h : ExchangeInv s) : ExchangeInv (commandRestart s) := by
  refine exchangeInv_of_reset ?_ rfl rfl rfl rfl
  change (cutOffBurst s).pxm.memory.wf = true
  unfold cutOffBurst
  split
  · exact h.memory
  next b hb => exact restoreWords_wf h.memory fun w hw => h.burst b hb w (List.mem_of_mem_drop hw)

/-! ### Every command -/

theorem controlWrite_inv (s : State) (w : Word) (h : ExchangeInv s) :
    ExchangeInv (controlWrite w s) := by
  unfold controlWrite
  split
  · exact commandStart_inv s h
  · exact exchangeInv_run.commandStop s h
  · exact exchangeInv_run.commandAbort s h
  · exact exchangeInv_run.commandAckFault s h
  · exact commandRestart_inv s h
  · exact exchangeInv_run.recordCommand _ _ _ h

/-- What the memory's side does not see leaves it in order. -/
theorem exchangeInv_of_view {s t : State} (e : exchangeView t = exchangeView s) (h : ExchangeInv s) :
    ExchangeInv t := by
  rw [exchangeInv_iff] at h ⊢
  exact ⟨exchangeHeld_of_view e h.1, begun_of_view e h.2⟩

theorem exec_exchangeInv (c : Instr) (s t : State) (e : exec c s = .next t) (h : ExchangeInv s) :
    ExchangeInv t := by
  by_cases hc : Instr.isReaction c = true
  · exact exchangeInv_run.exec_reaction c s t hc e h
  cases c <;> first | (exact absurd rfl hc) | skip
  case powerOnReset => cases e; exact exchangeInv_of_reset rfl rfl rfl rfl rfl
  case restart => cases e; exact commandRestart_inv s h
  case start => cases e; exact commandStart_inv s h
  case stop => cases e; exact exchangeInv_run.commandStop s h
  case abort => cases e; exact exchangeInv_run.commandAbort s h
  case ackFault => cases e; exact exchangeInv_run.commandAckFault s h
  case badCode w => cases e; exact controlWrite_inv s w h
  case attentionWrite w => cases e; exact exchangeInv_run.attention _ _ h
  case attnMaskWrite w => cases e; exact exchangeInv_of_view (s := s) rfl h
  case registerWriteIgnored r w => cases e; exact h
  case memoryRead a => cases e; exact pressAccess_inv _ h
  case memoryWrite a w => cases e; exact pressAccess_inv _ h
  case notePagePosting p w => cases e; exact pressAccess_inv _ h
  case halfFreeing p w => cases e; exact pressAccess_inv _ h
  case forwardCount => exact exchangeInv_run.forwardCount s t e h
  case reverseCount => exact exchangeInv_run.reverseCount s t e h
  case illegalTransition => exact exchangeInv_run.illegalTransition s t e h
  case speedSample => exact exchangeInv_run.speedSample s t e h
  case markEdge => exact exchangeInv_run.markEdge s t e h
  case markFall => exact exchangeInv_run.markFall s t e h
  case pageTaking => exact pageTaking_inv s t e h
  case spanNote =>
    cases e; exact noteStep_inv s _ _ (fun _ _ u _ _ n _ => (workTurn_run _ _).spanOutcome u n) h
  case rowNote =>
    cases e; exact noteStep_inv s _ _ (fun _ _ u _ _ n _ => (workTurn_run _ _).rowOutcome u n) h
  case laneNote =>
    cases e; exact noteStep_inv s _ _ (fun _ _ u _ _ n hn => (workTurn_run _ _).laneOutcome u n hn) h
  case conveyorNote =>
    cases e; exact noteStep_inv s _ _ (fun _ _ u _ _ n _ => (workTurn_run _ _).conveyorOutcome u n) h
  case jobNote => cases e; exact jobNoteStep_inv s h
  case badNote => cases e; exact noteStep_inv s _ _ (fun _ _ _ _ _ _ _ hu => hu) h
  case fateWrite => exact fateWrite_inv s t e h
  case pageFinishing => exact pageFinishing_inv s t e h
  case pageStateCheck => exact pageStateCheck_inv s t e h
  case agingTick => exact exchangeInv_run.agingTick s t e h
  case reportWrite => exact reportWrite_inv s t e h
  case ageTimerExpiry => exact ageTimerExpiry_inv s t e h
  case refreshTimerExpiry => exact refreshTimerExpiry_inv s t e h
  case liveStatusRefresh => exact liveStatusRefresh_inv s t e h
  case resetnRelease => cases e; exact exchangeInv_of_view (s := s) rfl h

/-- Settles O54: a source asks for its next burst when its work gives it one or its last burst ends, and a
half state access begins by itself when the memory is free and its request stands first. -/
theorem stepKeepsExchangeInv : Obligations.StepKeepsExchangeInv := by
  intro s t h e
  unfold step at e
  split at e
  · cases e; exact settleMemory_inv h
  · exact exec_exchangeInv _ _ t e (exchangeInv_of_view (s := s) rfl h)

end Sys2Proof.Machine
end

section
/-! The step, the resets and the register window (R156, R167, R171 to R174). -/

namespace Sys2Proof.Machine

/-! ### The state after reset -/

/-- Settles O53, invariant by invariant: at reset every list is empty and every block at rest. -/
theorem resetMeetsEveryInvariant : Obligations.ResetMeetsEveryInvariant := by
  have harbiter : ArbiterHeld True State.reset :=
    arbiterHeld_of_idle (fun c => by cases c <;> rfl) (fun c l => by cases c <;> cases l <;> rfl)
      (fun l => by cases l <;> rfl) rfl (Nat.zero_le _)
  refine ⟨exchangeInv_of_reset rfl rfl rfl rfl rfl, trackInv_empty rfl,
    .of_idle ⟨fun _ => rfl, fun _ => rfl⟩ (Nat.zero_le 3) rfl rfl,
    runInv_of_rest (.inl rfl) rfl (fun _ => rfl) (Nat.zero_le _)
      ⟨rfl, rfl, rfl, fun l => by cases l <;> rfl⟩ rfl (fun e => absurd rfl e) ⟨rfl, rfl⟩,
    ?_, (arbiterHeld_true _).1 harbiter, ?_⟩
  · exact (boundsInv_iff _).2 (reset_bounds _ ⟨Nat.zero_le _, Nat.zero_le _, Nat.zero_le _⟩
      (mktIn_reset false) rfl rfl rfl rfl rfl rfl rfl rfl rfl)
  · exact (stackInv_iff _).2 ⟨harbiter.1, linesOk_of_reset rfl fun l => by cases l <;> rfl⟩

/-! ### The step -/

theorem endBurst_memory (s : State) : (endBurst s).pxm.memory = s.pxm.memory := by
  unfold endBurst
  repeat' split
  all_goals simp

/-- A memory that stands free has no burst, and nothing begins in it by itself. -/
theorem memoryFree_idle {s : State} (h : MemoryFree s) : s.pxm.burst = none ∧ readBurst s = false ∧
    beginNext s = s := by
  obtain ⟨hheld, -, hturn⟩ := h
  simp only [memoryHeld, Bool.or_eq_false_iff, Option.isSome_eq_false_iff,
    Option.isNone_iff_eq_none] at hheld
  refine ⟨hheld.1, hheld.2, ?_⟩
  obtain hw | hne := hturn
  · exact beginNext_none s hw
  · exact beginNext_noTurn s (by simp [hasTurn, hne])

theorem memoryFree_settled {s : State} (h : MemoryFree s) : settleMemory s = s :=
  settleMemory_self s (memoryFree_idle h).1 h.2.1 (memoryFree_idle h).2.2

/-- But for a burst that only reads, no access waits in a settled memory. -/
theorem settleMemory_waiting {s : State} (h : readBurst s = false) :
    (settleMemory s).pxm.waiting = [] := by
  unfold settleMemory
  rw [if_neg (by simp [h])]
  exact (beginNext_waiting _).trans (serveWaiting_burst _).2

/-- With nothing waiting and no half state access due, the settled memory is free and reads as before. -/
theorem settleMemory_idle {s : State} (hh : s.rpw.halfWork = []) (hw : s.pxm.waiting = []) :
    (settleMemory s).pxm.burst = none ∧ (settleMemory s).pxm.memory = s.pxm.memory := by
  unfold settleMemory
  split
  next hr =>
    simp only [readBurst, Bool.and_eq_true, Option.isNone_iff_eq_none] at hr
    exact ⟨hr.1, rfl⟩
  next =>
    obtain ⟨h1, h2, h3⟩ := endBurst_burst s
    rw [afterBurst_idle _ (h2.trans hw) (by rw [h3]; exact hh)]
    exact ⟨h1, endBurst_memory s⟩

/-- Settles O1: a step is its command's meaning, and idling is the settling of the memory. -/
theorem stepRunsFrontCommand : Obligations.StepRunsFrontCommand := by
  refine ⟨fun _ _ _ => rfl, fun s hs => ⟨?_, memoryFree_settled, settleMemory_read s,
    settleMemory_waiting, settleMemory_idle⟩⟩
  unfold step
  rw [hs]

/-! ### The resets -/

/-- The part reset, with a command recorded. -/
def resetRecorded (m : Memory) (asserted : Bool) (c : Option Byte) (r : CommandResult) (s : State) :
    State :=
  (resetPart m asserted s).setRnc { Rnc.reset with lastCommand := c, result := r }

/-- A reset leaves every item of the reset tables at its value, whatever it keeps of memory, of the pins and
of the last command (R167). -/
theorem resetRecorded_values (m : Memory) (asserted : Bool) (c : Option Byte) (r : CommandResult)
    (s : State) : ResetValues (resetRecorded m asserted c r s) where
  reference := rfl
  counts := ⟨rfl, rfl, rfl⟩
  detectors := ⟨rfl, rfl⟩
  speed := ⟨rfl, rfl⟩
  zone := ⟨rfl, rfl, rfl⟩
  tracker := ⟨rfl, rfl, rfl, rfl, rfl⟩
  tallies := ⟨rfl, rfl, rfl⟩
  splice := ⟨rfl, rfl⟩
  track := ⟨rfl, rfl, rfl⟩
  knife := ⟨rfl, rfl, rfl, rfl, rfl, rfl⟩
  notes := ⟨rfl, rfl, rfl, rfl, rfl⟩
  deciders l := by cases l <;> exact ⟨rfl, rfl, rfl⟩
  lines l := by cases l <;> exact ⟨rfl, rfl, rfl, rfl, rfl, rfl⟩
  takeaway c := by cases c <;> exact ⟨rfl, fun l => by cases l <;> rfl⟩
  reservations := rfl
  jobs := ⟨rfl, rfl, rfl⟩
  runState := ⟨rfl, rfl, rfl, rfl, rfl⟩
  stops := ⟨rfl, rfl⟩
  port := ⟨rfl, rfl, Bool.and_false _, rfl, rfl, rfl, rfl⟩
  work := ⟨rfl, rfl⟩
  reports := ⟨rfl, rfl, rfl, rfl, rfl, rfl⟩

/-- What RESTART cuts off of a burst: the words it had not written stand as before it (R176). -/
theorem cutOffBurst_memory (s : State) :
    (s.pxm.burst = none → (cutOffBurst s).pxm.memory = s.pxm.memory) ∧
    ∀ b, s.pxm.burst = some b → ∃ k, k ≤ b.words.length ∧
      (cutOffBurst s).pxm.memory = restoreWords (b.words.drop k) s.pxm.memory := by
  unfold cutOffBurst
  refine ⟨fun h => by rw [h], fun b hb => ⟨min (Config.cutOff s.choices) b.words.length,
    Nat.min_le_right _ _, ?_⟩⟩
  rw [hb]
  refine congrArg (fun q => restoreWords q s.pxm.memory) ?_
  obtain h | h := Nat.le_total (Config.cutOff s.choices) b.words.length
  · rw [Nat.min_eq_left h]
  · rw [Nat.min_eq_right h, List.drop_of_length_le h, List.drop_length]

/-- Settles O2: both resets and the starting state are the part reset, with what each keeps. -/
theorem resetsLeaveTheTabledValues : Obligations.ResetsLeaveTheTabledValues := by
  refine ⟨resetRecorded_values [] false none .none State.reset, fun s =>
    ⟨_, rfl, resetRecorded_values [] true none .none s, rfl, rfl, rfl, rfl, rfl, rfl⟩, fun s =>
    ⟨_, rfl, resetRecorded_values (cutOffBurst s).pxm.memory (cutOffBurst s).pxm.resetAsserted
      (some 5#8) .accepted (cutOffBurst s), (cutOffBurst_memory s).1, (cutOffBurst_memory s).2, rfl,
      rfl, ?_⟩⟩
  have hcut : (cutOffBurst s).trc = s.trc ∧ (cutOffBurst s).mkt = s.mkt ∧
      (cutOffBurst s).pxm.waiting = s.pxm.waiting ∧
      (cutOffBurst s).pxm.resetAsserted = s.pxm.resetAsserted := by
    unfold cutOffBurst
    split <;> exact ⟨rfl, rfl, rfl, rfl⟩
  obtain ⟨htrc, hmkt, hwaiting, hasserted⟩ := hcut
  refine ⟨hwaiting, ?_, ?_, hasserted⟩
  · show (cutOffBurst s).trc.pins = s.trc.pins
    rw [htrc]
  · show (cutOffBurst s).mkt.markActive = s.mkt.markActive
    rw [hmkt]

/-! ### The release of RESETn -/

theorem encoderPair_moves (p : EncoderPair) : p.forward ≠ p ∧ p.backward ≠ p ∧ p.opposite ≠ p := by
  obtain ⟨a, b⟩ := p
  cases a <;> cases b <;> decide

/-- Settles O3: while RESETn is asserted the decoder moves the pins alone and the timers stand. -/
theorem releaseTakesThePresentPair : Obligations.ReleaseTakesThePresentPair := by
  refine ⟨fun _ => rfl, fun s hs => ⟨?_, ?_⟩⟩
  · obtain ⟨hf, hb, ho⟩ := encoderPair_moves s.trc.pins
    simp only [List.forall_mem_cons, List.not_mem_nil, false_implies, implies_true, and_true, exec]
    exact ⟨⟨_, hf, by simp [execForwardCount, hs, movePins, State.setTrc]⟩,
      ⟨_, hb, by simp [execReverseCount, hs, movePins, State.setTrc]⟩,
      ⟨_, ho, by simp [execIllegalTransition, hs, movePins, State.setTrc]⟩⟩
  · simp [exec, execSpeedSample, execAgingTick, execRefreshTimerExpiry, hs]

/-! ### The register window -/

/-- Settles O10: each of the five flags falls where the word written holds a 1. -/
theorem attentionWritesClearFlags : Obligations.AttentionWritesClearFlags :=
  ⟨fun _ _ => ⟨_, rfl, rfl, rfl, rfl, rfl, rfl, rfl⟩, fun _ _ _ => rfl⟩

end Sys2Proof.Machine
end

section
/-! The check of the machine record and the reads of the port: O5 and O12. -/
namespace Sys2Proof.Machine

/-! ### The check of the machine record (R157) -/

/-- With the indices rising, the first failing field is the one that fails with every earlier one passing. -/
theorem firstFailing_eq_some_iff {checks : List (Nat × Bool)} {i : Nat}
    (hrise : (checks.map Prod.fst).Pairwise (· < ·)) :
    firstFailing checks = some i ↔ (i, false) ∈ checks ∧ ∀ c ∈ checks, c.1 < i → c.2 = true := by
  induction checks with
  | nil => simp [firstFailing]
  | cons c rest ih =>
    obtain ⟨j, ok⟩ := c
    obtain ⟨hj, hrest⟩ := List.pairwise_cons.1 hrise
    cases ok with
    | true => simp [firstFailing, ih hrest]
    | false =>
      constructor
      · rintro ⟨⟩
        refine ⟨List.mem_cons_self, fun c hc hlt => ?_⟩
        obtain rfl | hc := List.mem_cons.1 hc
        · exact absurd hlt (Nat.lt_irrefl _)
        · exact absurd hlt (Nat.lt_asymm (hj c.1 (List.mem_map_of_mem hc)))
      · rintro ⟨hi, hpass⟩
        obtain hi | hi := List.mem_cons.1 hi
        · cases hi
          rfl
        · have hlt : j < i := hj i (List.mem_map_of_mem (f := Prod.fst) hi)
          cases hpass _ List.mem_cons_self hlt

theorem machineChecks_indices (r : MachineRecord) :
    (machineChecks r).map Prod.fst = List.range' 1 31 := rfl

theorem inRange_iff {lo hi n : Nat} : inRange lo hi n = true ↔ lo ≤ n ∧ n ≤ hi := by
  simp [inRange]

/-- Each check of the model is the field of the table that its index names. -/
theorem machineChecks_field (r : MachineRecord) :
    ∀ c ∈ machineChecks r, c.2 = true ↔ MachineFieldOk r c.1 := by
  simp only [machineChecks, allLanes, laneIndex, List.map_cons, List.map_nil, List.cons_append,
    List.nil_append, List.forall_mem_cons, inRange_iff, MachineFieldOk, Nat.zero_le, true_and]
  simp [Lanes.get]

/-- Settles O5: the 31 checks stand in the table's order. -/
theorem machineRecordCheckNamesTheFirstFailingField :
    Obligations.MachineRecordCheckNamesTheFirstFailingField := by
  intro r
  have hindex : ∀ i, (∃ b, (i, b) ∈ machineChecks r) ↔ 1 ≤ i ∧ i ≤ 31 := by
    intro i
    have := congrArg (i ∈ ·) (machineChecks_indices r)
    simp only [List.mem_map, Prod.exists, exists_and_right, exists_eq_right, List.mem_range'_1,
      eq_iff_iff] at this
    rw [this]
    omega
  have hfield : ∀ i b, (i, b) ∈ machineChecks r → (b = true ↔ MachineFieldOk r i) :=
    fun i b h => machineChecks_field r (i, b) h
  refine ⟨(machineIndex_eq_zero_iff r).trans ⟨fun h i h1 h31 => ?_, fun h ⟨i, b⟩ hc => ?_⟩,
    fun i hi => ?_⟩
  · obtain ⟨b, hb⟩ := (hindex i).2 ⟨h1, h31⟩
    exact (hfield i b hb).1 (h _ hb)
  · obtain ⟨h1, h31⟩ := (hindex i).1 ⟨b, hc⟩
    exact (hfield i b hc).2 (h i h1 h31)
  · have hsome : machineIndex r = i ↔ firstFailing (machineChecks r) = some i := by
      unfold machineIndex
      cases firstFailing (machineChecks r) with
      | none => exact ⟨fun h => absurd h (Nat.ne_of_lt hi), nofun⟩
      | some j => exact ⟨congrArg some, Option.some.inj⟩
    have hrise : ((machineChecks r).map Prod.fst).Pairwise (· < ·) := by
      rw [machineChecks_indices]
      exact List.pairwise_lt_range'
    rw [hsome, firstFailing_eq_some_iff hrise]
    constructor
    · rintro ⟨hfail, hpass⟩
      refine ⟨((hindex i).1 ⟨_, hfail⟩).2, fun h => ?_, fun j h1 hlt => ?_⟩
      · cases (hfield i false hfail).2 h
      · obtain ⟨b, hb⟩ := (hindex j).2 ⟨h1, by have := (hindex i).1 ⟨_, hfail⟩; omega⟩
        exact (hfield j b hb).1 (hpass _ hb hlt)
    · rintro ⟨h31, hbad, hgood⟩
      obtain ⟨b, hb⟩ := (hindex i).2 ⟨hi, h31⟩
      cases b with
      | true => exact absurd ((hfield i true hb).1 rfl) hbad
      | false =>
        refine ⟨hb, fun ⟨j, b⟩ hj hlt => ?_⟩
        exact (hfield j b hj).2 (hgood j ((hindex j).1 ⟨b, hj⟩).1 hlt)

/-! ### An access in a free memory (R169 to R171) -/

theorem memoryFree_held {s : State} (h : MemoryFree s) : memoryHeld s = false := h.1

/-- No half state access begins by itself while none is due or another request stands first. -/
theorem beginNext_waits {s : State}
    (h : s.rpw.halfWork = [] ∨ s.pxm.requests.head? ≠ some .reports) : beginNext s = s := by
  obtain hw | hne := h
  · exact beginNext_none s hw
  · exact beginNext_noTurn s (by simp [hasTurn, hne])

/-- In a free memory an access is served at once. -/
theorem pressAccess_free {s : State} (h : MemoryFree s) (x : PressAccess) :
    pressAccess x s = beginNext (serveAccess x s) :=
  pressAccess_served x s h.2.1 h.1

theorem memoryRead_free {s : State} (h : MemoryFree s) (a : BitVec 12) :
    exec (.memoryRead a) s = .next (serveAccess (.read a) s) := by
  show Host.Outcome.next (pressAccess (.read a) s) = _
  rw [pressAccess_free h]
  exact congrArg Host.Outcome.next (beginNext_waits (s := serveAccess (.read a) s) h.2.2)

/-- The words from 0 on are the seven fields in order, each its low word first (R171, R183). -/
theorem tearFieldOf_eq (a : BitVec 12) :
    tearFieldOf a = (tearFields[a.toNat / 2]?).map fun f => (f, a.toNat % 2 == 0) := by
  unfold tearFieldOf
  generalize a.toNat = n
  obtain hlt | hge := Nat.lt_or_ge n 14
  · interval_cases n <;> rfl
  · obtain ⟨k, rfl⟩ := Nat.exists_eq_add_of_le' hge
    have hnone : tearFields[(k + 14) / 2]? = none := List.getElem?_eq_none (by
      simp only [tearFields, List.length_cons, List.length_nil]
      omega)
    rw [hnone]
    rfl

/-! ### The register window (R172, R184) -/

theorem stateCondition_lt {r : Rnc} (h : r.configIndex ≤ 31) : stateCondition r < 64 := by
  unfold stateCondition
  split
  case h_5 =>
    have : faultCodeNat r.faultCode < 24 := by
      cases r.faultCode with
      | none => decide
      | some f => cases f <;> decide
    omega
  all_goals omega

theorem resultCode_lt (r : CommandResult) : resultCode r < 4 := by
  cases r <;> decide

/-- The last command, the result and the condition stand in STATE each in its own bits. -/
theorem stateRegister_fields {r : Rnc} (h : r.configIndex ≤ 31) :
    (stateRegister r).extractLsb' 0 8 = r.lastCommand.getD 0#8 ∧
    ((stateRegister r).extractLsb' 8 2).toNat = resultCode r.result ∧
    ((stateRegister r).extractLsb' 10 6).toNat = stateCondition r := by
  have hc := stateCondition_lt h
  have hr := resultCode_lt r.result
  have hl := (r.lastCommand.getD 0#8).isLt
  unfold stateRegister wordOf
  refine ⟨BitVec.eq_of_toNat_eq ?_, ?_, ?_⟩
  all_goals
    simp only [BitVec.extractLsb'_toNat, BitVec.toNat_ofNat, Nat.shiftRight_eq_div_pow]
    omega

/-- A register word of flags holds nothing beyond its five bits. -/
theorem attentionWord_high (x : Attention) {i : Nat} (h : 5 ≤ i) :
    (attentionWord x).getLsbD i = false := by
  have hlt : (attentionWord x).toNat < 2 ^ 5 := by
    obtain ⟨pageDone, reports, fault, state, cmd⟩ := x
    revert pageDone reports fault state cmd
    decide
  exact Nat.testBit_lt_two_pow (Nat.lt_of_lt_of_le hlt (Nat.pow_le_pow_right (by decide) h))

theorem attentionWord_flags (x : Attention) :
    (attentionWord x).getLsbD 0 = x.pageDone ∧ (attentionWord x).getLsbD 1 = x.reports ∧
    (attentionWord x).getLsbD 2 = x.fault ∧ (attentionWord x).getLsbD 3 = x.state ∧
    (attentionWord x).getLsbD 4 = x.cmd ∧ ∀ i, 5 ≤ i → (attentionWord x).getLsbD i = false :=
  ⟨attentionWord_bit0 x, attentionWord_bit1 x, attentionWord_bit2 x, attentionWord_bit3 x,
    attentionWord_bit4 x, fun _ => attentionWord_high x⟩

/-- Settles O12: a read is `readThrough`, by the word's place among the seven fields. -/
theorem readsGoThroughTheTearLatch : Obligations.ReadsGoThroughTheTearLatch := by
  refine ⟨fun a s hfree => ⟨_, memoryRead_free hfree a, rfl, fun f hf => ?_, fun f hf => ?_,
    fun hhigh => ?_, tearFieldOf_eq a⟩, fun s => ⟨rfl, rfl, rfl, rfl, rfl, fun h => ?_, ?_⟩⟩
  · simp [serveAccess, readThrough, hf, byteAddress]
  · have hread : readThrough s.pxm a = ((latchedFor s.pxm.tearLatch f).getD
        (Memory.readWord s.pxm.memory (2 * a.toNat)), s.pxm.tearLatch) := by
      simp [readThrough, hf, byteAddress]
    refine ⟨congrArg Prod.snd hread, fun w hw => ?_, fun hw => ?_⟩
    · exact (congrArg Prod.fst hread).trans (by simp [latchedFor, hw])
    · have hnone : latchedFor s.pxm.tearLatch f = none := by
        unfold latchedFor
        split
        next g w hg => exact if_neg fun (e : g = f) => hw w (by rw [hg, e])
        next => rfl
      exact (congrArg Prod.fst hread).trans (by rw [hnone]; rfl)
  · have hnone : tearFieldOf a = none := by
      rw [tearFieldOf_eq, List.getElem?_eq_none]
      · rfl
      · simp only [tearFields, List.length_cons, List.length_nil]
        omega
    simp [serveAccess, readThrough, hnone, byteAddress]
  · exact stateRegister_fields h
  · intro n hn x hx
    obtain rfl | rfl : n = 3#3 ∨ n = 4#3 := by simpa using hn
    · subst hx
      exact attentionWord_flags s.pxm.attention
    · subst hx
      exact attentionWord_flags s.pxm.mask

end Sys2Proof.Machine
end

section
/-! The table of the commands written to CONTROL (R156, R157): O4. -/
namespace Sys2Proof.Machine

/-! ### What an accepted command leaves in ATTENTION -/

/-- A change of run state sets ATTENTION.STATE, and no other flag (R155). -/
theorem setRunState_attention (r : RunState) (s : State) :
    (setRunState r s).pxm.attention =
      { s.pxm.attention with state := s.pxm.attention.state || s.rnc.runState != r } := by
  have hflagged : (if s.rnc.runState = r then s.setRnc { s.rnc with runState := r } else
      flagState (s.setRnc { s.rnc with runState := r })).pxm.attention =
      { s.pxm.attention with state := s.pxm.attention.state || s.rnc.runState != r } := by
    split
    next h => simp [h]
    next h => simp [bne_iff_ne.2 h, flagState, setAttention]
  cases r <;> exact hflagged

theorem endTest_cmd (s : State) : (endTest s).pxm.attention.cmd = s.pxm.attention.cmd := by
  unfold endTest
  split
  · simp [endDrain, setRunState_attention]
  · rfl

theorem stopPart_cmd (s : State) : (stopPart s).pxm.attention.cmd = s.pxm.attention.cmd := by
  simp [stopPart_eq, endTest_cmd, stopBegun, setRunState_attention]

theorem abandonRun_cmd (k : CloseKind) (s : State) :
    (abandonRun k s).pxm.attention.cmd = s.pxm.attention.cmd := by
  simp [abandonRun, allLanes]

/-- A command recorded as ACCEPTED stays so through the acts that follow it. -/
theorem acceptedAs_of {code : Byte} {s t : State} (h : ReactionFrame (recordCommand code .accepted s) t)
    (hcmd : t.pxm.attention.cmd = (recordCommand code .accepted s).pxm.attention.cmd) :
    AcceptedAs code t :=
  ⟨h.lastCommand, h.result, hcmd⟩

theorem stopBegun_reacts (s : State) : ReactionFrame s (stopBegun s) := by
  have h := (setRunState_reacts .drain s).trans (fireTest_reacts false _)
  refine h.trans ?_
  constructor <;> intros <;> simp [stopBegun]

theorem stopPart_reacts (s : State) : ReactionFrame s (stopPart s) :=
  ((stopBegun_reacts s).trans (stopCloses_reacts _)).trans (endTest_reacts _)

theorem acknowledge_reacts (s : State) : ReactionFrame s (acknowledge s) := by
  have h : ReactionFrame s (faultCleared (abandonRun .shortFault s)) :=
    (abandonRun_reacts .shortFault s).trans (by
      constructor <;> intros <;> simp [faultCleared, Knt.acknowledge])
  exact h.trans (setRunState_reacts .ready _)

/-! ### START by its machine record burst (R157) -/

theorem startPart_cmd (r : MachineRecord) (s : State) :
    (startPart r s).pxm.attention.cmd = s.pxm.attention.cmd := by
  simp [startPart, formLeads, setRunState_attention, startNotes, setNoteWork]

theorem startEvent_taken {s : State} (hr : s.rnc.runState = .off ∨ s.rnc.runState = .ready) :
    startEvent s = startPart (readMachineRecord s.pxm.memory) (recordCommand 1#8 .accepted s) := by
  obtain hr | hr := hr <;> simp only [startEvent, hr]

theorem startEvent_accepted {s : State} (hr : s.rnc.runState = .off ∨ s.rnc.runState = .ready) :
    AcceptedAs 1#8 (startEvent s) := by
  have hblocks := startPart_blocks (readMachineRecord s.pxm.memory) (recordCommand 1#8 .accepted s)
  obtain ⟨-, -, -, -, -, -, -, hrnc⟩ := hblocks
  rw [startEvent_taken hr]
  refine ⟨by rw [hrnc]; rfl, by rw [hrnc]; rfl, ?_⟩
  rw [startPart_cmd]
  rfl

/-- A request that may begin, made and served, leaves the requests behind it. -/
theorem requestServed {b : BurstSource} {s : State} (hb : MayBegin b s) :
    popRequest (requestBurst b s) = readServed s := by
  obtain ⟨hreq | hfirst, -⟩ := hb
  · simp only [popRequest, requestBurst, setRequests, withRequest, hreq, readServed]
    rfl
  · have hmem : b ∈ s.pxm.requests := List.mem_of_head? hfirst
    simp only [popRequest, requestBurst, setRequests, withRequest, hmem, readServed]
    rfl

/-- START outside OFF and READY has only read the machine record: it is refused. -/
theorem commandStart_refused {s : State} (hb : MayBegin .machine s)
    (hr : ¬(s.rnc.runState = .off ∨ s.rnc.runState = .ready)) :
    commandStart s = recordCommand 1#8 .refused (readServed s) := by
  have hevent : startEvent (readServed s) = recordCommand 1#8 .refused (readServed s) := by
    unfold startEvent
    split
    next h => exact absurd (.inl h) hr
    next h => exact absurd (.inr h) hr
    all_goals rfl
  rw [commandStart_mayBegin hb, requestServed hb, hevent]
  exact afterBurst_idle _ hb.2.waiting hb.2.halfWork

/-- START behind another burst's request only requests its own (log entry 10). -/
theorem commandStart_waits {s : State} {b : BurstSource} {q : List BurstSource}
    (hq : s.pxm.requests = b :: q) (hb : b ≠ .machine) (hburst : s.pxm.burst = none)
    (hwaiting : s.pxm.waiting = []) (hhalf : b = .reports → s.rpw.halfWork = []) :
    commandStart s = requestBurst .machine s := by
  have hhead : ∀ u : State, u.pxm.requests.head? = some b → u.rpw.halfWork = s.rpw.halfWork →
      beginNext u = u := by
    intro u hu hw
    refine beginNext_waits ?_
    by_cases h : b = .reports
    · exact .inl (hw.trans (hhalf h))
    · exact .inr (by simpa [hu] using h)
  have hrequested : (requestBurst .machine s).pxm.requests.head? = some b := by
    simp only [requestBurst, setRequests, withRequest, hq]
    split <;> rfl
  have hsettle : settleMemory s = s :=
    settleMemory_self s hburst hwaiting (hhead s (by rw [hq]; rfl) rfl)
  have hfree : freeMemory (requestBurst .machine s) = requestBurst .machine s :=
    freeMemory_self _ hburst hwaiting (hhead _ hrequested rfl)
  have hturn : hasTurn .machine (requestBurst .machine s) = false := by
    simpa [hasTurn, hrequested] using hb
  simp [commandStart, hsettle, hfree, hturn]

/-- Settles O4: each command's own case of its run state, and what its acceptance leaves recorded. -/
theorem commandsAnswerByTheTable : Obligations.CommandsAnswerByTheTable := by
  intro s
  refine ⟨fun hb hr => ⟨_, rfl, ?start⟩, fun hb hr => ?refused, fun b q hq hb hburst hwaiting hhalf =>
    ?waits, fun hr => ⟨_, rfl, ?stop⟩, fun hr => ?stopRefused, fun hr => ⟨_, rfl, ?abort⟩,
    fun hr => ?abortRefused, fun hr => ⟨_, rfl, ?ackFault⟩, fun hr => ?ackRefused,
    ⟨_, rfl, rfl, rfl, rfl⟩, fun c => (exec_spelled c s).symm, fun w hw => ?badCode⟩
  case start =>
    show AcceptedAs 1#8 (commandStart s)
    have haccepted := startEvent_accepted (s := popRequest (requestBurst .machine s)) hr
    rw [commandStart_mayBegin hb]
    obtain ⟨hcommand, hresult, hcmd⟩ := haccepted
    have hframe := afterBurst_memoryFrame (startEvent (popRequest (requestBurst .machine s)))
    exact ⟨by rw [hframe.rnc, hcommand], by rw [hframe.rnc, hresult], by rw [hframe.attention, hcmd]⟩
  case refused => exact congrArg Host.Outcome.next (commandStart_refused hb hr)
  case waits =>
    refine congrArg Host.Outcome.next ((commandStart_waits hq hb hburst hwaiting hhalf).trans ?_)
    simp only [requestBurst, setRequests, withRequest, hq, List.mem_cons, hb.symm, false_or]
    rfl
  case stop =>
    show AcceptedAs 2#8 (commandStop s)
    rw [commandStop, hr]
    exact acceptedAs_of (stopPart_reacts _) (stopPart_cmd _)
  case stopRefused =>
    show Host.Outcome.next (commandStop s) = _
    unfold commandStop
    split
    next h => exact absurd h hr
    all_goals rfl
  case abort =>
    show AcceptedAs 3#8 (commandAbort s)
    have haccepted : AcceptedAs 3#8
        (setRunState .ready (abandonRun .shortAbort (recordCommand 3#8 .accepted s))) :=
      acceptedAs_of ((abandonRun_reacts _ _).trans (setRunState_reacts _ _))
        (by simp [setRunState_attention, abandonRun_cmd])
    obtain hr | hr := hr <;> simpa only [commandAbort, hr] using haccepted
  case abortRefused =>
    show Host.Outcome.next (commandAbort s) = _
    unfold commandAbort
    split
    next h => exact absurd (.inl h) hr
    next h => exact absurd (.inr h) hr
    all_goals rfl
  case ackFault =>
    show AcceptedAs 4#8 (commandAckFault s)
    rw [commandAckFault_accepted hr.1 hr.2]
    exact acceptedAs_of (acknowledge_reacts _)
      (by simp [acknowledge, setRunState_attention, abandonRun_cmd])
  case ackRefused =>
    show Host.Outcome.next (commandAckFault s) = _
    unfold commandAckFault
    split
    next h => rw [if_neg fun hs => hr ⟨h, hs⟩]; rfl
    all_goals rfl
  case badCode =>
    show Host.Outcome.next (controlWrite w s) = _
    unfold controlWrite
    split
    case h_6 => rfl
    all_goals omega

end Sys2Proof.Machine
end

section
/-! START by its machine record (R82, R157, R158, R166): O6. -/
namespace Sys2Proof.Machine

/-- With no burst running, a source that needs one has its request among the requests. -/
theorem askFor_requests (b : BurstSource) (needed : Bool) {s : State} (h : s.pxm.burst = none) :
    (askFor b needed s).pxm.requests =
      if needed then withRequest b s.pxm.requests else s.pxm.requests := by
  cases needed <;> simp [askFor, inProgress, h, requestBurst, setRequests]

/-! ### What an accepted START leaves -/

/-- START leaves the port as it is, but for ATTENTION and the Note Processor's request (R176). -/
theorem startPart_port (r : MachineRecord) (s : State) :
    (startPart r s).pxm.memory = s.pxm.memory ∧ (startPart r s).pxm.mask = s.pxm.mask ∧
    (startPart r s).pxm.tearLatch = s.pxm.tearLatch ∧
    (startPart r s).pxm.waiting = s.pxm.waiting := by
  simp [startPart, formLeads, startNotes, setNoteWork]

/-- START sets ATTENTION.STATE when it changes the run state (R155). -/
theorem startPart_attention (r : MachineRecord) (s : State) :
    (startPart r s).pxm.attention = { s.pxm.attention with
      state := s.pxm.attention.state || s.rnc.runState != startState r } := by
  simp [startPart, formLeads, setRunState_attention, startNotes, setNoteWork, Rnc.start]

theorem startPart_requests (r : MachineRecord) {s : State} (h : s.pxm.burst = none) :
    (startPart r s).pxm.requests =
      if BurstSource.notes ∈ s.pxm.requests ∨ (startPart r s).ntp.work = [] then s.pxm.requests
      else s.pxm.requests ++ [.notes] := by
  rw [startPart_ntp]
  simp only [startPart, formLeads, startNotes, setNoteWork, updateNoteRequest, withRequest,
    askFor_requests, h, setRunState_keeps, State.setKnt_pxm, State.setLnd_pxm, State.setNtp_pxm,
    State.setTrc_pxm, State.setRnc_pxm, State.setJbc_pxm, State.setTka_pxm, State.setSkc_pxm,
    State.setMkt_pxm, State.setRot_pxm, State.setTrc_ntp, State.setNtp_ntp]
  generalize workAfterStart (machineIndex r == 0) (s.pxm.requests.contains .notes) s.ntp = work
  by_cases hmem : BurstSource.notes ∈ s.pxm.requests
  · simp [hmem]
  · cases work <;> simp [hmem]

/-- What every accepted START leaves, its record valid or not (R158). -/
theorem startPart_values (m : MachineRecord) {s : State} (h : s.pxm.burst = none) :
    StartValues s (startPart m (recordCommand 1#8 .accepted (readServed s))) := by
  obtain ⟨hmkt, hrot, hknt, hskc, htka, hjbc, hrpw, hrnc⟩ :=
    startPart_blocks m (recordCommand 1#8 .accepted (readServed s))
  obtain ⟨hmemory, hmask, hlatch, -⟩ :=
    startPart_port m (recordCommand 1#8 .accepted (readServed s))
  have hrequests := startPart_requests m (s := recordCommand 1#8 .accepted (readServed s)) h
  have hntp := startPart_ntp m (recordCommand 1#8 .accepted (readServed s))
  have hlnd := startPart_lnd m (recordCommand 1#8 .accepted (readServed s))
  have htrc := startPart_trc m (recordCommand 1#8 .accepted (readServed s))
  generalize startPart m (recordCommand 1#8 .accepted (readServed s)) = t at *
  exact
    { front := htrc ▸ ⟨rfl, rfl⟩
      detectors := htrc ▸ ⟨rfl, rfl⟩
      zone := htrc ▸ ⟨rfl, rfl, rfl⟩
      travelKept := htrc ▸ ⟨rfl, rfl, rfl, rfl⟩
      tracker := hmkt ▸ ⟨rfl, rfl, rfl, rfl, rfl⟩
      tallies := hmkt ▸ ⟨rfl, rfl, rfl⟩
      splice := hmkt ▸ ⟨rfl, rfl⟩
      track := hrot ▸ ⟨rfl, rfl, rfl⟩
      knife := hknt ▸ ⟨rfl, rfl, rfl⟩
      stroke := hknt ▸ ⟨rfl, by
        simp only [Knt.start, Knt.untrack, recordCommand_keeps, Option.map_map]
        rfl⟩
      notes := hntp ▸ ⟨rfl, rfl, rfl, rfl, rfl⟩
      deciders := fun l => (hlnd l) ▸ ⟨rfl, rfl⟩
      lines := fun l => hskc ▸ by cases l <;> exact ⟨rfl, rfl, rfl, rfl, rfl, rfl⟩
      takeaway := fun c => htka ▸ by cases c <;> exact ⟨rfl, fun l => by cases l <;> rfl⟩
      reservations := htka ▸ rfl
      jobs := hjbc ▸ ⟨rfl, rfl, rfl⟩
      faultCode := hrnc ▸ rfl
      stops := hrnc ▸ ⟨rfl, rfl⟩
      reports := hrpw
      port := ⟨hmemory, hmask, hlatch⟩
      requests := hrequests }

/-! ### The page work after START -/

theorem lateNote_eq (ready : Bool) (n : Ntp) (p : PageInWork) (h : n.inWork = some p) :
    (lateNote ready n).toList = lateBurst ready p n.work.head? := by
  unfold lateNote lateBurst
  rw [h]
  cases ready with
  | false => rfl
  | true =>
    cases n.work with
    | nil => rfl
    | cons b rest => cases b <;> rfl

theorem lateNote_none (ready : Bool) (n : Ntp) (h : n.inWork = none) : lateNote ready n = none := by
  unfold lateNote
  rw [h]
  cases ready <;> rfl

/-- The fate writes of a page cut short from note `i` on. -/
def unappliedFrom (i : Nat) (p : PageInWork) : List NoteBurst :=
  (List.range (p.count - i)).map fun k => .fateWrite p.page (i + k) .unapplied 0

theorem workAfterStart_cut (ready requested : Bool) (n : Ntp) (p : PageInWork)
    (h : n.inWork = some p) :
    workAfterStart ready requested n = lateBurst ready p n.work.head? ++
      n.work.filterMap (keptAtStart ready) ++
      unappliedFrom (p.next + (lateBurst ready p n.work.head?).length) p ++ [.cutShortDone p.page] ++
      if ready = true then [.stateCheck] else [] := by
  have hlength : (lateNote ready n).isSome.toNat = (lateNote ready n).toList.length := by
    cases lateNote ready n <;> rfl
  rw [← lateNote_eq ready n p h, ← hlength]
  cases ready <;> simp [workAfterStart, cutShort, h, cutShortFrom, unappliedFrom]

theorem workAfterStart_none (ready requested : Bool) (n : Ntp) (h : n.inWork = none) :
    workAfterStart ready requested n = n.work.filterMap (keptAtStart ready) ++
      if ready = true ∨ (requested = true ∧ n.work.filterMap (keptAtStart ready) = [])
      then [.stateCheck] else [] := by
  have hwork : (lateNote ready n).toList ++ n.work.filterMap (keptAtStart ready) ++
      cutShort (lateNote ready n).isSome n.inWork = n.work.filterMap (keptAtStart ready) := by
    rw [lateNote_none ready n h, h]
    simp [cutShort]
  unfold workAfterStart
  dsimp only
  rw [hwork]
  have hcheck : (ready || (requested && (n.work.filterMap (keptAtStart ready)).isEmpty)) = true ↔
      ready = true ∨ (requested = true ∧ n.work.filterMap (keptAtStart ready) = []) := by
    rw [Bool.or_eq_true, Bool.and_eq_true, List.isEmpty_iff]
  simp only [hcheck]
  split
  · rfl
  · rw [List.append_nil]

/-- The page work that an accepted START leaves (R82, R158, R166). -/
theorem startPart_notes (m : MachineRecord) {s : State}
    (hnotes : BurstSource.notes ∈ s.pxm.requests ↔ BurstSource.notes ∈ s.pxm.requests.tail) :
    StartNotes s (startPart m (recordCommand 1#8 .accepted (readServed s))) := by
  have hready : (machineIndex m == 0) = true ↔
      (startPart m (recordCommand 1#8 .accepted (readServed s))).rnc.runState = .ready := by
    obtain ⟨-, -, -, -, -, -, -, hrnc⟩ :=
      startPart_blocks m (recordCommand 1#8 .accepted (readServed s))
    rw [hrnc]
    simp only [startState, beq_iff_eq]
    split <;> simp [*]
  have hntp := startPart_ntp m (recordCommand 1#8 .accepted (readServed s))
  generalize startPart m (recordCommand 1#8 .accepted (readServed s)) = t at *
  have hwork : t.ntp.work = workAfterStart (machineIndex m == 0)
    (s.pxm.requests.tail.contains .notes) s.ntp := by rw [hntp]; rfl
  constructor
  case cut =>
    intro p hp
    refine ⟨machineIndex m == 0, lateBurst (machineIndex m == 0) p s.ntp.work.head?,
      unappliedFrom (p.next + (lateBurst (machineIndex m == 0) p s.ntp.work.head?).length) p, _,
      hready, hwork.trans (workAfterStart_cut _ _ _ p hp), rfl, ?_, fun i hi => ?_, rfl⟩
    · simp [unappliedFrom]
    · simp [unappliedFrom, hi]
  case none =>
    intro hp
    refine ⟨machineIndex m == 0, s.ntp.work.filterMap (keptAtStart (machineIndex m == 0)), _, hready,
      hwork.trans (workAfterStart_none _ _ _ hp), rfl, ?_⟩
    exact if_congr (by rw [List.contains_iff_mem, hnotes]) rfl rfl

/-- Settles O6: a START whose burst begins at once is the accepted START of its machine record. -/
theorem startByItsMachineRecord : Obligations.StartByItsMachineRecord := by
  intro s m hr hb hm
  have hpart : startPart m (recordCommand 1#8 .accepted (readServed s)) = commandStart s := by
    rw [commandStart_mayBegin hb, requestServed hb, startEvent_taken (s := readServed s) hr, hm]
    refine (afterBurst_idle _ ?_ ?_).symm
    · exact (startPart_port _ _).2.2.2.trans hb.2.waiting
    · rw [(startPart_blocks _ _).2.2.2.2.2.2.1]
      exact hb.2.halfWork
  have hvalues := startPart_values m hb.2.burst
  have hnotes := startPart_notes m (s := s) (by
    obtain ⟨hempty | hfirst, -⟩ := hb
    · rw [hempty]
      rfl
    · obtain ⟨q, hq⟩ := List.head?_eq_some_iff.1 hfirst
      simp [hq])
  obtain ⟨-, -, hknt, -, -, -, -, hrnc⟩ :=
    startPart_blocks m (recordCommand 1#8 .accepted (readServed s))
  rw [hpart] at hvalues hnotes hknt hrnc
  refine ⟨fun hi => ⟨_, rfl, hvalues, hnotes, ?_⟩, fun hi => ⟨_, rfl, hvalues, hnotes, ?_⟩⟩
  · obtain ⟨hlead, hflaps⟩ := commandStart_formed hr hb (by rw [← hm]; exact hi)
    have hstate : (commandStart s).rnc.runState = .ready := by
      rw [hrnc]
      exact if_pos hi
    refine ⟨hstate, by simp [halt, hstate], by rw [hrnc]; exact hi, ?_, by rw [hrnc]; rfl, ?_, ?_, ?_⟩
    · rw [hrnc]
      exact if_pos hi
    · rw [hlead, hm]
      rfl
    · intro l
      rw [hflaps l, hm]
      rfl
    · intro hoff
      rw [← hpart, startPart_attention]
      simp [readServed, hoff, startState, hi]
  · have hstate : (commandStart s).rnc.runState = .off := by
      rw [hrnc]
      exact if_neg hi
    refine ⟨hstate, by simp [halt, hstate], by rw [hrnc]; rfl, ?_, by rw [hrnc]; rfl⟩
    rw [hrnc]
    exact if_neg hi

end Sys2Proof.Machine
end

section
/-! Press-controller writes of the watched words (R78, R169, R178): O14 and O15. -/
namespace Sys2Proof.Machine

/-! ### Exchange memory after the write of a word -/

theorem storeWord_sameOutside (a : Nat) (w : Word) (s : State) :
    SameOutside a 2 s.pxm.memory (storeWord a w s).pxm.memory :=
  fun _ hk => Memory.readByte_writeWord_ne (by omega) (by omega)

theorem storeWord_readWord {a : Nat} (w : Word) {s : State} (h : s.pxm.memory.wf = true)
    (ha : a + 1 < 8192) : Memory.readWord (storeWord a w s).pxm.memory a = w :=
  Memory.readWord_writeWord_self h ha

theorem SameOutside.trans {a n : Nat} {m m' m'' : Memory} (h : SameOutside a n m m')
    (k : SameOutside a n m' m'') : SameOutside a n m m'' :=
  fun i hi => (k i hi).trans (h i hi)

/-! ### A page posted (R78) -/

theorem takePage_present {s : State} (h : NoteBurst.pageTaking ∈ s.ntp.work) : takePage s = s :=
  if_pos h

/-- The Note Processor sets out to take the page: one page taking more, and its request. -/
theorem takePage_absent {s : State} (h : NoteBurst.pageTaking ∉ s.ntp.work)
    (hb : s.pxm.burst = none) : takePage s = { s with
      ntp := { s.ntp with work := s.ntp.work ++ [.pageTaking] },
      pxm := { s.pxm with requests := withRequest .notes s.pxm.requests } } := by
  have hneeds : (!(s.ntp.work ++ [NoteBurst.pageTaking]).isEmpty) = true := by simp
  have hidle : inProgress .notes (s.setNtp { s.ntp with work := s.ntp.work ++ [.pageTaking] }) =
      false := by simp [inProgress, hb]
  unfold takePage
  rw [if_neg h]
  unfold setNoteWork updateNoteRequest askFor
  rw [hidle]
  simp only [State.setNtp_ntp, hneeds]
  rfl

theorem pageBase_served (p : Page) : byteAddress (portAddress (pageBase p)) = pageBase p ∧
    watcherOf (pageBase p) = .page p ∧ pageBase p + 1 < 8192 := by
  cases p <;> decide

/-- The Note Processor's answer to a page's state word changes its work and its request alone, and gives
no half state access its turn. -/
theorem pagePostedAct_eq (p : Page) (w : Word) {s : State} (hb : s.pxm.burst = none) :
    pagePostedAct p w s = s ∨ pagePostedAct p w s = { s with
      ntp := { s.ntp with work := s.ntp.work ++ [.pageTaking] },
      pxm := { s.pxm with requests := withRequest .notes s.pxm.requests } } := by
  unfold pagePostedAct
  split
  · by_cases h : NoteBurst.pageTaking ∈ s.ntp.work
    · exact .inl (takePage_present h)
    · exact .inr (takePage_absent h hb)
  · exact .inl rfl

theorem requests_head_notes {q : List BurstSource} (h : q.head? ≠ some .reports) :
    (withRequest .notes q).head? ≠ some .reports := by
  rw [Ne, withRequest_head]
  rintro (hq | ⟨-, hq⟩)
  · exact h hq
  · cases hq

/-- A page's state word, written in a free memory: it is stored, and the Note Processor acts on it. -/
theorem notePagePosting_free {s : State} (h : MemoryFree s) (p : Page) (w : Word) :
    exec (.notePagePosting p w) s = .next (pagePostedAct p w (storeWord (pageBase p) w s)) := by
  obtain ⟨hserved, hwatcher, -⟩ := pageBase_served p
  have hserve : serveAccess (.write (portAddress (pageBase p)) w) s =
      pagePostedAct p w (storeWord (pageBase p) w s) := by
    simp only [serveAccess, pressWrite, hserved, hwatcher]
  have hb : (storeWord (pageBase p) w s).pxm.burst = none := (memoryFree_idle h).1
  have hwaits : beginNext (pagePostedAct p w (storeWord (pageBase p) w s)) =
      pagePostedAct p w (storeWord (pageBase p) w s) := by
    refine beginNext_waits ?_
    obtain e | e := pagePostedAct_eq p w hb <;> rw [e]
    · exact h.2.2
    · exact h.2.2.imp_right requests_head_notes
  show Host.Outcome.next (pressAccess _ s) = _
  rw [pressAccess_free h, hserve, hwaits]

/-- Settles O14: the page taking is requested exactly for POSTED in the expected page. -/
theorem postingIsActedOnForTheExpectedPage : Obligations.PostingIsActedOnForTheExpectedPage := by
  intro p w s hfree hinv
  obtain ⟨-, -, hbound⟩ := pageBase_served p
  have hb : (storeWord (pageBase p) w s).pxm.burst = none := (memoryFree_idle hfree).1
  have hword := storeWord_readWord w hinv.memory hbound
  have hsame := storeWord_sameOutside (pageBase p) w s
  refine ⟨_, notePagePosting_free hfree p w, ?_⟩
  by_cases hposted : w = 1#16 ∧ p = s.ntp.expectedPage ∧ s.ntp.inWork = none ∧ s.rnc.runState ≠ .off
  · have hact : pagePostedAct p w (storeWord (pageBase p) w s) =
        takePage (storeWord (pageBase p) w s) := if_pos hposted
    rw [hact]
    by_cases hwork : NoteBurst.pageTaking ∈ s.ntp.work
    · have hrequest : BurstSource.notes ∈ s.pxm.requests := by
        obtain ⟨b, hburst, -⟩ | hasked := hinv.notes
        · rw [show s.pxm.burst = none from hb] at hburst
          cases hburst
        · exact hasked.2 (List.ne_nil_of_mem hwork)
      rw [takePage_present (s := storeWord (pageBase p) w s) hwork]
      exact ⟨hword, hsame, fun _ _ _ _ => ⟨hwork, hrequest, fun h => absurd hwork h⟩,
        fun h => absurd hposted h, rfl⟩
    · rw [takePage_absent (s := storeWord (pageBase p) w s) hwork hb]
      have hrequest := mem_withRequest .notes s.pxm.requests
      exact ⟨hword, hsame, fun _ _ _ _ => ⟨List.mem_append_right _ (List.mem_singleton_self _),
        hrequest, fun _ => rfl⟩, fun h => absurd hposted h, rfl⟩
  · have hact : pagePostedAct p w (storeWord (pageBase p) w s) = storeWord (pageBase p) w s :=
      if_neg hposted
    rw [hact]
    exact ⟨hword, hsame, fun h1 h2 h3 h4 => absurd ⟨h1, h2, h3, h4⟩ hposted, fun _ => rfl, rfl⟩

/-! ### A half freed (R178) -/

theorem halfBase_served (k : Half) : byteAddress (portAddress (halfBase k)) = halfBase k ∧
    watcherOf (halfBase k) = .half k ∧ halfBase k + 1 < 8192 := by
  cases k <;> decide

/-- The Report Writer once it has taken the half: FILLING is to be written (R178). -/
def halfTaken (k : Half) (s : State) : State :=
  { s with
    rpw := { s.rpw with
      writer := .filling k, fillIndex := 0, ageTimer := none, halfWork := [.writeFilling k] },
    pxm := { s.pxm with requests := withRequest .reports s.pxm.requests } }

theorem takeHalf_eq (k : Half) {s : State} (hb : s.pxm.burst = none) :
    takeHalf k s = halfTaken k s := by
  simp only [takeHalf, updateReportRequest, askFor, inProgress, hb, State.setRpw_pxm,
    State.setRpw_rpw, Rpw.needsBurst, Option.any_none, Bool.not_false, Bool.and_true]
  rfl

/-- The half taken with FILLING written at once, in a burst that has the memory (R178, R180). -/
def fillingWritten (k : Half) (s : State) : State :=
  { s with
    rpw := { s.rpw with writer := .filling k, fillIndex := 0, ageTimer := none, halfWork := [] },
    pxm := { s.pxm with
      memory := Memory.writeWord s.pxm.memory (halfBase k) halfFilling
      requests := s.pxm.requests.tail
      burst := some ⟨.reports, overwritten s.pxm.memory (halfBase k) 1⟩ } }

theorem beginNext_halfTaken {k : Half} {s : State} (hb : s.pxm.burst = none) :
    beginNext (halfTaken k s) =
      if s.pxm.requests = [] ∨ s.pxm.requests.head? = some .reports then fillingWritten k s
      else halfTaken k s := by
  have hturn : ((halfTaken k s).pxm.burst.isNone && hasTurn .reports (halfTaken k s)) = true ↔
      s.pxm.requests = [] ∨ s.pxm.requests.head? = some .reports := by
    have hhead := withRequest_head .reports .reports s.pxm.requests
    simp only [and_true] at hhead
    rw [or_comm, ← hhead, Bool.and_eq_true, hasTurn, beq_iff_eq]
    have hnone : (halfTaken k s).pxm.burst.isNone = true := by
      show s.pxm.burst.isNone = true
      rw [hb]
      rfl
    exact and_iff_right hnone
  show (if ((halfTaken k s).pxm.burst.isNone && hasTurn .reports (halfTaken k s)) = true then
    halfAccess (.writeFilling k) [] (halfTaken k s) else halfTaken k s) = _
  refine if_ctx_congr hturn (fun h => ?_) fun _ => rfl
  have htail : (withRequest .reports s.pxm.requests).tail = s.pxm.requests.tail := by
    obtain h | h := h
    · rw [h]
      rfl
    · exact congrArg List.tail (if_pos (List.mem_of_head? h))
  unfold fillingWritten
  rw [← htail]
  rfl

/-- When FILLING has been written, the burst of the next record is requested (R170, R179). -/
theorem settleMemory_fillingWritten {k : Half} {s : State} (hw : s.pxm.waiting = [])
    (hq : s.rpw.queue ≠ []) :
    BurstSource.reports ∈ (settleMemory (fillingWritten k s)).pxm.requests := by
  obtain ⟨r, rest, hq⟩ := List.exists_cons_of_ne_nil hq
  have hended : endBurst (fillingWritten k s) = { fillingWritten k s with
      pxm := { (fillingWritten k s).pxm with
        burst := none, requests := withRequest .reports s.pxm.requests.tail } } := by
    have hneeds : (fillingWritten k s).rpw.needsBurst = true := by
      simp only [fillingWritten, Rpw.needsBurst, hq]
    show askFor .reports (fillingWritten k s).rpw.needsBurst _ = _
    rw [hneeds]
    rfl
  have hsettled : settleMemory (fillingWritten k s) = endBurst (fillingWritten k s) := by
    rw [hended]
    exact (congrArg afterBurst hended).trans (afterBurst_idle _ hw rfl)
  rw [hsettled, hended]
  exact mem_withRequest .reports s.pxm.requests.tail

/-- A half's state word, written in a free memory: it is stored, and the Report Writer acts on it. -/
theorem halfFreeing_free {s : State} (h : MemoryFree s) (k : Half) (w : Word) :
    exec (.halfFreeing k w) s = .next (beginNext (halfFreedAct k w (storeWord (halfBase k) w s))) := by
  obtain ⟨hserved, hwatcher, -⟩ := halfBase_served k
  show Host.Outcome.next (pressAccess _ s) = _
  rw [pressAccess_free h]
  simp only [serveAccess, pressWrite, hserved, hwatcher]

/-- Settles O15: the freed half is taken, and its FILLING written when the memory's turn is at once. -/
theorem freeingIsActedOnForTheAwaitedHalf : Obligations.FreeingIsActedOnForTheAwaitedHalf := by
  intro k w s hfree hwf
  obtain ⟨-, -, hbound⟩ := halfBase_served k
  have hb : (storeWord (halfBase k) w s).pxm.burst = none := (memoryFree_idle hfree).1
  have hword := storeWord_readWord w hwf hbound
  have hsame := storeWord_sameOutside (halfBase k) w s
  refine ⟨_, halfFreeing_free hfree k w, ?_⟩
  by_cases hfreed : w = 0#16 ∧ s.rpw.writer = .waiting k
  case neg =>
    have hact : beginNext (halfFreedAct k w (storeWord (halfBase k) w s)) =
        storeWord (halfBase k) w s := by
      rw [show halfFreedAct k w (storeWord (halfBase k) w s) = storeWord (halfBase k) w s from
        if_neg hfreed]
      exact beginNext_waits (s := storeWord (halfBase k) w s) hfree.2.2
    rw [hact]
    exact ⟨hsame, fun h1 h2 => absurd ⟨h1, h2⟩ hfreed, fun _ => ⟨hword, rfl⟩, rfl⟩
  case pos =>
    have hact : halfFreedAct k w (storeWord (halfBase k) w s) =
        halfTaken k (storeWord (halfBase k) w s) :=
      (if_pos (c := w = halfEmpty ∧ s.rpw.writer = .waiting k) hfreed).trans (takeHalf_eq k hb)
    have hwf' : (storeWord (halfBase k) w s).pxm.memory.wf = true :=
      Memory.wf_writeWord hwf hbound
    rw [hact, beginNext_halfTaken hb]
    split
    next hfirst =>
      have hfilling : Memory.readWord (fillingWritten k (storeWord (halfBase k) w s)).pxm.memory
          (halfBase k) = 1#16 := storeWord_readWord halfFilling hwf' hbound
      refine ⟨hsame.trans (storeWord_sameOutside (halfBase k) halfFilling _), fun _ _ =>
        ⟨rfl, rfl, rfl, rfl, fun _ => ⟨rfl, rfl, hfilling, fun hq => ?_⟩, fun hne hhead => ?_⟩,
        fun h => absurd hfreed h, rfl⟩
      · exact settleMemory_fillingWritten (s := storeWord (halfBase k) w s) hfree.2.1 hq
      · obtain h | h := hfirst
        · exact absurd h hne
        · exact absurd h hhead
    next hbehind =>
      refine ⟨hsame, fun h0 _ => ⟨rfl, rfl, rfl, rfl, fun h => absurd (.inl h) hbehind,
        fun _ _ => ⟨rfl, ?_, hword.trans h0⟩⟩, fun h => absurd hfreed h, rfl⟩
      exact mem_withRequest .reports s.pxm.requests

end Sys2Proof.Machine
end

section
/-! Web travel and speed (R3 to R14): O16 to O19 and O21. -/
namespace Sys2Proof.Machine

/-! ### The report queue (R177) -/

theorem riseTo_eq (limit n : Nat) : riseTo limit n = min limit (n + 1) := by
  unfold riseTo
  split <;> omega

/-- A record that finds room joins the queue. -/
theorem queueRecord_joins {r : Record} {s : State}
    (h : r.isStack = true ∨ otherRecords s.rpw.queue < 4) :
    (queueRecord r s).rpw = { s.rpw with queue := s.rpw.queue ++ [r] } := by
  have hroom : (r.isStack || decide (otherRecords s.rpw.queue < Config.otherRecordCapacity)) = true := by
    simpa [Config.otherRecordCapacity] using h
  unfold queueRecord
  rw [if_pos hroom]
  simp [updateReportRequest]

/-- A record that finds no room is dropped and counted. -/
theorem queueRecord_dropped {r : Record} {s : State} (hr : r.isStack = false)
    (h : 4 ≤ otherRecords s.rpw.queue) : (queueRecord r s).rpw = { s.rpw with
      droppedCount := min 65535 (s.rpw.droppedCount + 1), dropPending := true } := by
  have hfull : (r.isStack || decide (otherRecords s.rpw.queue < Config.otherRecordCapacity)) = false := by
    simpa [hr, Config.otherRecordCapacity] using h
  simp only [queueRecord, hfull, ← riseTo_eq]
  rfl

/-- A record that joins or is dropped changes the Report Writer and its request alone. -/
theorem queueRecord_only (r : Record) (s : State) : queueRecord r s = { s with
    rpw := (queueRecord r s).rpw,
    pxm := { s.pxm with requests := (queueRecord r s).pxm.requests } } := by
  unfold queueRecord
  split
  · unfold updateReportRequest askFor
    split <;> rfl
  · rfl

/-! ### Halting faults (R164, R165) -/

/-- The Run Controller once it has taken a halting fault. -/
def faultTaken (fault : HaltingFault) (r : Rnc) : Rnc :=
  if r.runState = .halted then r else { r.noStops with runState := .halted, faultCode := some fault }

/-- The state at which a halting fault's record is queued. -/
def faultRaised (fault : HaltingFault) (s : State) : State :=
  { s with
    rnc := faultTaken fault s.rnc
    pxm := { s.pxm with attention := { s.pxm.attention with
      fault := true, state := s.pxm.attention.state || s.rnc.runState != .halted } } }

theorem running_of_faultsRaised {s : State} : running s = true ↔ FaultsRaised s := running_iff s

theorem raiseHalting_raised (fault : HaltingFault) (f : Count) {s : State} (h : FaultsRaised s) :
    raiseHalting fault f s = queueRecord (.fault (.halting fault) (s.rnc.runState == .halted) f
      (newestNumber s)) (faultRaised fault s) := by
  have hrun : s.rnc.runState ≠ .halted → flagFault (setRunState .halted
      (s.setRnc { s.rnc.noStops with faultCode := some fault })) = faultRaised fault s := by
    intro hr
    have hne : (s.rnc.runState != .halted) = true := bne_iff_ne.2 hr
    simp only [faultRaised, faultTaken, if_neg hr, hne, Bool.or_true, setRunState, State.setRnc_rnc,
      Rnc.noStops_keeps]
    rfl
  unfold raiseHalting
  obtain hr | hr | hr := h
  · simp only [hr]
    rw [hrun (by simp [hr])]
    rfl
  · simp only [hr]
    rw [hrun (by simp [hr])]
    rfl
  · simp only [hr]
    simp [faultRaised, faultTaken, hr]
    rfl

/-- A halting fault raised in a run is taken by R164 and R165; `x` is the Travel Counter as the raising
block has left it. -/
theorem haltingTaken_raised (fault : HaltingFault) {s : State} (x : Trc) (h : FaultsRaised s) :
    HaltingTaken fault s (raiseHalting fault s.trc.front { s with trc := x }) := by
  rw [raiseHalting_raised fault s.trc.front (s := { s with trc := x }) h]
  have honly := queueRecord_only (.fault (.halting fault) (s.rnc.runState == .halted) s.trc.front
    (newestNumber s)) (faultRaised fault { s with trc := x })
  have hjoins := fun hroom : otherRecords s.rpw.queue < 4 =>
    queueRecord_joins (r := .fault (.halting fault) (s.rnc.runState == .halted) s.trc.front
      (newestNumber s)) (s := faultRaised fault { s with trc := x }) (.inr hroom)
  have hdropped := queueRecord_dropped (r := .fault (.halting fault) (s.rnc.runState == .halted)
    s.trc.front (newestNumber s)) (s := faultRaised fault { s with trc := x }) rfl
  show HaltingTaken fault s (queueRecord (.fault (.halting fault) (s.rnc.runState == .halted)
    s.trc.front (newestNumber s)) (faultRaised fault { s with trc := x }))
  generalize queueRecord _ (faultRaised fault { s with trc := x }) = t at *
  have hrnc : t.rnc = faultTaken fault s.rnc := by rw [honly]; rfl
  constructor
  case runState =>
    rw [hrnc, faultTaken]
    split
    next hr => exact hr
    next => rfl
  case faultCode =>
    rw [hrnc, faultTaken]
    split <;> rfl
  case attention =>
    rw [honly]
    rfl
  case stops =>
    intro hr
    rw [hrnc, faultTaken, if_neg hr]
    exact ⟨rfl, rfl⟩
  case stopsKept =>
    intro hr
    rw [hrnc, faultTaken, if_pos hr]
    exact ⟨rfl, rfl⟩
  case queued =>
    intro hroom
    rw [hjoins hroom]
    exact ⟨rfl, rfl, rfl⟩
  case dropped =>
    intro hfull
    rw [hdropped hfull]
    exact ⟨rfl, rfl, rfl⟩
  case only =>
    have hrpw : t.rpw = { s.rpw with
        queue := t.rpw.queue, droppedCount := t.rpw.droppedCount, dropPending := t.rpw.dropPending } := by
      obtain hroom | hfull := Nat.lt_or_ge (otherRecords s.rpw.queue) 4
      · rw [hjoins hroom]
        rfl
      · rw [hdropped hfull]
        rfl
    have hkept : t.rnc = { s.rnc with
        runState := t.rnc.runState, faultCode := t.rnc.faultCode, stopRows := t.rnc.stopRows,
        stopPending := t.rnc.stopPending } := by
      rw [hrnc, faultTaken]
      split <;> rfl
    have htrc : t.trc = x := by rw [honly]; rfl
    have hattention : t.pxm.attention = { s.pxm.attention with
        fault := true, state := s.pxm.attention.state || s.rnc.runState != .halted } := by
      rw [honly]
      rfl
    rw [← hkept, ← hrpw, htrc, hattention, hrnc]
    exact honly

/-! ### Acts due together (log entry 2) -/

/-- The taking of the due acts takes each of them once, in some order. -/
theorem takeDue_takenInSomeOrder {α : Type} (due : α → State → Bool) (act : α → State → State)
    (ts : List α) (u : State) : TakenInSomeOrder due act ts u (takeDue due act ts u) := by
  unfold takeDue
  split
  next h => exact ⟨[], u.choices, h ▸ .refl _, fun _ => rfl, rfl⟩
  next a h => exact ⟨[a], u.choices, h ▸ .refl _, fun _ => rfl, rfl⟩
  next a b rest h =>
    have hperm := permute_perm (rest.length + 2) (Config.order u.choices) (a :: b :: rest) le_rfl
    refine ⟨_, u.choices + 1, by rw [h]; exact hperm, fun hlength => ?_, rfl⟩
    rw [hperm.length_eq] at hlength
    simp at hlength

/-! ### Counts (R4 to R9) -/

/-- Settles O16: the forward count at the front is the front advance at the next count. -/
theorem forwardCountMovesTheWebAndTheFront : Obligations.ForwardCountMovesTheWebAndTheFront := by
  intro s hreset
  have hexec : exec .forwardCount s = if s.trc.web = s.trc.front
      then .next (frontAdvance (s.setTrc s.trc.forward)) else .next (s.setTrc s.trc.forward) := by
    show execForwardCount s = _
    rw [execForwardCount, if_neg (by simp [hreset])]
  refine ⟨fun hbehind => ?_, fun hfront u hu => ?_⟩
  · rw [hexec, if_neg hbehind, Trc.forward, if_neg hbehind]
    rfl
  · have hstart : s.setTrc s.trc.forward = u := by
      rw [hu, Trc.forward, if_pos hfront]
      rfl
    refine ⟨frontAdvance u, by rw [hexec, if_pos hfront, hstart], frontAdvance_reacts u,
      takeDue_takenInSomeOrder _ _ _ _, takeDue_none⟩

/-- Settles O17: the reverse count's test of the distance is its only other effect. -/
theorem reverseCountRaisesReverseLimitOnce : Obligations.ReverseCountRaisesReverseLimitOnce := by
  intro s m hreset hm
  have hexec : exec .reverseCount s = .next (reverseTest (s.setTrc s.trc.backward)) := by
    show execReverseCount s = _
    rw [execReverseCount, if_neg (by simp [hreset])]
  have hdue : (reverseDistance s.trc.backward = m.reverseLimit + 1 && running s) = true ↔
      (s.trc.front - (s.trc.web - 1#32)).toNat = m.reverseLimit + 1 ∧ FaultsRaised s := by
    rw [Bool.and_eq_true, decide_eq_true_iff, running_of_faultsRaised]
    rfl
  have hraised : FaultsRaised s → s.trc.reverseDetector = .armed →
      (s.trc.front - (s.trc.web - 1#32)).toNat = m.reverseLimit + 1 →
      reverseTest (s.setTrc s.trc.backward) = raiseHalting .reverseLimit s.trc.front
        { s with trc := { s.trc.backward with reverseDetector := .spent } } := by
    intro hrun hdetector hdistance
    have hdetector : s.trc.backward.reverseDetector = .armed := hdetector
    simp only [reverseTest, State.setTrc_rnc, State.setTrc_trc, hm, hdetector]
    exact if_pos (hdue.2 ⟨hdistance, hrun⟩)
  have hkept : ¬(FaultsRaised s ∧ s.trc.reverseDetector = .armed ∧
      (s.trc.front - (s.trc.web - 1#32)).toNat = m.reverseLimit + 1) →
      reverseTest (s.setTrc s.trc.backward) = s.setTrc s.trc.backward := by
    intro hcond
    cases hdetector : s.trc.backward.reverseDetector with
    | spent => simp only [reverseTest, State.setTrc_rnc, State.setTrc_trc, hm, hdetector]
    | armed =>
      simp only [reverseTest, State.setTrc_rnc, State.setTrc_trc, hm, hdetector]
      exact if_neg fun h => hcond ⟨(hdue.1 h).2, hdetector, (hdue.1 h).1⟩
  rw [hexec]
  by_cases hcond : FaultsRaised s ∧ s.trc.reverseDetector = .armed ∧
      (s.trc.front - (s.trc.web - 1#32)).toNat = m.reverseLimit + 1
  · obtain ⟨hrun, hdetector, hdistance⟩ := hcond
    have htaken := haltingTaken_raised .reverseLimit
      { s.trc.backward with reverseDetector := .spent } hrun
    rw [hraised hrun hdetector hdistance]
    have htrc := (raiseHalting_keeps .reverseLimit s.trc.front
      { s with trc := { s.trc.backward with reverseDetector := .spent } }).1
    refine ⟨_, rfl, ?_, ?_, ?_, ?_, fun _ _ _ => ⟨?_, htaken⟩, fun h => absurd ⟨hrun, hdetector, hdistance⟩ h⟩
    all_goals rw [htrc]
    all_goals rfl
  · rw [hkept hcond]
    exact ⟨_, rfl, rfl, rfl, rfl, rfl, fun h1 h2 h3 => absurd ⟨h1, h2, h3⟩ hcond, fun _ => rfl⟩

/-- A halting fault raised in a run is taken, and the knife tests its next cut where the run state has
changed (R62, R164, R165). -/
theorem haltPart_tested (fault : HaltingFault) {u : State} (h : FaultsRaised u) :
    HaltingTested fault u (haltPart fault u.trc.front u) := by
  have hstate : (raiseHalting fault u.trc.front u).rnc.runState = .halted := by
    rw [raiseHalting_runState, if_pos (running_of_faultsRaised.2 h)]
  refine ⟨_, haltingTaken_raised fault u.trc h, fun hr => ?_, fun hr => ?_⟩
  · exact if_pos (hstate.trans hr.symm)
  · refine congrArg Host.Outcome.next ?_
    exact (if_neg fun e => hr (e.symm.trans hstate)).symm

/-- The Travel Counter once an encoder error has spent its detector (R5). -/
def encoderSpent (x : Trc) : Trc :=
  { x with pins := x.pins.opposite, reference := x.pins.opposite, encoderDetector := .spent }

/-- Settles O18: ENCODER is the halting of the part that its detector raises once. -/
theorem illegalTransitionRaisesEncoderOnce : Obligations.IllegalTransitionRaisesEncoderOnce := by
  intro s hreset
  have hexec : exec .illegalTransition s = .next (encoderError (s.setTrc { s.trc with
      pins := s.trc.pins.opposite, reference := s.trc.pins.opposite })) := by
    show execIllegalTransition s = _
    rw [execIllegalTransition, if_neg (by simp [hreset])]
  rw [hexec]
  by_cases hcond : FaultsRaised s ∧ s.trc.encoderDetector = .armed
  case neg =>
    have hkept : encoderError (s.setTrc { s.trc with
        pins := s.trc.pins.opposite, reference := s.trc.pins.opposite }) = s.setTrc { s.trc with
        pins := s.trc.pins.opposite, reference := s.trc.pins.opposite } := by
      unfold encoderError
      split
      next hdetector =>
        exact if_neg fun h => hcond ⟨running_of_faultsRaised.1 h, hdetector⟩
      next => rfl
    rw [hkept]
    exact ⟨_, rfl, rfl, rfl, rfl, rfl, fun h1 h2 => absurd ⟨h1, h2⟩ hcond, fun _ => rfl⟩
  case pos =>
    obtain ⟨hrun, hdetector⟩ := hcond
    have hact : encoderError (s.setTrc { s.trc with
        pins := s.trc.pins.opposite, reference := s.trc.pins.opposite }) =
        haltPart .encoder s.trc.front { s with trc := encoderSpent s.trc } := by
      simp only [encoderError, State.setTrc_trc, hdetector]
      exact if_pos (running_of_faultsRaised (s := s).2 hrun)
    have htrc : (haltPart .encoder s.trc.front { s with trc := encoderSpent s.trc }).trc =
        encoderSpent s.trc := (haltPart_reacts _ _ _).trc
    rw [hact]
    refine ⟨_, rfl, by rw [htrc]; rfl, by rw [htrc]; rfl, by rw [htrc]; rfl, by rw [htrc]; rfl,
      fun _ _ => ⟨by rw [htrc]; rfl, { s with trc := encoderSpent s.trc }, by rw [htrc], ?_⟩,
      fun h => absurd ⟨hrun, hdetector⟩ h⟩
    exact haltPart_tested .encoder (u := { s with trc := encoderSpent s.trc }) hrun

/-! ### The speed sample (R10 to R14) -/

/-- What the zone logic leaves: W, F and the sample count. -/
theorem zoneSample_travel (m : MachineRecord) (v : Nat) (t : Trc) :
    (t.zoneSample m v).web = t.web ∧ (t.zoneSample m v).front = t.front ∧
    (t.zoneSample m v).previousSample = t.previousSample := by
  unfold Trc.zoneSample
  repeat' split
  all_goals exact ⟨rfl, rfl, rfl⟩

theorem sample_travel (m : Option MachineRecord) (t : Trc) :
    (t.sample m).web = t.web ∧ (t.sample m).front = t.front ∧
    (t.sample m).previousSample = t.web := by
  cases m with
  | none => exact ⟨rfl, rfl, rfl⟩
  | some r => exact zoneSample_travel r _ _

/-- The counts since the last sample as a signed number, clamped to 0 to 4095 (R10). -/
theorem sampledSpeed_eq (t : Trc) :
    ((t.web - t.previousSample).toNat < 2147483648 →
      sampledSpeed t = min 4095 (t.web - t.previousSample).toNat) ∧
    (2147483648 ≤ (t.web - t.previousSample).toNat → sampledSpeed t = 0) := by
  have hlt := (t.web - t.previousSample).isLt
  have hsigned := BitVec.toInt_eq_toNat_cond (t.web - t.previousSample)
  unfold sampledSpeed
  constructor
  · intro h
    rw [if_pos (by omega)] at hsigned
    simp only [hsigned]
    rw [if_neg (by omega), Int.toNat_natCast]
  · intro h
    rw [if_neg (by omega)] at hsigned
    exact if_pos (by omega)

/-- The part at the sample, its leads formed, before the acts that they make due. -/
def sampled (s : State) : State := formLeads (s.setTrc (s.trc.sample s.rnc.record))

theorem exec_speedSample {s : State} (h : s.pxm.resetAsserted = false) :
    exec .speedSample s = .next (takeDue sampleDue sampleAct targetActs (sampled s)) := by
  show execSpeedSample s = _
  rw [execSpeedSample, if_neg (by simp [h])]
  rfl

theorem sampled_reacts (s : State) :
    ReactionFrame (sampled s) (takeDue sampleDue sampleAct targetActs (sampled s)) :=
  takeDue_reacts sampleAct_reacts targetActs (sampled s)

/-- Settles O19: the sample forms the speed and the leads, and the acts due then are reactions. -/
theorem speedSampleFormsTheSpeedAndTheLeads : Obligations.SpeedSampleFormsTheSpeedAndTheLeads := by
  intro s m hreset hm
  have hreacts := sampled_reacts s
  have hacts := takeDue_takenInSomeOrder sampleDue sampleAct targetActs (sampled s)
  have hnone := takeDue_none (due := sampleDue) (act := sampleAct) (ts := targetActs) (s := sampled s)
  refine ⟨_, sampled s, exec_speedSample hreset, ?_⟩
  generalize takeDue sampleDue sampleAct targetActs (sampled s) = t at *
  have htrc : t.trc = s.trc.sample s.rnc.record := hreacts.trc.trans (formLeads_trc _)
  obtain ⟨hweb, hfront, hprevious⟩ := sample_travel s.rnc.record s.trc
  have hspeed : t.trc.speed = sampledSpeed s.trc := by rw [htrc, Trc.sample_speed]
  have hstandstill : t.trc.standstill = standstillAfter t.trc.speed s.trc.standstill := by
    rw [htrc, Trc.sample_standstill]
  have hformed := formLeads_formed (s.setTrc (s.trc.sample s.rnc.record))
  have hlead : t.knt.lead = knifeLeadAt (some m) t.trc.speed := by
    rw [hreacts.lead, htrc, ← hm]
    exact hformed.knife
  have hflap : ∀ l, (t.lnd.get l).flapLead = flapLeadAt (some m) t.trc.speed := fun l => by
    rw [hreacts.flapLead, htrc, ← hm]
    exact hformed.flap l
  refine ⟨fun h => hspeed.trans ((sampledSpeed_eq s.trc).1 h),
    fun h => hspeed.trans ((sampledSpeed_eq s.trc).2 h), by rw [htrc, hweb], by rw [htrc, hfront],
    by rw [htrc, hprevious], fun h0 _ => ?_, fun hne => ?_, hlead, hflap, ?_, fun l => ?_, hreacts,
    hacts, hnone⟩
  · rw [hstandstill, h0, standstillAfter_zero, riseTo_eq]
  · rw [hstandstill, standstillAfter_of_pos (Nat.pos_of_ne_zero hne)]
  · rw [hreacts.trc, hreacts.lead]
    rfl
  · rw [hreacts.flapLead]
    simp [sampled, formLeads]

/-! ### Zones (R13, R14) -/

/-- The change a sample meets is the only one whose condition the speed meets. -/
theorem zoneMet_eq_some_iff {m : MachineRecord} {z : Zone} {v : Nat} {c : ZoneChange}
    (h : m.vCrawl < m.vOver) : zoneMet m z v = some c ↔ ChangeMet m v z c := by
  match z with
  | .crawl => cases c <;> simp [zoneMet, ChangeMet]
  | .run =>
    obtain hlow | hhigh := Nat.lt_or_ge v m.vCrawl
    · have hnot : ¬ m.vOver ≤ v := by omega
      cases c <;> simp [zoneMet, ChangeMet, hlow, hnot]
    · have hnot : ¬ v < m.vCrawl := by omega
      by_cases hover : m.vOver ≤ v <;> cases c <;> simp [zoneMet, ChangeMet, hnot, hover]
  | .over => cases c <;> simp [zoneMet, ChangeMet]

section
variable {m : MachineRecord} {c : ZoneChange} {t : Trc}

/-- The first sample of a change makes it the pending one. -/
theorem sample_first (hmet : zoneMet m t.zone (sampledSpeed t) = some c)
    (hnew : t.pendingChange ≠ some c) : (t.sample (some m)).zone = t.zone ∧
      (t.sample (some m)).pendingChange = some c ∧ (t.sample (some m)).deglitchCount = 1 := by
  simp [Trc.sample, Trc.zoneSample, hmet, hnew]

/-- The next samples of it count it. -/
theorem sample_counts (hmet : zoneMet m t.zone (sampledSpeed t) = some c)
    (hpending : t.pendingChange = some c) (hlt : t.deglitchCount < 7) :
    (t.sample (some m)).zone = t.zone ∧ (t.sample (some m)).pendingChange = some c ∧
      (t.sample (some m)).deglitchCount = t.deglitchCount + 1 := by
  simp [Trc.sample, Trc.zoneSample, hmet, hpending, hlt]

/-- The eighth sample of it makes the change. -/
theorem sample_changes (hmet : zoneMet m t.zone (sampledSpeed t) = some c)
    (hpending : t.pendingChange = some c) (hseven : t.deglitchCount = 7) :
    (t.sample (some m)).zone = c.destination ∧ (t.sample (some m)).pendingChange = none ∧
      (t.sample (some m)).deglitchCount = 0 := by
  simp [Trc.sample, Trc.zoneSample, hmet, hpending, hseven]

theorem sample_unmet (hnone : zoneMet m t.zone (sampledSpeed t) = none) :
    (t.sample (some m)).zone = t.zone ∧ (t.sample (some m)).pendingChange = none ∧
      (t.sample (some m)).deglitchCount = 0 := by
  simp [Trc.sample, Trc.zoneSample, hnone]

end

/-- Settles O21: one clause for each branch of the zone logic. -/
theorem zoneChangesAtTheEighthSample : Obligations.ZoneChangesAtTheEighthSample := by
  intro s m hreset hm hspeeds hcount
  have hreacts := sampled_reacts s
  refine ⟨_, exec_speedSample hreset, ?_⟩
  generalize takeDue sampleDue sampleAct targetActs (sampled s) = t at *
  have htrc : t.trc = (s.trc.sample (some m)) := by
    rw [hreacts.trc, ← hm]
    exact formLeads_trc _
  have hspeed : t.trc.speed = sampledSpeed s.trc := by rw [htrc, Trc.sample_speed]
  rw [hspeed, htrc]
  refine ⟨fun c hmet hnew => ?_, fun c hmet hpending hlt => ?_, fun c hmet hpending hseven => ?_,
    fun hnone => ?_⟩
  · exact sample_first ((zoneMet_eq_some_iff hspeeds).2 hmet) hnew
  · exact sample_counts ((zoneMet_eq_some_iff hspeeds).2 hmet) hpending hlt
  · exact sample_changes ((zoneMet_eq_some_iff hspeeds).2 hmet) hpending hseven
  · refine sample_unmet (Option.eq_none_iff_forall_ne_some.2 fun c hmet => ?_)
    exact hnone c ((zoneMet_eq_some_iff hspeeds).1 hmet)

end Sys2Proof.Machine
end

section
/-! The stretch estimate, the deglitch and the knife (R19 to R21, R62 to R71): O24, O27, O31 and O32. -/
namespace Sys2Proof.Machine

/-! ### The stretch estimate (R19) -/

/-- Settles O27: the eighth is taken of a distance that is not negative on either side. -/
theorem stretchMovesAnEighthTowardTheMeasure :
    Obligations.StretchMovesAnEighthTowardTheMeasure := by
  intro s meas pitch hlow hhigh _
  unfold stretchUpdate
  generalize meas * 65536 / pitch = r
  constructor
  · intro hle
    have hmoved : Int.tdiv ((r : Int) - s) 8 = ((r - s) / 8 : Nat) := by
      rw [← Int.ofNat_sub hle]
      rfl
    simp only [hmoved]
    repeat' split
    all_goals omega
  · intro hle
    have hmoved : Int.tdiv ((r : Int) - s) 8 = -(((s - r) / 8 : Nat) : Int) := by
      rw [← Int.neg_sub, Int.neg_tdiv, ← Int.ofNat_sub hle]
      rfl
    simp only [hmoved]
    repeat' split
    all_goals omega

/-! ### The deglitch (R20, R21) -/

/-- Settles O24: the branches of the edge and of the fall. -/
theorem markEdgesStartAndEndADeglitch : Obligations.MarkEdgesStartAndEndADeglitch := by
  intro s
  refine ⟨fun c hd hc hstate hfront => ?_, fun hd hno => ?_, fun hd => ?_, fun d hd _ u hu => ?_⟩
  · have hstart : (deglitches s.mkt.state && atFront s) = true := by
      have : deglitches s.mkt.state = true := by
        cases h : s.mkt.state <;> simp_all [deglitches]
      simp [this, atFront, hfront]
    show execMarkEdge s = _
    simp only [execMarkEdge, hc, hd, hstart]
    rfl
  · have hstart : (deglitches s.mkt.state && atFront s) = false := by
      obtain h | h := hno
      · simp [h, deglitches]
      · simp [atFront, h]
    show execMarkEdge s = _
    unfold execMarkEdge
    split
    · rw [hstart]
      rfl
    · rfl
  · show execMarkFall s = _
    simp only [execMarkFall, hd]
    rfl
  · have hfall : exec .markFall s = .next (coastTest u) := by
      show execMarkFall s = _
      simp only [execMarkFall, hd, riseTo_eq]
      rw [hu]
      rfl
    refine ⟨_, hfall, coastTest_reacts u, fun h => ?_, fun x h => ?_⟩ <;> simp only [coastTest, h]

/-! ### The fire (R62 to R64) -/

/-- The knife is ready for the row exactly when the firing conditions hold, but for its being the next
cut. -/
theorem knifeReady_iff (s : State) (r : Row) : KnifeReady s r ↔
    (atOrBeyond s.trc.front (fireTarget r s) && s.knt.cycle.isNone && !s.knt.inhibit &&
      running s && atFront s && beyondLastFire s) = true := by
  have horder : beyondLastFire s = true ↔
      ∀ f, s.knt.lastFire = some f → beyond s.trc.front f = true := by
    unfold beyondLastFire
    cases s.knt.lastFire <;> simp
  simp only [Bool.and_eq_true, Option.isNone_iff_eq_none, Bool.not_eq_true', atFront, beq_iff_eq,
    running_of_faultsRaised, horder]
  exact ⟨fun h => ⟨⟨⟨⟨⟨h.target, h.idle⟩, h.inhibit⟩, h.runState⟩, h.front⟩, h.order⟩,
    fun ⟨⟨⟨⟨⟨h1, h2⟩, h3⟩, h4⟩, h5⟩, h6⟩ => ⟨h1, h2, h3, h4, h5, h6⟩⟩

/-- The next cut fires exactly when its six conditions hold (R62). -/
theorem fireableCut_eq_some_iff (s : State) (r : Row) : fireableCut s = some r ↔ CutReady s r := by
  have hready := knifeReady_iff s
  unfold fireableCut
  constructor
  · intro h
    split at h
    · cases h
    next q hq =>
      split at h
      next hc =>
        cases h
        exact { (hready r).2 hc with next := hq }
      · cases h
  · intro h
    rw [h.next]
    exact if_pos ((hready r).1 h.toKnifeReady)

/-- A cut is judged bad by its lateness and the knife_tol of its row's job; an ENDED row's is not (R64). -/
theorem judgedBad_iff (r : Row) (late : Nat) (s : State) : judgedBad r late s = true ↔
    (r.tag = .current ∧ ∃ c, s.jbc.current = some c ∧ c.job.knifeTol < late) ∨
      (r.tag = .previous ∧ ∃ c, s.jbc.previous = some c ∧ c.job.knifeTol < late) := by
  unfold judgedBad contextOf
  cases r.tag with
  | current => cases s.jbc.current <;> simp
  | previous => cases s.jbc.previous <;> simp
  | ended => simp

/-- Settles O31: the fire of the cut that `fireableCut` names. -/
theorem fireHappensWhenItsConditionsHold : Obligations.FireHappensWhenItsConditionsHold := by
  intro s
  refine ⟨fun r m late bad hready hm hlate hbad => ?_, fun hnone => ?_⟩
  · have hcut := (fireableCut_eq_some_iff s r).2 hready
    have hlateness : latenessOf r s = late := hlate.symm
    have hjudged : judgedBad r late s = bad :=
      Bool.eq_iff_iff.2 ((judgedBad_iff r late s).trans hbad.symm)
    show Host.Outcome.next (fireTest false s) = _
    simp only [fireTest, hcut, fireCut, hlateness, hjudged, strokeTime, hm]
    rfl
  · have hcut : fireableCut s = none :=
      Option.eq_none_iff_forall_ne_some.2 fun r h => hnone r ((fireableCut_eq_some_iff s r).1 h)
    show Host.Outcome.next (fireTest false s) = _
    simp only [fireTest, hcut]

/-! ### The end of a stroke (R66 to R71) -/

theorem knifeEntry_withKnife (e : Option LaneEntry) : e.map knifeEntry = withKnife e := by
  cases e with
  | none => rfl
  | some e => cases e <;> rfl

/-- What the end of a stroke makes of one row of the track. -/
def strokeRow (c : Cycle) (trail : TrailCut) (bad : Bool) (x : Row) : Row :=
  let y := if x.number = c.row then completeTrail trail bad x else x
  if y.number = rowSucc c.row then giveLead ⟨c.fireCount, bad⟩ y else y

theorem completeCut_tracked {c : Cycle} (h : c.tracked = true) (trail : TrailCut) (bad : Bool)
    (track : List Row) : completeCut c trail bad track = track.map (strokeRow c trail bad) := by
  rw [completeCut, if_pos h, mapRow, mapRow, List.map_map]
  rfl

theorem giveLead_eq (k : LeadCut) (x : Row) :
    giveLead k x = { x with leadCut := if x.origin ≠ .leadIn then some k else x.leadCut } := by
  obtain ⟨_, _, _, origin, _, _, _, _, _, _, _⟩ := x
  cases origin <;> rfl

theorem completeTrail_eq (trail : TrailCut) (bad : Bool) (x : Row) :
    completeTrail trail bad x = { x with
      trail := trail
      entries := if bad = true then x.entries.map fun e => e.map knifeEntry else x.entries } := by
  unfold completeTrail
  cases bad <;> rfl

theorem strokeRow_eq (c : Cycle) (trail : TrailCut) (bad : Bool) (x : Row) :
    strokeRow c trail bad x = { x with
      trail := if x.number = c.row then trail else x.trail
      entries := if x.number = c.row ∧ bad = true then x.entries.map fun e => e.map knifeEntry
        else x.entries
      leadCut := if x.number = rowSucc c.row ∧ x.origin ≠ .leadIn then some ⟨c.fireCount, bad⟩
        else x.leadCut } := by
  have hnumber : (if x.number = c.row then completeTrail trail bad x else x).number = x.number := by
    split
    · rw [completeTrail_eq]
    · rfl
  unfold strokeRow
  simp only [hnumber, ite_and]
  by_cases hrow : x.number = c.row
  · simp only [if_pos hrow, completeTrail_eq, giveLead_eq]
    by_cases hnext : x.number = rowSucc c.row
    · simp only [if_pos hnext]
    · simp only [if_neg hnext]
  · simp only [if_neg hrow, giveLead_eq]
    by_cases hnext : x.number = rowSucc c.row
    · simp only [if_pos hnext]
    · simp only [if_neg hnext]

theorem strokeRow_cutTaken (c : Cycle) (trail : TrailCut) (bad : Bool) (x : Row) :
    CutTaken c trail bad x (strokeRow c trail bad x) := by
  rw [strokeRow_eq]
  refine ⟨rfl, fun l => ?_, rfl, rfl⟩
  dsimp only
  split
  · rw [Lanes.get_map, knifeEntry_withKnife]
  · rfl

theorem endStroke_ended (c : Cycle) (trail : TrailCut) (bad : Bool) (n : Nat) (s : State) :
    StrokeEnded s (endStroke c trail bad n s) c trail bad n where
  knife := rfl
  rows h := by
    show List.Forall₂ _ s.rot.track (completeCut c trail bad s.rot.track)
    rw [completeCut_tracked h, List.forall₂_map_right_iff, List.forall₂_same]
    exact fun x _ => strokeRow_cutTaken c trail bad x
  untracked h := if_neg (by simp [h])
  only := rfl

/-- After the end of a stroke the tested acts that are due are taken, in some order, and none where none
is due (R62, R104). -/
theorem testTargets_taken (s u : State) : ReactionFrame u (testTargets true true s u) ∧
    TakenInSomeOrder targetDue (targetAct true) (testedActs true s u) u (testTargets true true s u) ∧
    ((∀ a ∈ targetActs, targetDue a u = false) → testTargets true true s u = u) :=
  ⟨testTargets_reacts true true s u, takeDue_takenInSomeOrder _ _ _ _,
    fun h => takeDue_none fun a ha => h a (List.mem_of_mem_filter ha)⟩

/-- Settles O32: the stroke's end, the fault of a third stall, and then the tested acts. -/
theorem homeAndStallEndTheStroke : Obligations.HomeAndStallEndTheStroke := by
  intro s
  refine ⟨fun h => ⟨?_, ?_⟩, fun c hc => ⟨⟨_, _, ?_, endStroke_ended c _ _ 0 s,
    testTargets_taken s (endStroke c (.done c.fireCount c.bad) c.bad 0 s)⟩, ?_⟩⟩
  · show execHome s = _
    simp only [execHome, h]
  · show execStall s = _
    simp only [execStall, h]
  · show execHome s = _
    simp only [execHome, hc]
  · have hended := endStroke_ended c (.stalled c.fireCount) true (min 3 (s.knt.stallCount + 1)) s
    generalize hu : endStroke c (.stalled c.fireCount) true (min 3 (s.knt.stallCount + 1)) s = u at *
    have hcount : u.knt.stallCount = min 3 (s.knt.stallCount + 1) := by rw [hended.knife]
    have hrun : FaultsRaised u ↔ FaultsRaised s := by
      rw [hended.only]
      exact Iff.rfl
    refine ⟨_, u, stallFault u, ?_, hended, fun htwo hraised => ?_, fun hno => ?_,
      testTargets_taken s (stallFault u)⟩
    · show execStall s = _
      simp only [execStall, hc, riseTo_eq, hu]
    · have hthird : (decide (u.knt.stallCount = 3) && running u) = true := by
        rw [hcount, running_of_faultsRaised.2 (hrun.2 hraised)]
        simp
        omega
      unfold stallFault
      rw [if_pos hthird]
      exact haltingTaken_raised .knifeStall (s := { u with knt := { u.knt with inhibit := true } })
        u.trc (hrun.2 hraised)
    · refine if_neg ?_
      rw [hcount, Bool.and_eq_true, running_of_faultsRaised, hrun, decide_eq_true_iff]
      rintro ⟨hthree, hraised⟩
      obtain h | h := hno
      · omega
      · exact h hraised

end Sys2Proof.Machine
end

section
/-! What follows a row's creation at the knife and at the deciders (R49, R59, R62, R102, R104). -/
namespace Sys2Proof.Machine

/-! ### Row numbers differ (R39, R50) -/

/-- A row number's place in the cycle of the numbers from 1 to 2^32 - 1. -/
def rowPlace (n : RowNum) : Nat := n.toNat - 1

theorem rowPlace_rowSucc {n : RowNum} (h : n ≠ 0#32) :
    rowPlace (rowSucc n) = (rowPlace n + 1) % 4294967295 := by
  have hpos : n.toNat ≠ 0 := fun e => h (BitVec.eq_of_toNat_eq e)
  have hlt := n.isLt
  unfold rowSucc rowPlace
  split
  next hlast =>
    subst hlast
    rfl
  next hlast =>
    have hne : n.toNat ≠ 4294967295 := fun e => hlast (BitVec.eq_of_toNat_eq e)
    rw [BitVec.toNat_add]
    simp only [BitVec.toNat_ofNat]
    omega

theorem rowPlace_chain {n : RowNum} {q : List RowNum}
    (hchain : List.IsChain (fun a b => b = rowSucc a) (n :: q)) (hne : ∀ x ∈ n :: q, x ≠ 0#32) :
    ∀ x ∈ q, ∃ i, i < q.length ∧ rowPlace x = (rowPlace n + (i + 1)) % 4294967295 := by
  induction q generalizing n with
  | nil => simp
  | cons y q ih =>
    obtain ⟨rfl, hrest⟩ := List.isChain_cons_cons.1 hchain
    have hplace := rowPlace_rowSucc (hne n List.mem_cons_self)
    intro x hx
    obtain rfl | hx := List.mem_cons.1 hx
    · exact ⟨0, Nat.succ_pos _, by rw [hplace]⟩
    · obtain ⟨i, hi, e⟩ := ih hrest (fun z hz => hne z (List.mem_cons_of_mem _ hz)) x hx
      refine ⟨i + 1, Nat.succ_lt_succ hi, ?_⟩
      rw [e, hplace]
      omega

/-- Fewer consecutive row numbers than there are numbers differ. -/
theorem rowNumbers_nodup {q : List RowNum} (hchain : List.IsChain (fun a b => b = rowSucc a) q)
    (hne : ∀ x ∈ q, x ≠ 0#32) (hlen : q.length ≤ 65) : q.Nodup := by
  induction q with
  | nil => exact .nil
  | cons n q ih =>
    refine List.nodup_cons.2 ⟨fun hn => ?_, ih hchain.of_cons
      (fun x hx => hne x (List.mem_cons_of_mem _ hx)) (by simp at hlen; omega)⟩
    obtain ⟨i, hi, e⟩ := rowPlace_chain hchain hne n hn
    have hlt : rowPlace n < 4294967295 := by
      have := n.isLt
      unfold rowPlace
      omega
    simp only [List.length_cons] at hlen
    omega

theorem TrackInv.nodup {s : State} (h : TrackInv s) : (trackNumbers s).Nodup :=
  rowNumbers_nodup h.chain h.nonzero (by
    have := h.capacity
    simp only [trackNumbers, List.length_map]
    omega)

/-- The next number is none of the track's. -/
theorem TrackInv.next_notMem {s : State} (h : TrackInv s) :
    rowSucc s.rot.lastNumber ∉ trackNumbers s := by
  have hchain : List.IsChain (fun a b => b = rowSucc a)
      (trackNumbers s ++ [rowSucc s.rot.lastNumber]) := by
    refine List.isChain_append.2 ⟨h.chain, List.isChain_singleton _, fun x hx y hy => ?_⟩
    simp only [List.head?_cons, Option.mem_def, Option.some.injEq] at hy
    rw [← hy, h.newest x hx]
  have hnodup := rowNumbers_nodup hchain (fun x hx => by
    obtain hx | hx := List.mem_append.1 hx
    · exact h.nonzero x hx
    · rw [List.mem_singleton.1 hx]
      exact rowSucc_ne_zero _) (by
    have := h.capacity
    simp only [trackNumbers, List.length_append, List.length_map, List.length_singleton]
    omega)
  exact fun hmem => (List.nodup_append.1 hnodup).2.2 _ hmem _ (List.mem_singleton_self _) rfl

/-! ### Trail cuts and the knife through decisions -/

/-- A row's number, fire base and trail cut, which the knife looks at. -/
def cutOf (r : Row) : RowNum × Count × TrailCut := (r.number, r.fireBase, r.trail)

/-- What the knife looks at of a track's rows. -/
def cutsOf (track : List Row) : List (RowNum × Count × TrailCut) := track.map cutOf

/-- The lead cuts of a track's rows. -/
def leadsOf (track : List Row) : List (Option LeadCut) := track.map Row.leadCut

/-- What neither a decision, a fire nor a fault changes of the track, and the travel, stand. -/
structure TrackSeen (s t : State) : Prop where
  leads : leadsOf t.rot.track = leadsOf s.rot.track := by simp
  lastNumber : t.rot.lastNumber = s.rot.lastNumber := by simp
  detector : t.rot.overflowDetector = s.rot.overflowDetector := by simp
  trc : t.trc = s.trc := by simp

namespace TrackSeen

theorem refl (s : State) : TrackSeen s s := ⟨rfl, rfl, rfl, rfl⟩

theorem symm {s t : State} (h : TrackSeen s t) : TrackSeen t s :=
  ⟨h.leads.symm, h.lastNumber.symm, h.detector.symm, h.trc.symm⟩

theorem trans {s t u : State} (h : TrackSeen s t) (k : TrackSeen t u) : TrackSeen s u :=
  ⟨k.leads.trans h.leads, k.lastNumber.trans h.lastNumber, k.detector.trans h.detector,
    k.trc.trans h.trc⟩

end TrackSeen

/-- The knife and the trail cuts stand too. -/
structure KnifeSeen (s t : State) : Prop extends TrackSeen s t where
  knt : t.knt = s.knt := by simp
  cuts : cutsOf t.rot.track = cutsOf s.rot.track := by simp

namespace KnifeSeen

theorem refl (s : State) : KnifeSeen s s := ⟨.refl s, rfl, rfl⟩

theorem symm {s t : State} (h : KnifeSeen s t) : KnifeSeen t s :=
  ⟨h.toTrackSeen.symm, h.knt.symm, h.cuts.symm⟩

theorem trans {s t u : State} (h : KnifeSeen s t) (k : KnifeSeen t u) : KnifeSeen s u :=
  ⟨h.toTrackSeen.trans k.toTrackSeen, k.knt.trans h.knt, k.cuts.trans h.cuts⟩

/-- A change outside the track, the knife and the travel. -/
theorem of_eq {s t : State} (hrot : t.rot = s.rot) (hknt : t.knt = s.knt) (htrc : t.trc = s.trc) :
    KnifeSeen s t :=
  ⟨⟨by rw [hrot], by rw [hrot], by rw [hrot], htrc⟩, hknt, by rw [hrot]⟩

end KnifeSeen

/-- The knife's side, the tracker and the run state stand. -/
structure KnifeHeld (s t : State) : Prop extends KnifeSeen s t where
  runState : t.rnc.runState = s.rnc.runState := by simp
  mkt : t.mkt = s.mkt := by simp

namespace KnifeHeld

theorem refl (s : State) : KnifeHeld s s := ⟨.refl s, rfl, rfl⟩

theorem trans {s t u : State} (h : KnifeHeld s t) (k : KnifeHeld t u) : KnifeHeld s u :=
  ⟨h.toKnifeSeen.trans k.toKnifeSeen, k.runState.trans h.runState, k.mkt.trans h.mkt⟩

/-- A change outside the track, the knife, the travel, the tracker and Run Control. -/
theorem of_eq {s t : State} (hrot : t.rot = s.rot) (hknt : t.knt = s.knt) (htrc : t.trc = s.trc)
    (hrun : t.rnc.runState = s.rnc.runState) (hmkt : t.mkt = s.mkt) : KnifeHeld s t :=
  ⟨.of_eq hrot hknt htrc, hrun, hmkt⟩

end KnifeHeld

theorem cutsOf_map {f : Row → Row} (h : ∀ r, cutOf (f r) = cutOf r) (track : List Row) :
    cutsOf (track.map f) = cutsOf track := by
  simp [cutsOf, h]

theorem leadsOf_map {f : Row → Row} (h : ∀ r, (f r).leadCut = r.leadCut) (track : List Row) :
    leadsOf (track.map f) = leadsOf track := by
  simp [leadsOf, h]

/-- A change of the rows that leaves their cuts. -/
theorem setTrack_knife {f : Row → Row} {s : State} (hcut : ∀ r, cutOf (f r) = cutOf r)
    (hlead : ∀ r, (f r).leadCut = r.leadCut) : KnifeHeld s (setTrack (s.rot.track.map f) s) :=
  ⟨⟨⟨leadsOf_map hlead _, rfl, rfl, rfl⟩, rfl, cutsOf_map hcut _⟩, rfl, rfl⟩

theorem freezeEntry_knife (l : Lane) (n : RowNum) (e : LaneEntry) (s : State) :
    KnifeHeld s (freezeEntry l n e s) :=
  setTrack_knife (fun r => by split <;> rfl) (fun r => by split <;> rfl)

theorem tallyReject_knife (t : JobTag) (r : Reason) (s : State) :
    KnifeHeld s (tallyReject t r s) := {}

theorem freePrevious_knife (c : JobContext) (s : State) : KnifeHeld s (freePrevious c s) := by
  have hqueued : KnifeHeld s (queueRecord (jobEndRecord c) s) := {}
  have htagged : KnifeHeld (queueRecord (jobEndRecord c) s) (setTrack (retag .previous .ended
      (queueRecord (jobEndRecord c) s).rot.track) (queueRecord (jobEndRecord c) s)) :=
    setTrack_knife (fun r => by split <;> rfl) (fun r => by split <;> rfl)
  refine hqueued.trans (htagged.trans ?_)
  exact .of_eq (by simp [freePrevious, setTrack]) (by simp [freePrevious, setTrack])
    (by simp [freePrevious, setTrack]) (by simp [freePrevious, setTrack])
    (by simp [freePrevious, setTrack])

theorem freeingTest_knife (s : State) : KnifeHeld s (freeingTest s) := by
  unfold freeingTest
  repeat' split
  · exact .refl s
  · exact freePrevious_knife _ s
  · exact .refl s

/-- Outside DRAIN the end test does nothing. -/
theorem endTest_of_not_drain {s : State} (h : s.rnc.runState ≠ .drain) : endTest s = s := by
  have hover : drainOver s = false := by
    unfold drainOver
    cases hr : s.rnc.runState <;> simp_all
  unfold endTest
  rw [hover]
  rfl

theorem passReject_knife (l : Lane) (r : Row) (x : Reasons) (s : State) :
    KnifeHeld s (passReject l r x s) := by
  unfold passReject
  refine (freezeEntry_knife l r.number (.reject x) s).trans ?_
  dsimp only
  split
  · exact {}
  · exact {}

theorem judge_knife (m : MachineRecord) (l : Lane) (r : Row) (x : Reasons) (s : State) :
    KnifeHeld s (judge m l r x s) := by
  unfold judge
  dsimp only
  split
  · exact passReject_knife l r _ s
  · split
    next s1 id hplace =>
      obtain ⟨y, rfl⟩ := placeFor_keeps l r s s1 id hplace
      have hlane : KnifeHeld s (setLane l y s) := {}
      refine hlane.trans ((freezeEntry_knife l r.number (.good id) _).trans ?_)
      exact .of_eq (by simp [passGood]) (by simp [passGood]) (by simp [passGood])
        (by simp [passGood]) (by simp [passGood])
    next => exact passReject_knife l r _ s

theorem laneDecided_knife (l : Lane) (n : RowNum) (s : State) :
    KnifeHeld s (laneDecided l n s) := by
  have hclose : ∀ k u, KnifeHeld u (laneCloseAct l k u) := by
    intro k u
    cases k <;> exact .of_eq (by simp [laneCloseAct]) (by simp [laneCloseAct])
      (by simp [laneCloseAct]) (by simp [laneCloseAct]) (by simp [laneCloseAct])
  have hclosed := takeDue_rel (due := laneCloseDue l n) KnifeHeld.refl KnifeHeld.trans
    (fun u n => .of_eq rfl rfl rfl rfl rfl) hclose [.job, .stop] s
  exact hclosed.trans (.of_eq (by simp [laneDecided]) (by simp [laneDecided])
    (by simp [laneDecided]) (by simp [laneDecided]) (by simp [laneDecided]))

theorem afterDecision_knife (n : RowNum) (b : Bool) {s : State} (h : s.rnc.runState ≠ .drain) :
    KnifeHeld s (afterDecision n b s) := by
  have hfreed : KnifeHeld s (if rowDecided n s then freeingTest s else s) := by
    split
    · exact freeingTest_knife s
    · exact .refl s
  unfold afterDecision
  dsimp only
  split
  · rw [endTest_of_not_drain (by rw [hfreed.runState]; exact h)]
    exact hfreed
  · exact hfreed

theorem decideRow_knife (l : Lane) (r : Row) {s : State} (h : s.rnc.runState ≠ .drain) :
    KnifeHeld s (decideRow l r s) := by
  unfold decideRow
  split
  next m x _ _ =>
    have hdecided := (judge_knife m l r x s).trans (laneDecided_knife l r.number _)
    exact hdecided.trans (afterDecision_knife _ _ (by rw [hdecided.runState]; exact h))
  next => exact .refl s

/-- Outside DRAIN the decisions of a lane leave the knife and the trail cuts. -/
theorem decideTest_knife (l : Lane) {s : State} (h : s.rnc.runState ≠ .drain) :
    KnifeHeld s (decideTest l s) := by
  unfold decideTest
  generalize s.rot.track.length = n
  induction n generalizing s with
  | zero => exact .refl s
  | succ n ih =>
    unfold decideWhileDue
    split
    next r _ =>
      have hrow := decideRow_knife l r h
      exact hrow.trans (ih (by rw [hrow.runState]; exact h))
    next => exact .refl s

/-! ### The fire among the acts of an event -/

/-- The oldest PENDING cut of a track, by number. -/
def pendingNumber (cuts : List (RowNum × Count × TrailCut)) : Option RowNum :=
  (cuts.find? fun x => x.2.2.isPending).map Prod.fst

theorem nextCut_cut (s : State) :
    (cutsOf s.rot.track).find? (fun x => x.2.2.isPending) = (nextCut s).map cutOf := by
  rw [cutsOf, List.find?_map]
  rfl

theorem nextCutNumber_eq (s : State) : nextCutNumber s = pendingNumber (cutsOf s.rot.track) := by
  rw [pendingNumber, nextCut_cut, Option.map_map]
  rfl

/-- The conditions of a fire stand where the knife's side does. -/
theorem knifeReady_seen {s t : State} {r : Row} (h : KnifeReady s r) (k : KnifeSeen s t)
    (hr : FaultsRaised t) : KnifeReady t r where
  target := by rw [k.trc, k.knt]; exact h.target
  idle := by rw [k.knt]; exact h.idle
  inhibit := by rw [k.knt]; exact h.inhibit
  runState := hr
  front := by rw [k.trc]; exact h.front
  order := by rw [k.trc, k.knt]; exact h.order

/-- The next cut that is ready is so, by its number, wherever the knife's side stands. -/
theorem cutReady_seen {s t : State} {r : Row} (h : CutReady s r) (k : KnifeSeen s t)
    (hr : FaultsRaised t) : ∃ q, CutReady t q ∧ q.number = r.number := by
  have hnext : (nextCut t).map cutOf = some (cutOf r) := by
    rw [← nextCut_cut, k.cuts, nextCut_cut, h.next]
    rfl
  obtain ⟨q, hq, e⟩ := Option.map_eq_some_iff.1 hnext
  obtain ⟨hnumber, hbase, -⟩ : q.number = r.number ∧ q.fireBase = r.fireBase ∧ q.trail = r.trail := by
    simpa [cutOf] using e
  have hready := knifeReady_seen h.toKnifeReady k hr
  exact ⟨q, { hready with target := by rw [hbase]; exact hready.target, next := hq }, hnumber⟩

theorem KnifeHeld.raised {s t : State} (k : KnifeHeld s t) : FaultsRaised t ↔ FaultsRaised s := by
  unfold FaultsRaised
  rw [k.runState]

/-- The cut of the row with number `n` has been fired, and nothing else of the knife's side changed. -/
structure Fired (n : RowNum) (s t : State) : Prop extends TrackSeen s t where
  lastFire : t.knt.lastFire = some s.trc.front
  output : t.knt.output = .asserted
  cycle : ∃ c, t.knt.cycle = some c ∧ c.row = n ∧ c.fireCount = s.trc.front ∧ c.tracked = true
  cuts : cutsOf t.rot.track =
    (cutsOf s.rot.track).map fun x => if x.1 = n then (x.1, x.2.1, .firing s.trc.front) else x

namespace Fired

variable {n : RowNum} {s t u : State}

theorem seen (h : Fired n s t) (k : KnifeSeen t u) : Fired n s u := by
  obtain ⟨hseen, hlast, hout, hcycle, hcuts⟩ := h
  refine ⟨hseen.trans k.toTrackSeen, ?_, ?_, ?_, k.cuts.trans hcuts⟩ <;> rw [k.knt]
  · exact hlast
  · exact hout
  · exact hcycle

theorem of_seen (k : KnifeSeen s t) (h : Fired n t u) : Fired n s u := by
  obtain ⟨hseen, hlast, hout, hcycle, hcuts⟩ := h
  rw [k.trc] at hlast hcycle hcuts
  exact ⟨k.toTrackSeen.trans hseen, hlast, hout, hcycle, by rw [hcuts, k.cuts]⟩

end Fired

theorem fireCut_fired (r : Row) (s : State) : Fired r.number s (fireCut false r s) where
  leads := leadsOf_map (fun x => by split <;> rfl) _
  lastNumber := rfl
  detector := rfl
  lastFire := rfl
  output := rfl
  cycle := ⟨_, rfl, rfl, rfl, rfl⟩
  cuts := by
    simp only [fireCut, setTrack, mapRow, cutsOf, State.setRot_rot, List.map_map]
    refine List.map_congr_left fun x _ => ?_
    by_cases hx : x.number = r.number
    · simp only [Function.comp_apply, if_pos hx]
      exact (if_pos (c := (cutOf x).1 = r.number) hx).symm
    · simp only [Function.comp_apply, if_neg hx]
      exact (if_neg (c := (cutOf x).1 = r.number) hx).symm
  trc := rfl

/-- A knife with a stroke in flight fires nothing. -/
theorem fireTest_busy {gap : Bool} {s : State} {c : Cycle} (h : s.knt.cycle = some c) :
    fireTest gap s = s := by
  have hnone : fireableCut s = none := Option.eq_none_iff_forall_ne_some.2 fun r hr => by
    have := ((fireableCut_eq_some_iff s r).1 hr).idle
    rw [h] at this
    cases this
  simp only [fireTest, hnone]

/-- The fire of the next cut where it can fire, and nothing where it cannot. -/
theorem fireTest_knife (s : State) : (fireableCut s = none ∧ fireTest false s = s) ∨
    ∃ r, CutReady s r ∧ Fired r.number s (fireTest false s) := by
  unfold fireTest
  split
  next r hr => exact .inr ⟨r, (fireableCut_eq_some_iff s r).1 hr, fireCut_fired r s⟩
  next hr => exact .inl ⟨hr, rfl⟩

theorem takeAll_mem {α : Type} {P : State → Prop} {act : α → State → State} {ts : List α}
    (h : ∀ a ∈ ts, ∀ u, P u → P (act a u)) {u : State} (hu : P u) : P (takeAll act ts u) := by
  induction ts generalizing u with
  | nil => exact hu
  | cons a ts ih =>
    exact ih (fun b hb => h b (List.mem_cons_of_mem _ hb)) (h a List.mem_cons_self u hu)

/-- Acts one of which leads from `P` to `Q`, while the others keep both. -/
theorem takeAll_reaches {α : Type} {P Q : State → Prop} {act : α → State → State} {a : α}
    {ts : List α} (ha : a ∈ ts) (hP : ∀ b u, P u → P (act b u) ∨ Q (act b u))
    (hQ : ∀ b u, Q u → Q (act b u)) (hreach : ∀ u, P u → Q (act a u)) {u : State} (hu : P u) :
    Q (takeAll act ts u) := by
  induction ts generalizing u with
  | nil => cases ha
  | cons b ts ih =>
    obtain rfl | ha := List.mem_cons.1 ha
    · exact takeAll_mem (ts := ts) (fun c _ v hv => hQ c v hv) (hreach u hu)
    · obtain h | h := hP b u hu
      · exact ih ha h
      · exact takeAll_mem (ts := ts) (fun c _ v hv => hQ c v hv) h

section
variable {b v : State} {knife : Bool} (h : v.rnc.runState ≠ .drain)
include h

/-- Without a cut that can fire the acts after an event are decisions alone. -/
theorem testTargets_held (hno : knife = false ∨ fireableCut v = none) :
    KnifeHeld v (testTargets false knife b v) := by
  obtain ⟨p, n, hperm, -, ht⟩ := takeDue_takenInSomeOrder targetDue (targetAct false)
    (testedActs knife b v) v
  show KnifeHeld v (takeDue _ _ _ _)
  rw [ht]
  refine takeAll_mem (P := KnifeHeld v) (fun a ha u hu => ?_) (.of_eq rfl rfl rfl rfl rfl)
  cases a with
  | lane l => exact hu.trans (decideTest_knife l (by rw [hu.runState]; exact h))
  | fire =>
    have htested := (List.mem_filter.1 ((hperm.mem_iff).1 ha)).1
    obtain hknife | hnone := hno
    · simp [testedActs, hknife] at htested
    · have hstill : fireTest false u = u := by
        obtain ⟨-, e⟩ | ⟨r, hr, -⟩ := fireTest_knife u
        · exact e
        · obtain ⟨q, hq, -⟩ := cutReady_seen hr hu.symm (hu.raised.1 hr.runState)
          rw [(fireableCut_eq_some_iff v q).2 hq] at hnone
          cases hnone
      show KnifeHeld v (fireTest false u)
      rw [hstill]
      exact hu

/-- A cut that can fire at a tested event is fired among its acts, whatever their order. -/
theorem testTargets_fired {r : Row} (hknife : knife = true) (hr : CutReady v r) :
    Fired r.number v (testTargets false knife b v) := by
  obtain ⟨p, n, hperm, -, ht⟩ := takeDue_takenInSomeOrder targetDue (targetAct false)
    (testedActs knife b v) v
  show Fired r.number v (takeDue _ _ _ _)
  rw [ht]
  have hdue : targetDue .fire v = true := by
    simp [targetDue, (fireableCut_eq_some_iff v r).2 hr]
  have hmem : TargetAct.fire ∈ p := by
    rw [hperm.mem_iff]
    exact List.mem_filter.2 ⟨by simp [testedActs, hknife, targetActs], hdue⟩
  have hfire : ∀ u, KnifeHeld v u → Fired r.number v (fireTest false u) ∧
      (fireTest false u).rnc.runState ≠ .drain := by
    intro u hu
    obtain ⟨q, hq, e⟩ := cutReady_seen hr hu.toKnifeSeen (hu.raised.2 hr.runState)
    obtain ⟨hnone, -⟩ | ⟨q', hq', hfired⟩ := fireTest_knife u
    · rw [(fireableCut_eq_some_iff u q).2 hq] at hnone
      cases hnone
    · have hsame : q' = q := Option.some.inj (hq'.next.symm.trans hq.next)
      rw [← e, ← hsame]
      refine ⟨.of_seen hu.toKnifeSeen hfired, ?_⟩
      rw [(fireTest_keeps false u).2.2.2.2.2.2.2.1, hu.runState]
      exact h
  refine (takeAll_reaches (act := targetAct false) (P := KnifeHeld v)
    (Q := fun u => Fired r.number v u ∧ u.rnc.runState ≠ .drain) hmem (fun a u hu => ?_)
    (fun a u hu => ?_) hfire (u := v.setChoices n) (.of_eq rfl rfl rfl rfl rfl)).1
  · cases a with
    | fire => exact .inr (hfire u hu)
    | lane l => exact .inl (hu.trans (decideTest_knife l (by rw [hu.runState]; exact h)))
  · cases a with
    | fire =>
      obtain ⟨c, hc, -⟩ := hu.1.cycle
      have hbusy : targetAct false .fire u = u := fireTest_busy hc
      rw [hbusy]
      exact hu
    | lane l =>
      have hheld := decideTest_knife l hu.2
      refine ⟨hu.1.seen hheld.toKnifeSeen, ?_⟩
      show (decideTest l u).rnc.runState ≠ .drain
      rw [hheld.runState]
      exact hu.2

/-- The acts after an event leave the tracker, whatever fires. -/
theorem testTargets_mkt : (testTargets false knife b v).mkt = v.mkt := by
  obtain ⟨p, n, -, -, ht⟩ := takeDue_takenInSomeOrder targetDue (targetAct false)
    (testedActs knife b v) v
  show (takeDue _ _ _ _).mkt = _
  rw [ht]
  refine (takeAll_mem (P := fun u => u.rnc.runState ≠ .drain ∧ u.mkt = v.mkt)
    (fun a _ u hu => ?_) (u := v.setChoices n) ⟨h, rfl⟩).2
  cases a with
  | fire =>
    refine ⟨?_, (fireTest_keeps false u).2.1.trans hu.2⟩
    show (fireTest false u).rnc.runState ≠ .drain
    rw [(fireTest_keeps false u).2.2.2.2.2.2.2.1]
    exact hu.1
  | lane l =>
    have hheld := decideTest_knife l hu.1
    refine ⟨?_, hheld.mkt.trans hu.2⟩
    show (decideTest l u).rnc.runState ≠ .drain
    rw [hheld.runState]
    exact hu.1

end

end Sys2Proof.Machine
end

section
/-! The row that a request makes (R41 to R46, R49, R90, R92). -/
namespace Sys2Proof.Machine

/-! ### Reasons -/

theorem get_set_reason {α : Type} (x : PerReason α) (r q : Reason) (v : α) :
    (x.set r v).get q = if q = r then v else x.get q := by
  cases r <;> cases q <;> rfl

theorem get_addReasonIf (b : Bool) (r q : Reason) (x : Reasons) :
    (addReasonIf b r x).get q = true ↔ x.get q = true ∨ (b = true ∧ q = r) := by
  cases b
  · simp [addReasonIf]
  · simp only [addReasonIf, addReason, if_true, get_set_reason]
    split <;> simp_all

/-- The reasons of the pending spans over a row: each span that overlaps it in the lane brings its own. -/
theorem get_spanReasons (l : Lane) (lead cut : Count) (q : Reason) (spans : List PendingSpan)
    (x : Reasons) : (spans.foldl (spanReason l lead cut) x).get q = true ↔
      x.get q = true ∨ ∃ p ∈ spans, (before p.start cut = true ∧ beyond p.stop lead = true ∧
        p.lanes.get l = true) ∧ q = p.reason.reason := by
  induction spans generalizing x with
  | nil => simp
  | cons p spans ih =>
    rw [List.foldl_cons, ih, spanReason, get_addReasonIf]
    simp only [overlaps, Bool.and_eq_true, List.exists_mem_cons_iff, and_assoc, or_assoc]

theorem noReasons_get (q : Reason) : noReasons.get q = false := by
  cases q <;> rfl

theorem get_originReasons (o : Origin) (j : JobRecord) (q : Reason) :
    (originReasons o j).get q = true ↔ (o = .leadIn ∧ q = .leadIn) ∨
      (o = .coasted ∧ j.coastAccept = false ∧ q = .register) := by
  cases o with
  | leadIn => simp [originReasons, addReason, get_set_reason, noReasons_get]
  | coasted => simp [originReasons, get_addReasonIf, noReasons_get]
  | sensed => simp [originReasons, noReasons_get]

/-- The OPEN entry of a new row holds the reasons of its origin, of the pending spans it overlaps and of the
guard (R45, R90, R92). -/
theorem newEntry_reasons {s : State} {c : JobContext} {o : Origin} {lead cut : Count} {l : Lane}
    {x : Reasons} (h : newEntry c.job o s.ntp lead cut l = some (.undecided x)) :
    NewReasons s c o lead cut l x := by
  have hguard : behindGuard s.ntp.guardPoint lead = true ↔
      ∃ g, s.ntp.guardPoint = some g ∧ before lead g = true := by
    cases s.ntp.guardPoint <;> simp [behindGuard]
  have hget : ∀ q, x.get q = true ↔ ((o = .leadIn ∧ q = .leadIn) ∨
      (o = .coasted ∧ c.job.coastAccept = false ∧ q = .register)) ∨
      (∃ p ∈ s.ntp.spans, (before p.start cut = true ∧ beyond p.stop lead = true ∧
        p.lanes.get l = true) ∧ q = p.reason.reason) ∨
      ((∃ g, s.ntp.guardPoint = some g ∧ before lead g = true) ∧ q = .guard) := by
    intro q
    unfold newEntry at h
    split at h
    · cases h
      rw [get_addReasonIf, get_spanReasons, get_originReasons, hguard, or_assoc]
    · cases h
  have hspan : ∀ (y : SpanReason) (q : Reason), q = y.reason ↔
      (y = .defect ∧ q = .defect) ∨ (y = .splice ∧ q = .splice) := by
    intro y q
    cases y <;> simp [SpanReason.reason]
  have hno : ∀ q : Reason, q ∉ [Reason.leadIn, .register, .defect, .splice, .guard] →
      x.get q = false := by
    intro q hq
    rw [← Bool.not_eq_true, hget]
    simp only [hspan]
    aesop
  constructor
  case others => exact ⟨hno .stopped (by decide), hno .knife (by decide), hno .speed (by decide),
    hno .uninspected (by decide), hno .held (by decide)⟩
  case leadIn => exact (hget .leadIn).trans (by simp [hspan])
  case register => exact (hget .register).trans (by simp [hspan])
  case guard => exact (hget .guard).trans (by simp [hspan])
  case defect =>
    refine (hget .defect).trans ?_
    simp only [hspan]
    aesop
  case splice =>
    refine (hget .splice).trans ?_
    simp only [hspan]
    aesop

/-! ### The row's joining (R49) -/

theorem withRow_rot (c : JobContext) (m : MachineRecord) (q : RowRequest) (next : TrackerState)
    (room : List Row) (s : State) : (withRow c m q next room s).rot =
      { track := room ++ [makeRow c m q (requestStretch c.job q s.mkt) s],
        lastNumber := rowSucc s.rot.lastNumber, overflowDetector := .armed } := rfl

theorem mem_numbers {r : Row} {track : List Row} (h : r ∈ track) : r.number ∈ numbersOf track :=
  List.mem_map_of_mem h

/-- A decision tested after the joining leaves the new row last, with what made it. -/
theorem rowKept_last {q q' : List Row} {r : Row} (h : List.Forall₂ RowKept (q ++ [r]) q') :
    ∃ p r', q' = p ++ [r'] ∧ List.Forall₂ RowKept q p ∧ RowKept r r' := by
  induction q generalizing q' with
  | nil =>
    obtain ⟨r', z, hr, hz, rfl⟩ := List.forall₂_cons_left_iff.1 h
    cases hz
    exact ⟨[], r', rfl, .nil, hr⟩
  | cons x q ih =>
    obtain ⟨x', z, hx, hz, rfl⟩ := List.forall₂_cons_left_iff.1 h
    obtain ⟨p, r', rfl, hp, hr⟩ := ih hz
    exact ⟨x' :: p, r', rfl, .cons hx hp, hr⟩

section
variable {s : State} {c : JobContext} {m : MachineRecord} {q : RowRequest} {next : TrackerState}
  {room : List Row}

/-- The premises under which the joined row is followed by decisions that keep the frame. -/
theorem withRow_steady (hrun : s.rnc.runState ≠ .drain) (hroom : roomFor s.rot.track = some room)
    (h : TrackInv s) : Steady (withRow c m q next room s) :=
  ⟨hrun, (withRow_trackInv s c m q next room hroom h).nodup⟩

theorem createRow_decides (hrun : s.rnc.runState ≠ .drain) (hroom : roomFor s.rot.track = some room)
    (h : TrackInv s) :
    DecideFrame (withRow c m q next room s) (createRow c m q next room s) := by
  rw [createRow_eq]
  exact testTargets_decides _ _ _ _ (withRow_steady hrun hroom h)

/-- The row that stands last after the creation is the one that the request makes (R41 to R46). -/
theorem newRow_of_kept {r : Row}
    (h : RowKept (makeRow c m q (requestStretch c.job q s.mkt) s) r) :
    NewRow s c m q.origin q.cls q.mark (requestStretch c.job q s.mkt) r := by
  obtain ⟨hnumber, hjob, horigin, hmark, hlead, hcut, hbase, hleadCut, htag, hentries⟩ := h
  have hentry : ∀ l, (makeRow c m q (requestStretch c.job q s.mkt) s).entries.get l =
      newEntry c.job q.origin s.ntp (makeRow c m q (requestStretch c.job q s.mkt) s).lead
        (makeRow c m q (requestStretch c.job q s.mkt) s).cut l := fun l => Lanes.get_ofFn _ l
  constructor
  case number => exact hnumber
  case tag => exact ⟨htag.resolve_right (fun h => nomatch h.1), hjob⟩
  case origin => exact ⟨horigin, hmark⟩
  case cut => exact hcut
  case fireBase => rw [hbase, hcut]; rfl
  case leadIn =>
    intro ho
    rw [hlead, hleadCut, hcut]
    simp only [makeRow, requestLead, requestLeadCut, ho, and_self]
  case lead =>
    intro ho n hn
    rw [hlead, hleadCut]
    simp only [makeRow, requestLead, requestLeadCut, hn]
    cases hq : q.origin with
    | leadIn => exact absurd hq ho
    | sensed => exact ⟨rfl, rfl⟩
    | coasted => exact ⟨rfl, rfl⟩
  case lanes =>
    intro l
    have hsome : (newEntry c.job q.origin s.ntp (makeRow c m q (requestStretch c.job q s.mkt) s).lead
        (makeRow c m q (requestStretch c.job q s.mkt) s).cut l).isSome = c.job.active l := by
      unfold newEntry
      split <;> simp_all
    obtain e | ⟨hopen, y, e, -⟩ := hentries l
    · rw [e, hentry, hsome]
    · rw [e, ← hsome, ← hentry]
      unfold openIn at hopen
      split at hopen
      next z hz => rw [hz]; rfl
      next => cases hopen
  case reasons =>
    intro l x hx
    obtain e | ⟨-, y, e, hy⟩ := hentries l
    · rw [hlead, hcut]
      exact newEntry_reasons (by rw [← hentry, ← e, hx])
    · rw [hx, Option.some.injEq] at e
      rw [← e] at hy
      cases hy

/-! ### The knife once a row has joined (R59, R62) -/

/-- What the events around a row's joining at `v` leave of the knife in `t`: nothing fires, or the next cut
alone; and it does fire where it is ready and not the next cut that `s` had. -/
structure KnifeOutcome (s v t : State) : Prop where
  either : KnifeSeen v t ∨ ∃ w, CutReady v w ∧ Fired w.number v t
  fires : ∀ w, CutReady v w → nextCutNumber v ≠ nextCutNumber s → Fired w.number v t

namespace KnifeOutcome

variable {v t u : State}

theorem track (h : KnifeOutcome s v t) : TrackSeen v t := by
  obtain hseen | ⟨w, -, hfired⟩ := h.either
  · exact hseen.toTrackSeen
  · exact hfired.toTrackSeen

theorem seen (h : KnifeOutcome s v t) (k : KnifeSeen t u) : KnifeOutcome s v u where
  either := h.either.imp (fun hseen => hseen.trans k) fun ⟨w, hw, hfired⟩ => ⟨w, hw, hfired.seen k⟩
  fires w hw hnext := (h.fires w hw hnext).seen k

/-- The knife's test at a change to HALTED. -/
theorem fire (hv : FaultsRaised v) (h : KnifeOutcome s v t) :
    KnifeOutcome s v (fireTest false t) := by
  obtain ⟨-, e⟩ | ⟨w, hw, hfired⟩ := fireTest_knife t
  · rw [e]
    exact h
  · obtain hseen | ⟨w', -, hfired'⟩ := h.either
    · obtain ⟨q, hq, e⟩ := cutReady_seen hw hseen.symm hv
      have hfired' : Fired q.number v (fireTest false t) := by
        rw [e]
        exact .of_seen hseen hfired
      refine ⟨.inr ⟨q, hq, hfired'⟩, fun w' hw' _ => ?_⟩
      rw [show w' = q from Option.some.inj (hw'.next.symm.trans hq.next)]
      exact hfired'
    · obtain ⟨c, hc, -⟩ := hfired'.cycle
      rw [hw.idle] at hc
      cases hc

/-- A halting fault, with the knife's test where it halts the part. -/
theorem halt {fault : HaltingFault} {f : Count} (hv : FaultsRaised v) (h : KnifeOutcome s v t) :
    KnifeOutcome s v (haltPart fault f t) := by
  have hraised := h.seen (u := raiseHalting fault f t) (.of_eq (by simp) (by simp) (by simp))
  unfold haltPart
  dsimp only
  split
  · exact hraised
  · exact hraised.fire hv

end KnifeOutcome

theorem createRow_outcome (hrun : s.rnc.runState ≠ .drain) :
    KnifeOutcome s (withRow c m q next room s) (createRow c m q next room s) := by
  generalize hv : withRow c m q next room s = v
  have hvrun : v.rnc.runState ≠ .drain := by
    rw [← hv]
    exact hrun
  have hcreate : createRow c m q next room s =
      testTargets false (nextCutNumber v != nextCutNumber s) s v := by rw [createRow_eq, hv]
  rw [hcreate]
  refine ⟨?_, fun w hw hnext => testTargets_fired hvrun (bne_iff_ne.2 hnext) hw⟩
  by_cases hno : (nextCutNumber v != nextCutNumber s) = false ∨ fireableCut v = none
  · exact .inl (testTargets_held hvrun hno).toKnifeSeen
  · rw [not_or, Bool.not_eq_false] at hno
    obtain ⟨hknife, hsome⟩ := hno
    obtain ⟨w, hw⟩ := Option.ne_none_iff_exists'.1 hsome
    have hcut := (fireableCut_eq_some_iff v w).1 hw
    exact .inr ⟨w, hcut, testTargets_fired hvrun hknife hcut⟩

/-! ### The new row's trail cut (R59, R62) -/

/-- The trail cut of the new row, behind kept rows that the knife sees as the room left for it: it fires at
once where it is the next cut and the knife is ready, and stays PENDING otherwise. -/
theorem newTrail_of_outcome {t : State} {kept : List Row} {r : Row}
    (hkept : cutsOf room = cutsOf kept) (hnew : rowSucc s.rot.lastNumber ∉ numbersOf kept)
    (hnext : nextCutNumber s ≠ some (rowSucc s.rot.lastNumber))
    (hknife : KnifeOutcome s (withRow c m q next room s) t) (hlast : newestRow t = some r)
    (hr : RowKept (makeRow c m q (requestStretch c.job q s.mkt) s) r) : NewTrail s t kept r := by
  generalize hn : makeRow c m q (requestStretch c.job q s.mkt) s = n at hr
  generalize hv : withRow c m q next room s = v at hknife
  have hcuts : cutsOf v.rot.track = cutsOf kept ++ [cutOf n] := by
    rw [← hv, withRow_rot, hn, cutsOf, List.map_append, ← hkept]
    rfl
  have hnumber : n.number = rowSucc s.rot.lastNumber := by rw [← hn]; rfl
  have hpending : n.trail = .pending := by rw [← hn]; rfl
  have hready : ∀ w : Row, w.fireBase = n.fireBase → (KnifeReady v w ↔ KnifeReady s r) := by
    intro w hw
    rw [← hv]
    have hbase : w.fireBase = r.fireBase := hw.trans hr.fireBase.symm
    exact ⟨fun h => { h with target := by have := h.target; rw [hbase] at this; exact this },
      fun h => { h with target := by rw [hbase]; exact h.target }⟩
  have hlastCut : (cutsOf t.rot.track).getLast? = some (cutOf r) := by
    rw [cutsOf, List.getLast?_map]
    exact congrArg (Option.map cutOf) hlast
  have hheld : KnifeSeen v t → r.trail = .pending := by
    intro h
    rw [h.cuts, hcuts, List.getLast?_concat, Option.some.injEq] at hlastCut
    exact (congrArg (fun x => x.2.2) hlastCut).symm.trans hpending
  have hfired : ∀ k, Fired k v t →
      r.trail = if n.number = k then .firing s.trc.front else .pending := by
    intro k h
    rw [h.cuts, hcuts, List.map_append, List.map_singleton, List.getLast?_concat,
      Option.some.injEq] at hlastCut
    have htrail := (congrArg (fun x => x.2.2) hlastCut).symm
    rw [← hv] at htrail
    split
    next hnk =>
      rw [if_pos (c := (cutOf n).1 = k) hnk] at htrail
      exact htrail
    next hnk =>
      rw [if_neg (c := (cutOf n).1 = k) hnk] at htrail
      exact htrail.trans hpending
  have hnextCut : (nextCut v).map cutOf =
      ((cutsOf kept).find? fun x => x.2.2.isPending).or (some (cutOf n)) := by
    rw [← nextCut_cut, hcuts, List.find?_append, List.find?_singleton, if_pos (by
      show n.trail.isPending = true
      rw [hpending]
      rfl)]
  have hbehind : (∀ x ∈ kept, x.trail ≠ .pending) → (nextCut v).map cutOf = some (cutOf n) := by
    intro hno
    rw [hnextCut, List.find?_eq_none.2]
    · rfl
    · intro y hy
      obtain ⟨x, hx, rfl⟩ := List.mem_map.1 hy
      intro hp
      have hpx : x.trail.isPending = true := hp
      have := hno x hx
      cases h : x.trail <;> simp_all [TrailCut.isPending]
  have hahead : (∃ x ∈ kept, x.trail = .pending) →
      ∃ y ∈ kept, (nextCut v).map cutOf = some (cutOf y) := by
    rintro ⟨x, hx, hp⟩
    have hsome : ((cutsOf kept).find? fun x => x.2.2.isPending).isSome := by
      refine List.find?_isSome.2 ⟨cutOf x, List.mem_map_of_mem hx, ?_⟩
      show x.trail.isPending = true
      rw [hp]
      rfl
    obtain ⟨y, hy⟩ := Option.isSome_iff_exists.1 hsome
    obtain ⟨z, hz, rfl⟩ := List.mem_map.1 (List.mem_of_find?_eq_some hy)
    exact ⟨z, hz, by rw [hnextCut, hy]; rfl⟩
  constructor
  case fires =>
    intro hno hr1
    obtain ⟨w, hw, e⟩ := Option.map_eq_some_iff.1 (hbehind hno)
    have hwn : w.number = n.number := congrArg Prod.fst e
    have hcut : CutReady v w :=
      { (hready w (congrArg (fun x => x.2.1) e)).2 hr1 with next := hw }
    have hfire := hknife.fires w hcut (by
      rw [nextCutNumber, hw]
      intro hsame
      exact hnext (hsame.symm.trans (congrArg some (hwn.trans hnumber))))
    have hfront : v.trc.front = s.trc.front := by rw [← hv]; rfl
    obtain ⟨x, hx, hrow, hcount, htracked⟩ := hfire.cycle
    refine ⟨(hfired _ hfire).trans (if_pos hwn.symm), ?_, hfire.output, x, hx, ?_, ?_, htracked⟩
    · rw [hfire.lastFire, hfront]
    · rw [hrow, hwn, hr.number]
    · rw [hcount, hfront]
  case waits =>
    intro hwait
    obtain hseen | ⟨w, hcut, hfire⟩ := hknife.either
    · exact hheld hseen
    · refine (hfired _ hfire).trans (if_neg fun e => ?_)
      by_cases hp : ∃ x ∈ kept, x.trail = .pending
      · obtain ⟨y, hy, hcuty⟩ := hahead hp
        rw [hcut.next, Option.map_some, Option.some.injEq] at hcuty
        have hyn : y.number = n.number := (congrArg Prod.fst hcuty).symm.trans e.symm
        exact hnew (hnumber ▸ hyn ▸ mem_numbers hy)
      · have hcutn := hbehind fun x hx hpx => hp ⟨x, hx, hpx⟩
        rw [hcut.next, Option.map_some, Option.some.injEq] at hcutn
        refine hwait.elim hp fun hnot => hnot ?_
        exact (hready w (congrArg (fun x => x.2.1) hcutn)).1 hcut.toKnifeReady

/-- The next cut of a track whose numbers do not hold `n` has another number. -/
theorem nextCutNumber_ne {n : RowNum} (h : n ∉ trackNumbers s) : nextCutNumber s ≠ some n := by
  intro e
  obtain ⟨r, hr, rfl⟩ := Option.map_eq_some_iff.1 e
  exact h (mem_numbers (List.mem_of_find?_eq_some hr))

theorem roomFor_short (h : s.rot.track.length < 64) : roomFor s.rot.track = some s.rot.track :=
  if_pos h

/-! ### The row that is made (R49) -/

/-- What the events of a row's joining at `v` leave of what the row formed. -/
structure RowJoined (v t : State) : Prop where
  ntp : t.ntp = v.ntp
  newest : t.mkt.newest = v.mkt.newest
  expected : t.mkt.expected = v.mkt.expected
  stretch : t.mkt.stretch = v.mkt.stretch
  rows : List.Forall₂ RowKept v.rot.track t.rot.track
  current : ∀ c, v.jbc.current = some c → ∃ c', t.jbc.current = some c' ∧ c'.job = c.job ∧
    c'.firstRow = c.firstRow ∧ c'.lastRow = c.lastRow

theorem createRow_joined (hrun : s.rnc.runState ≠ .drain)
    (hroom : roomFor s.rot.track = some room) (h : TrackInv s) :
    RowJoined (withRow c m q next room s) (createRow c m q next room s) := by
  obtain ⟨hmkt, hntp, -, -, -, -, -, hrows, hcurrent⟩ :=
    createRow_decides (c := c) (m := m) (q := q) (next := next) hrun hroom h
  exact ⟨hntp, by rw [hmkt], by rw [hmkt], by rw [hmkt], hrows, hcurrent⟩

theorem RowJoined.halt {v t : State} {fault : HaltingFault} {f : Count}
    (h : RowJoined v t) (hrun : t.rnc.runState ≠ .drain) (hnodup : (trackNumbers v).Nodup) :
    RowJoined v (haltPart fault f t) := by
  obtain ⟨hntp, hnewest, hexpected, hstretch, hrows, hcurrent⟩ := h
  have hraised : RowJoined v (raiseHalting fault f t) := by
    constructor <;> simpa
  unfold haltPart
  dsimp only
  split
  · exact hraised
  next hchanged =>
    have hstate : (raiseHalting fault f t).rnc.runState ≠ .drain := by
      rw [raiseHalting_runState]
      split <;> simp_all
    have hframe := fireTest_decides false (raiseHalting fault f t) ⟨hstate, by
      unfold trackNumbers
      rw [RowKept.numbers hraised.rows]
      exact hnodup⟩
    refine ⟨hframe.ntp.trans hraised.ntp, ?_, ?_, ?_, RowKept.transs hraised.rows hframe.rows,
      fun c hc => ?_⟩
    · rw [hframe.mkt, hraised.newest]
    · rw [hframe.mkt, hraised.expected]
    · rw [hframe.mkt, hraised.stretch]
    · rw [(fireTest_keeps false (raiseHalting fault f t)).2.2.2.2.2.2.1]
      exact hraised.current c hc

/-- A row that has joined a track with room, with the knife's outcome, is the row of the request (R49). -/
theorem rowMade_of_joined {t : State} (h : TrackInv s)
    (hjoined : RowJoined (withRow c m q next s.rot.track s) t)
    (hknife : KnifeOutcome s (withRow c m q next s.rot.track s) t) :
    RowMade s t c m q.origin q.cls q.mark (requestStretch c.job q s.mkt) := by
  have hrows := hjoined.rows
  rw [withRow_rot] at hrows
  obtain ⟨p, r, hp, hkept, hr⟩ := rowKept_last hrows
  have hlast : newestRow t = some r := by rw [newestRow, hp, List.getLast?_concat]
  obtain ⟨-, -, -, hmark, hlead, hcut, hbase, -⟩ := id hr
  constructor
  case number => exact hknife.track.lastNumber
  case detector => exact hknife.track.detector
  case track =>
    show t.rot.track.map _ = _
    rw [RowKept.numbers hjoined.rows, withRow_rot, List.map_append]
    rfl
  case row =>
    refine ⟨r, hlast, newRow_of_kept hr, newTrail_of_outcome rfl h.next_notMem
      (nextCutNumber_ne h.next_notMem) hknife hlast hr, ?_, ?_, fun g => ?_⟩
    · rw [hjoined.newest, hcut, hbase]
      rfl
    · rw [hjoined.ntp, hcut]
      rfl
    · rw [hjoined.ntp, hlead]
      show guardAfter s.ntp.guardPoint _ = some g ↔ _
      unfold guardAfter behindGuard
      cases s.ntp.guardPoint with
      | none => simp
      | some x =>
        dsimp only
        split <;> aesop
  case expected => exact hjoined.expected
  case stretch => exact hjoined.stretch
  case context =>
    obtain ⟨c', hc', hjob, hfirst, hlastRow⟩ := hjoined.current _ rfl
    refine ⟨c', hc', hjob, hlastRow, hfirst.trans ?_⟩
    show (c.addRow (rowSucc s.rot.lastNumber)).firstRow = _
    unfold JobContext.addRow
    cases c.firstRow <;> rfl

end

end Sys2Proof.Machine
end

section
/-! Kept marks and coasts (R21 to R29, R50, R51). -/
namespace Sys2Proof.Machine

/-! ### Requests -/

theorem faultsRaised_of_tracking {s : State} (h : s.rnc.runState = .run ∨ s.rnc.runState = .halted) :
    FaultsRaised s ∧ s.rnc.runState ≠ .drain := by
  unfold FaultsRaised
  obtain h | h := h <;> simp [h]

section
variable {s : State} {c : JobContext} {m : MachineRecord} (hc : s.jbc.current = some c)
  (hm : s.rnc.record = some m)
include hc hm

theorem requestRow_room {q : RowRequest} {next : TrackerState} {room : List Row}
    (hroom : roomFor s.rot.track = some room) :
    requestRow q next s = (createRow c m q next room s, true) := by
  unfold requestRow
  rw [hc, hm]
  simp only [hroom]

theorem requestRow_full {q : RowRequest} {next : TrackerState} (hroom : roomFor s.rot.track = none) :
    requestRow q next s = (refuseRow s, false) := by
  unfold requestRow
  rw [hc, hm]
  simp only [hroom]

theorem takeCoast_room {x : Count} {room : List Row} (hroom : roomFor s.rot.track = some room) :
    takeCoast x s = countCoast c.job x (createRow c m ⟨.coasted, nextClass c.job s.mkt, x⟩
      (coastState s.mkt.state) room s) := by
  unfold takeCoast
  rw [hc]
  simp only [requestRow_room hc hm hroom]

theorem takeCoast_full {x : Count} (hroom : roomFor s.rot.track = none) :
    takeCoast x s = refuseRow s := by
  unfold takeCoast
  rw [hc]
  simp only [requestRow_full hc hm hroom]

end

/-- The tracker once a row has joined, also where knife and deciders act. -/
theorem createRow_mkt {s : State} {c : JobContext} {m : MachineRecord} {q : RowRequest}
    {next : TrackerState} {room : List Row} (hrun : s.rnc.runState ≠ .drain) :
    (createRow c m q next room s).mkt = trackerAfter c.job q
      (makeRow c m q (requestStretch c.job q s.mkt) s) (requestStretch c.job q s.mkt) next s.mkt := by
  rw [createRow_eq, testTargets_mkt (v := withRow c m q next room s) hrun]
  rfl

@[simp] theorem haltPart_mkt (fault : HaltingFault) (f : Count) (s : State) :
    (haltPart fault f s).mkt = s.mkt := by
  unfold haltPart
  dsimp only
  split <;> simp

/-- A halting fault raised in a run leaves the part HALTED with ATTENTION.FAULT, and with the fault's code
where the part was not HALTED before (R164, R165). -/
theorem haltPart_halted (fault : HaltingFault) {s : State} (h : FaultsRaised s) :
    (haltPart fault s.trc.front s).rnc.runState = .halted ∧
    (haltPart fault s.trc.front s).pxm.attention.fault = true ∧
    (s.rnc.runState = .run → (haltPart fault s.trc.front s).rnc.faultCode = some fault) := by
  have htaken := haltingTaken_raised fault s.trc h
  have hsame : (haltPart fault s.trc.front s).rnc = (raiseHalting fault s.trc.front s).rnc ∧
      (haltPart fault s.trc.front s).pxm = (raiseHalting fault s.trc.front s).pxm := by
    unfold haltPart
    dsimp only
    split <;> simp
  rw [hsame.1, hsame.2]
  refine ⟨htaken.runState, ?_, fun hr => ?_⟩
  · exact congrArg Attention.fault htaken.attention
  · exact htaken.faultCode.trans (if_neg (by rw [hr]; decide))

/-- What the knife looks at stands through a change of the tracker alone. -/
theorem newTrail_setMkt {s t : State} {x : Mkt} {kept : List Row} {r : Row}
    (h : NewTrail (s.setMkt x) t kept r) : NewTrail s t kept r := by
  have hready : KnifeReady s r ↔ KnifeReady (s.setMkt x) r :=
    ⟨fun h => { h with }, fun h => { h with }⟩
  exact ⟨fun hno hr => h.fires hno (hready.1 hr),
    fun hwait => h.waits (hwait.imp_right fun hno hr => hno (hready.2 hr))⟩

/-- What a row's maker looks at stands through a change of the tracker alone. -/
theorem rowMade_setMkt {s t : State} {x : Mkt} {c : JobContext} {m : MachineRecord} {o : Origin}
    {cls : RowClass} {e : Count} {st : Nat} (h : RowMade (s.setMkt x) t c m o cls e st) :
    RowMade s t c m o cls e st := by
  obtain ⟨hnumber, hdetector, htrack, ⟨r, hlast, hnew, htrail, hrest⟩, hexpected, hstretch,
    hcontext⟩ := h
  refine ⟨hnumber, hdetector, htrack, ⟨r, hlast, ?_, newTrail_setMkt htrail, hrest⟩, hexpected,
    hstretch, hcontext⟩
  exact { hnew with reasons := fun l y hy => { hnew.reasons l y hy with } }

/-! ### Kept marks in ACQUIRE (R24, R29) -/

section
variable {s : State} {c : JobContext} {m : MachineRecord} {d : Deglitch}

theorem keptTest_kept (h : Kept s d) :
    keptTest s = judgeMark d.edge (s.setMkt { s.mkt with deglitch := none }) := by
  obtain ⟨hd, hactive, hreached⟩ := h
  simp only [keptTest, keptMark, hd, hactive, hreached, Bool.and_self, if_true]

theorem judgeMark_asks {e : Count} {q : RowRequest} (hc : s.jbc.current = some c)
    (hm : s.rnc.record = some m) (hq : markRequest c.job m s.mkt e = some q) :
    judgeMark e s = (requestRow q .locked s).1 := by
  simp only [judgeMark, hc, hm, hq]

theorem judgeMark_stray {e : Count} (hc : s.jbc.current = some c)
    (hm : s.rnc.record = some m) (hq : markRequest c.job m s.mkt e = none) :
    judgeMark e s = takeStray s := by
  simp only [judgeMark, hc, hm, hq]

/-- The row that a mark kept at edge point `e` makes in a track with room. -/
theorem judgeMark_made {e : Count} {q : RowRequest}
    (hrun : s.rnc.runState = .run ∨ s.rnc.runState = .halted) (hc : s.jbc.current = some c)
    (hm : s.rnc.record = some m) (hlen : s.rot.track.length < 64) (hinv : TrackInv s)
    (hq : markRequest c.job m s.mkt e = some q) :
    RowMade s (judgeMark e s) c m q.origin q.cls q.mark (requestStretch c.job q s.mkt) ∧
    (judgeMark e s).mkt = trackerAfter c.job q
      (makeRow c m q (requestStretch c.job q s.mkt) s) (requestStretch c.job q s.mkt) .locked
      s.mkt := by
  have hroom := roomFor_short hlen
  have hnot := (faultsRaised_of_tracking hrun).2
  have hjudge : judgeMark e s = createRow c m q .locked s.rot.track s := by
    rw [judgeMark_asks hc hm hq, requestRow_room hc hm hroom]
  rw [hjudge]
  exact ⟨rowMade_of_joined hinv (createRow_joined hnot hroom hinv) (createRow_outcome hnot),
    createRow_mkt hnot⟩

/-- No coast is due outside the states that expect a mark. -/
theorem coastPoint_acquire (h : s.mkt.state = .acquire) : coastPoint s = none := by
  unfold coastPoint
  rw [h]
  split <;> rfl

end

/-- Settles O25: the mark kept in ACQUIRE asks for a LEAD_IN row, or is a stray that no coast follows. -/
theorem markKeptInAcquireMakesALeadInRow : Obligations.MarkKeptInAcquireMakesALeadInRow := by
  intro s c m d hrun hc hm hkept hstate hlen hinv
  have hexec : exec .markKept s =
      .next (judgeMark d.edge (s.setMkt { s.mkt with deglitch := none })) := by
    rw [← keptTest_kept hkept]
    rfl
  have hreacts : ReactionFrame s (judgeMark d.edge (s.setMkt { s.mkt with deglitch := none })) := by
    rw [← keptTest_kept hkept]
    exact keptTest_reacts s
  have hrequest : ∀ k : Mkt, k.state = .acquire → markRequest c.job m k d.edge =
      if leadInAccepted c.job m k d.edge then some ⟨.leadIn, .a, d.edge⟩ else none := by
    intro k hk
    unfold markRequest
    rw [hk]
  rw [hexec]
  constructor
  · intro hbeyond
    have haccepted : leadInAccepted c.job m s.mkt d.edge = true := by
      unfold leadInAccepted
      split
      next n hn => exact hbeyond n hn
      next => rfl
    obtain ⟨hmade, hmkt⟩ := judgeMark_made (s := s.setMkt { s.mkt with deglitch := none })
      (e := d.edge) hrun hc hm hlen { hinv with }
      ((hrequest _ hstate).trans (if_pos haccepted))
    refine ⟨_, rfl, hreacts, rowMade_setMkt hmade, ?_, ?_, ?_, ?_⟩
    all_goals rw [hmkt]
    all_goals rfl
  · intro n hn hbehind hcount
    have hrefused : leadInAccepted c.job m s.mkt d.edge = false := by
      unfold leadInAccepted
      rw [hn]
      exact hbehind
    rw [judgeMark_stray (s := s.setMkt { s.mkt with deglitch := none }) (e := d.edge) hc hm
      ((hrequest _ hstate).trans (if_neg (by rw [Bool.not_eq_true]; exact hrefused)))]
    unfold takeStray coastTest
    rw [coastPoint_acquire (by exact hstate)]
    simp only [riseTo_eq, State.setMkt_mkt]
    rfl

/-! ### Kept marks in the window (R25, R26, R32) -/

section
variable {s : State} {c : JobContext} {m : MachineRecord} {n : NewestRow}

/-- The marks that a tracking state accepts: those admitted whose cut lies in the fire order (R26, R32). -/
theorem markRequest_tracking {e : Count} (hn : s.mkt.newest = some n)
    (hstate : s.mkt.state = .locked ∨ s.mkt.state = .coasting ∨ s.mkt.state = .reacquire)
    (q : RowRequest) : markRequest c.job m s.mkt e = some q ↔
      q = ⟨.sensed, c.job.nextClass n.cls, e⟩ ∧ Admitted s c n e ∧
      beyond (advance e (effective s.mkt.stretch (c.job.offset (c.job.nextClass n.cls)))) n.cut =
        true := by
  have hwindow : windowAccepted c.job s.mkt e = true ↔ (∃ x, s.mkt.expected = some x ∧
      atOrBeyond e (retreat x c.job.markWindow) = true ∧
      atOrBeyond (advance x c.job.markWindow) e = true) ∧
      beyond (advance e (effective s.mkt.stretch (c.job.offset (c.job.nextClass n.cls)))) n.cut =
        true := by
    unfold windowAccepted
    cases s.mkt.expected <;>
      simp [inWindow, withinRange, inFireOrder, nextClass, hn, and_assoc]
  have hreacquire : (beyondReacquire c.job s.mkt e && inFireOrder c.job s.mkt e) = true ↔
      atOrBeyond e (advance n.mark (effective s.mkt.stretch c.job.pitchMin / 2)) = true ∧
      beyond (advance e (effective s.mkt.stretch (c.job.offset (c.job.nextClass n.cls)))) n.cut =
        true := by
    simp [beyondReacquire, reacquireDistance, inFireOrder, nextClass, hn]
  have hclass : nextClass c.job s.mkt = c.job.nextClass n.cls := by simp only [nextClass, hn]
  unfold Admitted
  obtain h | h | h := hstate <;>
    simp only [markRequest, h, Option.ite_none_right_eq_some, Option.some.injEq, hwindow,
      hreacquire, hclass, or_true, true_and, false_and, or_false, false_or, reduceCtorEq,
      eq_comm (a := q)] <;>
    tauto

/-- A coast in a track with room leaves the stray count. -/
theorem coastTest_strayCount (hrun : s.rnc.runState ≠ .drain) (hc : s.jbc.current = some c)
    (hm : s.rnc.record = some m) (hlen : s.rot.track.length < 64) :
    (coastTest s).mkt.strayCount = s.mkt.strayCount := by
  unfold coastTest
  split
  next x _ =>
    rw [takeCoast_room hc hm (roomFor_short hlen)]
    have hmkt := createRow_mkt (c := c) (m := m) (q := ⟨.coasted, nextClass c.job s.mkt, x⟩)
      (next := coastState s.mkt.state) (room := s.rot.track) hrun
    unfold countCoast
    dsimp only
    repeat' split
    all_goals simp only [haltPart_mkt, State.setMkt_mkt, hmkt]
    all_goals rfl
  next => rfl

end

/-- Settles O26: what the tracking states accept is the mark admitted in fire order; the others are strays. -/
theorem markKeptInTheWindowMakesASensedRow : Obligations.MarkKeptInTheWindowMakesASensedRow := by
  intro s c m d n hrun hc hm hkept hn hstate hlen hinv
  have hexec : exec .markKept s =
      .next (judgeMark d.edge (s.setMkt { s.mkt with deglitch := none })) := by
    rw [← keptTest_kept hkept]
    rfl
  have hreacts : ReactionFrame s (judgeMark d.edge (s.setMkt { s.mkt with deglitch := none })) := by
    rw [← keptTest_kept hkept]
    exact keptTest_reacts s
  have hrequest := markRequest_tracking (s := s.setMkt { s.mkt with deglitch := none }) (c := c)
    (m := m) (e := d.edge) hn hstate
  rw [hexec]
  constructor
  · intro hadmitted horder
    obtain ⟨hmade, hmkt⟩ := judgeMark_made (s := s.setMkt { s.mkt with deglitch := none })
      (e := d.edge) hrun hc hm hlen { hinv with } ((hrequest _).2 ⟨rfl, hadmitted, horder⟩)
    have hstretch : requestStretch c.job ⟨.sensed, c.job.nextClass n.cls, d.edge⟩
        { s.mkt with deglitch := none } = sensedStretch s c n d.edge := by
      unfold requestStretch sensedStretch
      cases h : s.mkt.state <;> simp [hn, distance]
    refine ⟨_, rfl, hreacts, ?_, ?_, ?_, ?_, fun w hw => ?_⟩
    · rw [← hstretch]
      exact rowMade_setMkt hmade
    all_goals rw [hmkt]
    · rfl
    · rfl
    · rfl
    · show exemptionAfter _ s.mkt.exemption = _
      rw [hw]
      rfl
  · intro hnot hcount u hu
    have hnone : markRequest c.job m { s.mkt with deglitch := none } d.edge = none :=
      Option.eq_none_iff_forall_ne_some.2 fun q hq => hnot ((hrequest q).1 hq).2
    have hstray : judgeMark d.edge (s.setMkt { s.mkt with deglitch := none }) = coastTest u := by
      rw [judgeMark_stray (s := s.setMkt { s.mkt with deglitch := none }) hc hm hnone, hu]
      simp only [takeStray, riseTo_eq]
      rfl
    rw [hstray] at hreacts ⊢
    refine ⟨_, rfl, hreacts, ?_, fun hno => ?_, fun x hx => ?_⟩
    · rw [hu]
      exact coastTest_strayCount (c := c) (m := m) (faultsRaised_of_tracking hrun).2 hc hm hlen
    · simp only [coastTest, hno]
    · simp only [coastTest, hx]

/-! ### Coasts (R27, R28) -/

section
variable {s : State} {c : JobContext} {m : MachineRecord} {n : NewestRow} {x : Count}

/-- A deglitch whose mark would be admitted defers the coast (R27). -/
theorem coastPoint_deferred {d : Deglitch} (hc : s.jbc.current = some c)
    (hn : s.mkt.newest = some n) (hd : s.mkt.deglitch = some d) (h : Admitted s c n d.edge) :
    coastPoint s = none := by
  unfold coastPoint
  split
  next c' x hc' hx =>
    obtain rfl := Option.some.inj (hc.symm.trans hc')
    have hdefer : deferring c.job s.mkt x = true := by
      unfold deferring
      rw [hd]
      obtain ⟨hstate, y, hy, hlow, hhigh⟩ | ⟨hstate, hreacquire⟩ := h
      · obtain rfl := Option.some.inj (hx.symm.trans hy)
        have hwindow : inWindow c.job x d.edge = true := by
          rw [inWindow, withinRange, hlow, hhigh]
          rfl
        obtain hstate | hstate := hstate <;> rw [hstate] <;> exact hwindow
      · rw [hstate]
        simpa only [beyondReacquire, hn, reacquireDistance] using hreacquire
    simp only [hdefer, Bool.not_true, Bool.and_false]
    split <;> rfl
  next => rfl

theorem coastPoint_reached (hc : s.jbc.current = some c) (h : CoastReached s c x)
    (hd : s.mkt.deglitch = none) : coastPoint s = some x := by
  obtain ⟨hstate, hx, hreached⟩ := h
  have hdefer : deferring c.job s.mkt x = false := by
    unfold deferring
    rw [hd]
  obtain h | h | h := hstate <;>
    simp only [coastPoint, hc, hx, h, hreached, hdefer, Bool.not_false, Bool.and_self, if_true]

theorem exempt_iff : exempt s.mkt x = true ↔ Exempt s x := by
  unfold exempt Exempt
  cases s.mkt.exemption <;> simp [withinSpan]

/-- A count of a coast outside the exemption span: the coast count rises and MARK_LOST follows the limit. -/
theorem countCoast_counted {j : JobRecord} (h : exempt s.mkt x = false) :
    countCoast j x s = if s.mkt.coastCount = j.coastLimit then
        haltPart .markLost s.trc.front
          (s.setMkt { s.mkt with coastCount := riseTo 255 s.mkt.coastCount })
      else s.setMkt { s.mkt with coastCount := riseTo 255 s.mkt.coastCount } :=
  if_neg (by rw [h]; exact Bool.false_ne_true)

theorem RowJoined.counted {v t : State} {j : JobRecord} (h : RowJoined v t)
    (hrun : t.rnc.runState ≠ .drain) (hnodup : (trackNumbers v).Nodup) :
    RowJoined v (countCoast j x t) := by
  have hset : RowJoined v (t.setMkt { t.mkt with coastCount := riseTo 255 t.mkt.coastCount }) :=
    { h with }
  unfold countCoast
  dsimp only
  repeat' split
  · exact h
  · exact hset.halt hrun hnodup
  · exact hset

theorem KnifeOutcome.counted {v t : State} {j : JobRecord} (hv : FaultsRaised v)
    (h : KnifeOutcome s v t) : KnifeOutcome s v (countCoast j x t) := by
  have hset : KnifeOutcome s v
      (t.setMkt { t.mkt with coastCount := riseTo 255 t.mkt.coastCount }) :=
    h.seen (.of_eq rfl rfl rfl)
  unfold countCoast
  dsimp only
  repeat' split
  · exact h
  · exact hset.halt hv
  · exact hset

end

/-- Settles O28: the coast asks for the row at the expected point, and its count may halt the part. -/
theorem coastMakesARowAtTheExpectedPoint : Obligations.CoastMakesARowAtTheExpectedPoint := by
  refine ⟨fun s c n d hc hn hd h => ?_, fun s c m n x hrun hc hm hn hreached hd hlen hcount hinv => ?_⟩
  · show Host.Outcome.next (coastTest s) = .next s
    simp only [coastTest, coastPoint_deferred hc hn hd h]
  obtain ⟨hraised, hnot⟩ := faultsRaised_of_tracking hrun
  have hroom := roomFor_short hlen
  have hclass : nextClass c.job s.mkt = c.job.nextClass n.cls := by simp only [nextClass, hn]
  have hexec : exec .coast s = .next (takeCoast x s) := by
    show Host.Outcome.next (coastTest s) = _
    simp only [coastTest, coastPoint_reached hc hreached hd]
  have hreacts := takeCoast_reacts x s
  rw [takeCoast_room hc hm hroom, hclass] at hexec hreacts
  generalize hq : (⟨.coasted, c.job.nextClass n.cls, x⟩ : RowRequest) = q at hexec hreacts
  generalize hnext : coastState s.mkt.state = next at hexec hreacts
  have hjoined := createRow_joined (c := c) (m := m) (q := q) (next := next) hnot hroom hinv
  have houtcome := createRow_outcome (c := c) (m := m) (q := q) (next := next)
    (room := s.rot.track) hnot
  have hmkt := createRow_mkt (c := c) (m := m) (q := q) (next := next) (room := s.rot.track) hnot
  have hframe := createRow_decides (c := c) (m := m) (q := q) (next := next) hnot hroom hinv
  generalize createRow c m q next s.rot.track s = w at *
  have hwrun : w.rnc.runState = s.rnc.runState := hframe.runState
  have hwfault : w.rnc.faultCode = s.rnc.faultCode := hframe.faultCode
  have hwraised : FaultsRaised w := by
    unfold FaultsRaised
    rw [hwrun]
    exact hraised
  have hwcount : w.mkt.coastCount = s.mkt.coastCount := by
    rw [hmkt, ← hq]
    rfl
  have hwstate : w.mkt.state = next := by
    rw [hmkt]
    rfl
  have hwexempt : exempt w.mkt x = true ↔ Exempt s x := by
    rw [← exempt_iff, hmkt, ← hq]
    rfl
  have hmade := rowMade_of_joined hinv (hjoined.counted (x := x) (j := c.job) (by
    rw [hwrun]
    exact hnot) (withRow_steady (c := c) (m := m) hnot hroom hinv).2)
    (houtcome.counted (x := x) (j := c.job) hraised)
  have hmade : RowMade s (countCoast c.job x w) c m .coasted (c.job.nextClass n.cls) x
      s.mkt.stretch := by
    rw [← hq] at hmade
    exact hmade
  have hstate : (countCoast c.job x w).mkt.state = next := by
    unfold countCoast
    dsimp only
    repeat' split
    all_goals simp only [haltPart_mkt, State.setMkt_mkt, hwstate]
  refine ⟨_, hexec, hreacts, hmade, fun h => ?_, fun h => ?_, fun h => ?_, fun h => ?_,
    fun h hlimit => ?_, fun h => ?_⟩
  · rw [hstate, ← hnext, h]
    rfl
  · rw [hstate, ← hnext]
    obtain h1 | h1 | h1 := hreached.1
    · rw [h1]; rfl
    · rw [h1]; rfl
    · exact absurd h1 h
  · rw [countCoast, if_pos (hwexempt.2 h), hwcount]
  · rw [countCoast_counted (by rw [← Bool.not_eq_true]; exact fun e => h (hwexempt.1 e))]
    split
    all_goals simp only [haltPart_mkt, State.setMkt_mkt, riseTo_eq, hwcount]
  · rw [countCoast_counted (by rw [← Bool.not_eq_true]; exact fun e => h (hwexempt.1 e)),
      if_pos (hwcount.trans hlimit)]
    obtain ⟨hhalted, hflag, hcode⟩ := haltPart_halted .markLost
      (s := w.setMkt { w.mkt with coastCount := riseTo 255 w.mkt.coastCount }) hwraised
    exact ⟨hhalted, hflag, fun hr => hcode (hwrun.trans hr)⟩
  · have hstays : (countCoast c.job x w).rnc = w.rnc := by
      unfold countCoast
      dsimp only
      split
      next => rfl
      next hexempt =>
        rw [if_neg]
        · rfl
        · intro hlimit
          obtain h | h := h
          · exact hexempt (hwexempt.2 h)
          · exact h (hwcount.symm.trans hlimit)
    rw [hstays]
    exact ⟨hwrun, hwfault⟩

end Sys2Proof.Machine
end

section
/-! A creation in a full track (R50, R51). -/
namespace Sys2Proof.Machine

/-! ### The room that the oldest row leaves (R50) -/

theorem fullyDecided_iff (r : Row) :
    fullyDecided r = true ↔ ∀ l y, r.entries.get l ≠ some (.undecided y) := by
  have hopen : ∀ l, openIn l r = false ↔ ∀ y, r.entries.get l ≠ some (.undecided y) := by
    intro l
    unfold openIn
    rcases r.entries.get l with _ | (_ | _ | _) <;> simp [LaneEntry.isOpen]
  simp only [fullyDecided, Bool.and_eq_true, Bool.not_eq_true', hopen]
  exact ⟨fun ⟨⟨⟨h0, h1⟩, h2⟩, h3⟩ l => by cases l <;> assumption,
    fun h => ⟨⟨⟨h .l0, h .l1⟩, h .l2⟩, h .l3⟩⟩

/-- The lead cut that the retired row `r` leaves the next row `n` (R50). -/
def retiredLead (r n : Row) : Row :=
  if r.trail.isPending then giveLead ⟨r.fireBase, true⟩ n else n

theorem retireOldest_eq (r n : Row) (rest : List Row) :
    retireOldest (r :: n :: rest) = retiredLead r n :: rest := by
  simp only [retireOldest, retiredLead]
  split <;> rfl

theorem retiredLead_cut (r n : Row) : cutOf (retiredLead r n) = cutOf n := by
  unfold retiredLead
  split
  · rw [giveLead_eq]
    rfl
  · rfl

theorem cutsOf_retireOldest (r n : Row) (rest : List Row) :
    cutsOf (retireOldest (r :: n :: rest)) = cutsOf (n :: rest) := by
  rw [retireOldest_eq]
  exact congrArg (· :: cutsOf rest) (retiredLead_cut r n)

theorem numbersOf_cuts (track : List Row) : numbersOf track = (cutsOf track).map Prod.fst := by
  simp only [numbersOf, cutsOf, List.map_map]
  rfl

theorem isPending_iff (trail : TrailCut) : trail.isPending = true ↔ trail = .pending := by
  cases trail <;> simp [TrailCut.isPending]

section
variable {s t : State} {c : JobContext} {m : MachineRecord} {q : RowRequest} {next : TrackerState}
  {room : List Row}

theorem KnifeOutcome.numbers {v : State} (h : KnifeOutcome s v t) :
    trackNumbers t = trackNumbers v := by
  show numbersOf t.rot.track = numbersOf v.rot.track
  rw [numbersOf_cuts, numbersOf_cuts]
  obtain hseen | ⟨w, -, hfired⟩ := h.either
  · rw [hseen.cuts]
  · rw [hfired.cuts, List.map_map]
    refine List.map_congr_left fun x _ => ?_
    simp only [Function.comp_apply]
    split <;> rfl

/-- The oldest row has retired for the row that joined (R50). -/
theorem oldestRetired_of_outcome {r n : Row} {rest : List Row} (htrack : s.rot.track = r :: n :: rest)
    (hroom : room = retireOldest s.rot.track)
    (hknife : KnifeOutcome s (withRow c m q next room s) t)
    (hrows : TrackInv s → List.Forall₂ RowKept (withRow c m q next room s).rot.track t.rot.track) :
    OldestRetired s t r n := by
  have hnumbers := hknife.numbers
  have hleads := hknife.track.leads
  have hkept : cutsOf room = cutsOf s.rot.track.tail := by
    rw [hroom, htrack]
    exact cutsOf_retireOldest r n rest
  have hjoined : (withRow c m q next room s).rot.track =
      retiredLead r n :: (rest ++ [makeRow c m q (requestStretch c.job q s.mkt) s]) := by
    rw [withRow_rot, hroom, htrack, retireOldest_eq]
    rfl
  refine ⟨?_, hknife.track.lastNumber, hknife.track.detector, ?_⟩
  · rw [hnumbers]
    show numbersOf (room ++ [_]) = (numbersOf s.rot.track).tail ++ _
    rw [numbersOf_cuts, cutsOf, List.map_append, List.map_append]
    show (cutsOf room).map Prod.fst ++ _ = _
    rw [hkept, ← numbersOf_cuts, numbersOf, List.map_tail]
    rfl
  · change numbersOf t.rot.track = numbersOf _ at hnumbers
    rw [hjoined] at hnumbers hleads
    obtain ⟨n', more, ht⟩ : ∃ n' more, t.rot.track = n' :: more := by
      cases h : t.rot.track with
      | nil => rw [h] at hnumbers; simp [numbersOf] at hnumbers
      | cons n' more => exact ⟨n', more, rfl⟩
    have hnumber : n'.number = n.number := by
      rw [ht] at hnumbers
      exact (List.cons.inj hnumbers).1.trans (congrArg Prod.fst (retiredLead_cut r n))
    have hlead : n'.leadCut = (retiredLead r n).leadCut := by
      rw [ht] at hleads
      exact (List.cons.inj hleads).1
    refine ⟨n', by rw [ht]; rfl, hnumber, fun hp ho => ?_, fun h => ?_, fun hinv => ?_⟩
    · rw [hlead, retiredLead, if_pos ((isPending_iff _).2 hp), giveLead_eq]
      exact if_pos ho
    · rw [hlead, retiredLead]
      split
      next hp =>
        rw [giveLead_eq]
        exact if_neg (not_not_intro (h.resolve_left (not_not_intro ((isPending_iff _).1 hp))))
      next => rfl
    · obtain ⟨p, r', hp, -, hr⟩ := rowKept_last (hrows hinv)
      have hlast : newestRow t = some r' := by rw [newestRow, hp, List.getLast?_concat]
      exact ⟨r', hlast, newTrail_of_outcome hkept
        (fun hmem => hinv.next_notMem (by
          rw [numbersOf, List.map_tail] at hmem
          exact List.mem_of_mem_tail hmem))
        (nextCutNumber_ne hinv.next_notMem) hknife hlast hr⟩

theorem oldestRetired_setMkt {x : Mkt} {r n : Row} (h : OldestRetired (s.setMkt x) t r n) :
    OldestRetired s t r n := by
  obtain ⟨hnumbers, hlast, hdetector, n', hhead, hnumber, hpending, hcomplete, htrail⟩ := h
  refine ⟨hnumbers, hlast, hdetector, n', hhead, hnumber, hpending, hcomplete, fun hinv => ?_⟩
  obtain ⟨q, hq, htrail⟩ := htrail { hinv with }
  exact ⟨q, hq, newTrail_setMkt htrail⟩

theorem roomFor_full (hlen : s.rot.track.length = 64) {r n : Row} {rest : List Row}
    (htrack : s.rot.track = r :: n :: rest) :
    roomFor s.rot.track = if fullyDecided r then some (retireOldest s.rot.track) else none := by
  have hfull : ¬s.rot.track.length < Config.trackCapacity := by
    rw [hlen]
    decide
  unfold roomFor
  rw [if_neg hfull]
  split
  next h => rw [htrack] at h; cases h; rfl
  next h => rw [htrack] at h; cases h

/-- A refused row leaves the tracker in ACQUIRE and the fault of its detector (R29, R51). -/
theorem refuseRow_refused {k : Mkt} (h : FaultsRaised s) :
    RowRefused s (refuseRow (s.setMkt k)) k := by
  rintro u rfl
  constructor
  · intro hd
    have harmed : (s.setMkt k).rot.overflowDetector = .armed := hd
    simp only [refuseRow, harmed]
    exact haltPart_tested .trackOverflow (u := { s with
      mkt := { k with state := .acquire, coastCount := 0, expected := none },
      rot := { s.rot with overflowDetector := .spent } }) h
  · intro hd
    have hspent : (s.setMkt k).rot.overflowDetector = .spent := hd
    have hrot : s.rot = { s.rot with overflowDetector := .spent } := by rw [← hd]
    simp only [refuseRow, hspent]
    exact congrArg (fun x => { (s.setMkt k.reenter) with rot := x }) hrot

/-- The mark that asks for a row makes a request of the tracker (R24, R26, R32). -/
theorem markRequest_of_asks {e : Count} (h : MarkAsks s c m e) :
    ∃ q, markRequest c.job m s.mkt e = some q ∧ q.origin ≠ .coasted := by
  obtain ⟨hstate, hbeyond⟩ | ⟨n, hn, hadmitted, horder⟩ := h
  · refine ⟨⟨.leadIn, .a, e⟩, ?_, by simp⟩
    have haccepted : leadInAccepted c.job m s.mkt e = true := by
      unfold leadInAccepted
      split
      next n hn => exact hbeyond n hn
      next => rfl
    unfold markRequest
    rw [hstate]
    exact if_pos haccepted
  · refine ⟨⟨.sensed, c.job.nextClass n.cls, e⟩, ?_, by simp⟩
    refine (markRequest_tracking hn ?_ _).2 ⟨rfl, hadmitted, horder⟩
    obtain ⟨h | h, -⟩ | ⟨h, -⟩ := hadmitted
    · exact .inl h
    · exact .inr (.inl h)
    · exact .inr (.inr h)

end

/-- Settles O29: the full track gives the decided oldest row's place, or refuses. -/
theorem fullTrackRetiresItsOldestRowOrOverflows :
    Obligations.FullTrackRetiresItsOldestRowOrOverflows := by
  intro s c m r n rest hrun hc hm htrack hlen
  obtain ⟨hraised, hnot⟩ := faultsRaised_of_tracking hrun
  have hroom := roomFor_full hlen htrack
  have hdecided : (∀ l y, r.entries.get l ≠ some (.undecided y)) →
      roomFor s.rot.track = some (retireOldest s.rot.track) := fun h => by
    rw [hroom, if_pos ((fullyDecided_iff r).2 h)]
  have hopen : ∀ l y, r.entries.get l = some (.undecided y) → roomFor s.rot.track = none :=
    fun l y h => by
      rw [hroom, if_neg fun e => (fullyDecided_iff r).1 e l y h]
  refine ⟨fun x hreached hd => ?_, fun d hkept hasks => ?_⟩
  · have hexec : exec .coast s = .next (takeCoast x s) := by
      show Host.Outcome.next (coastTest s) = _
      simp only [coastTest, coastPoint_reached hc hreached hd]
    rw [hexec]
    refine ⟨fun h => ⟨_, rfl, takeCoast_reacts x s, ?_⟩, fun l y h => ⟨_, rfl, ?_⟩⟩
    · rw [takeCoast_room hc hm (hdecided h)]
      refine oldestRetired_of_outcome htrack rfl
        ((createRow_outcome (c := c) (m := m) hnot).counted hraised) fun hinv => ?_
      have hroom := hdecided h
      exact ((createRow_joined (c := c) (m := m) hnot hroom hinv).counted (by
        rw [(createRow_decides (c := c) (m := m) hnot hroom hinv).runState]
        exact hnot) (withRow_steady (c := c) (m := m) hnot hroom hinv).2).rows
    · rw [takeCoast_full hc hm (hopen l y h)]
      exact refuseRow_refused (k := s.mkt) hraised
  · have hexec : exec .markKept s =
        .next (judgeMark d.edge (s.setMkt { s.mkt with deglitch := none })) := by
      rw [← keptTest_kept hkept]
      rfl
    have hreacts : ReactionFrame s
        (judgeMark d.edge (s.setMkt { s.mkt with deglitch := none })) := by
      rw [← keptTest_kept hkept]
      exact keptTest_reacts s
    generalize hu : s.setMkt { s.mkt with deglitch := none } = u at hexec hreacts
    obtain ⟨hucurrent, hurecord, hurot, hurun⟩ : u.jbc.current = some c ∧ u.rnc.record = some m ∧
        u.rot = s.rot ∧ u.rnc.runState = s.rnc.runState := by
      rw [← hu]
      exact ⟨hc, hm, rfl, rfl⟩
    have huasks : MarkAsks u c m d.edge := by
      rw [← hu]
      exact hasks
    obtain ⟨q, hq, horigin⟩ := markRequest_of_asks huasks
    have hunot : u.rnc.runState ≠ .drain := hurun ▸ hnot
    rw [hexec, judgeMark_asks hucurrent hurecord hq]
    rw [judgeMark_asks hucurrent hurecord hq] at hreacts
    refine ⟨fun h => ?_, fun l y h => ⟨_, rfl, ?_⟩⟩
    · have hroom := (congrArg (fun x => roomFor x.track) hurot).trans (hdecided h)
      rw [requestRow_room hucurrent hurecord hroom] at hreacts ⊢
      have hretired : OldestRetired u (createRow c m q .locked (retireOldest s.rot.track) u) r n :=
        oldestRetired_of_outcome (hurot ▸ htrack) (by rw [hurot])
          (createRow_outcome (c := c) (m := m) hunot) fun hinv =>
            (createRow_joined (c := c) (m := m) hunot hroom hinv).rows
      refine ⟨_, rfl, hreacts, ?_, ?_, ?_, ?_⟩
      · subst hu
        exact oldestRetired_setMkt hretired
      all_goals rw [createRow_mkt hunot]
      · rfl
      · cases hqo : q.origin <;> simp_all [trackerAfter]
      · rw [← hu]
        rfl
    · rw [requestRow_full hucurrent hurecord (by rw [hurot]; exact hopen l y h), ← hu]
      exact refuseRow_refused hraised

end Sys2Proof.Machine
end

section
/-! Pages taken, fates written and page states checked (R79 to R83). -/
namespace Sys2Proof.Machine

theorem pageBase_lt (p : Page) : pageBase p + 784 ≤ 8192 := by
  cases p <;> decide

/-! ### The taking of a page (R79) -/

/-- The taking's two words are written by its burst, and the page is in work. -/
theorem takeExpected_eq (s : State) :
    let base := pageBase s.ntp.expectedPage
    let n := Memory.natWord s.pxm.memory (base + 2)
    let u := burstWrite (base + 4) [truncatedWord n] (burstWrite base [pageInUse] (beginBurst .notes s))
    takeExpected s = u.setNtp { s.ntp with
      inWork := some ⟨s.ntp.expectedPage, heldCount n, Memory.readCount s.pxm.memory (base + 8), 0⟩,
      work := (if heldCount n = 0 then .finishing else .noteRead) :: s.ntp.work.tail } :=
  setNoteWork_inProgress _ rfl

theorem exec_pageTaking_of_turn {s : State} {rest : List NoteBurst} (h : NoteTurn s .pageTaking rest) :
    exec .pageTaking s = .next (takeExpected s) := by
  simp only [exec, execPageTaking, freeMemory_of_turn h, noteTurn_of_turn h]

/-- Settles O34: the taking is one burst of two words beneath which the header is held. -/
theorem pageTakingHoldsTheHeader : Obligations.PageTakingHoldsTheHeader := by
  rintro s rest base n hwf hturn rfl rfl
  refine ⟨_, exec_pageTaking_of_turn hturn, ?_⟩
  obtain ⟨-, -, hwaiting, hwork⟩ := hturn
  have hbase := pageBase_lt s.ntp.expectedPage
  generalize hb : pageBase s.ntp.expectedPage = base at hbase
  generalize hn : (Memory.readWord s.pxm.memory (base + 2)).toNat = n
  have htaken := takeExpected_eq s
  simp only [hb, Memory.natWord, hn, hwork, List.tail_cons] at htaken
  generalize hu : burstWrite (base + 4) [truncatedWord n]
    (burstWrite base [pageInUse] (beginBurst .notes s)) = u at htaken
  have hmem : u.pxm.memory = Memory.writeWord (Memory.writeWord s.pxm.memory base pageInUse)
      (base + 4) (truncatedWord n) := by
    rw [← hu]
    rfl
  have hheld : heldCount n = 0 ↔ n = 0 := by
    unfold heldCount
    rw [Nat.min_eq_zero_iff]
    exact or_iff_left nofun
  rw [htaken]
  refine ⟨?_, ?_, fun k h0 h4 => ?_, rfl, ?_, ?_, ?_⟩
  · show Memory.readWord u.pxm.memory base = _
    rw [hmem, Memory.readWord_writeWord_ne (by omega), Memory.readWord_writeWord_self hwf (by omega)]
    rfl
  · show Memory.readWord u.pxm.memory (base + 4) = _
    rw [hmem, Memory.readWord_writeWord_self (Memory.wf_writeWord hwf (by omega)) (by omega)]
    rfl
  · show Memory.readByte u.pxm.memory k = _
    rw [hmem, Memory.readByte_writeWord_ne (by omega) (by omega),
      Memory.readByte_writeWord_ne (by omega) (by omega)]
  · simp only [State.setNtp_ntp, hheld]
  · rw [← hu]
    exact requestedAtEnd_of_burst rfl hwaiting
  · rw [← hu]
    rfl

/-! ### Fate writes (R80, R186) -/

theorem writeFate_eq (p : Page) (i : Nat) (f : Fate) (d : Nat) (s : State) :
    writeFate p i f d s = (burstWrite (noteAddress p i + 14) [bytePair (fateCode f) d]
      (beginBurst .notes s)).setNtp { s.ntp with work := s.ntp.work.tail } :=
  setNoteWork_inProgress _ rfl

theorem bytePair_low (low high : Nat) : (bytePair low high).extractLsb' 0 8 = BitVec.ofNat 8 low := by
  unfold bytePair
  exact BitVec.extractLsb'_append_eq_right

theorem bytePair_high (low high : Nat) :
    (bytePair low high).extractLsb' 8 8 = BitVec.ofNat 8 high := by
  unfold bytePair
  exact BitVec.extractLsb'_append_eq_left

theorem fateCode_lt (f : Fate) : fateCode f < 256 := by
  cases f <;> decide

/-- A page state check takes the page work on, and takes the page it finds POSTED. -/
theorem checkPage_eq {s : State} {rest : List NoteBurst} (h : NoteTurn s .stateCheck rest) :
    checkPage s = if checkFinds s then takePage (serveRead rest s) else serveRead rest s := by
  obtain ⟨-, -, -, hwork⟩ := h
  simp only [checkPage, hwork, List.tail_cons]

/-- A note burst that only reads leaves the page work and the requests alone changed. -/
theorem serveRead_eq {s : State} (work : List NoteBurst) (h : s.pxm.burst = none) :
    serveRead work s = { s with
      ntp := { s.ntp with work := work },
      pxm := { s.pxm with requests :=
        if work = [] then s.pxm.requests.tail else withRequest .notes s.pxm.requests.tail } } := by
  have hidle : inProgress .notes ((popRequest s).setNtp { s.ntp with work := work }) = false := by
    show s.pxm.burst.any _ = false
    rw [h]
    rfl
  unfold serveRead setNoteWork updateNoteRequest askFor
  rw [popRequest_keeps s |>.2.2.2.2.1, hidle]
  cases work <;> rfl

/-- Settles O42: the fate write is one burst of one word, and the page state check is the end of a burst
that only reads. -/
theorem fateWritesAndStateChecks : Obligations.FateWritesAndStateChecks := by
  refine ⟨fun s pg i f d rest hwf hturn hi hd => ?fate, fun s rest hturn hhalf => ?check⟩
  case fate =>
    have hexec : exec .fateWrite s = .next (writeFate pg i f d s) := by
      simp only [exec, execFateWrite, freeMemory_of_turn hturn, noteTurn_of_turn hturn]
    refine ⟨_, hexec, ?_⟩
    obtain ⟨-, -, hwaiting, hwork⟩ := hturn
    have hbase := pageBase_lt pg
    have haddress : noteAddress pg i + 14 = pageBase pg + 16 * i + 30 := by
      unfold noteAddress
      omega
    have hlast : pageBase pg + 16 * i + 30 + 1 < 8192 := by omega
    rw [writeFate_eq, haddress, hwork]
    have hsecond : pageBase pg + 16 * i + 31 = pageBase pg + 16 * i + 30 + 1 := rfl
    rw [hsecond]
    generalize pageBase pg + 16 * i + 30 = a at hlast ⊢
    have hbyte := Memory.readByte_writeWord (w := bytePair (fateCode f) d) hwf hlast
    have hlow : Memory.readByte (Memory.writeWord s.pxm.memory a (bytePair (fateCode f) d)) a =
        BitVec.ofNat 8 (fateCode f) := by
      rw [hbyte, if_pos rfl, bytePair_low]
    have hhigh : Memory.readByte (Memory.writeWord s.pxm.memory a (bytePair (fateCode f) d)) (a + 1) =
        BitVec.ofNat 8 d := by
      rw [hbyte, if_neg (by omega), if_pos rfl, bytePair_high]
    refine ⟨?_, ?_, fun k hk => Memory.readByte_writeWords_ne (ws := [_]) hk, rfl,
      requestedAtEnd_of_burst rfl hwaiting, rfl⟩
    · exact (congrArg BitVec.toNat hlow).trans (Nat.mod_eq_of_lt (fateCode_lt f))
    · exact (congrArg BitVec.toNat hhigh).trans (Nat.mod_eq_of_lt hd)
  case check =>
    have hexec : exec .pageStateCheck s = .next (afterBurst (checkPage s)) := by
      simp only [exec, execPageStateCheck, freeMemory_of_turn hturn, noteTurn_of_turn hturn]
    refine ⟨_, hexec, ?_⟩
    rw [checkPage_eq hturn]
    obtain ⟨-, hburst, hwaiting, hwork⟩ := hturn
    have hserved := serveRead_eq (s := s) rest hburst
    generalize serveRead rest s = u at hserved ⊢
    have hfinds : checkFinds s = true ↔
        Memory.readWord s.pxm.memory (pageBase s.ntp.expectedPage) = 1#16 ∧
        s.rnc.runState ≠ .off ∧ s.ntp.inWork = none := by
      simp only [checkFinds, pagePosted, Bool.and_eq_true, beq_iff_eq, bne_iff_ne, ne_eq,
        Option.isNone_iff_eq_none, and_assoc]
    have hread : Requested u ∧ OnlyPageWork s u ∧ u.ntp.inWork = s.ntp.inWork ∧
        u.ntp.work = rest := by
      rw [hserved]
      refine ⟨fun hwork => ?_, rfl, rfl, rfl⟩
      rw [if_neg hwork]
      exact mem_withRequest _ _
    by_cases hf : checkFinds s = true
    · rw [if_pos hf]
      by_cases hpresent : NoteBurst.pageTaking ∈ rest
      · rw [takePage_present (by rw [hread.2.2.2]; exact hpresent),
          afterBurst_idle _ (by rw [hserved]; exact hwaiting) (by rw [hserved]; exact hhalf)]
        exact ⟨hread.1, hread.2.1, hread.2.2.1, fun _ _ _ h => absurd hpresent h,
          fun _ => hread.2.2.2⟩
      · have htaken := takePage_absent (s := u) (by rw [hread.2.2.2]; exact hpresent)
          (by rw [hserved]; exact hburst)
        rw [htaken, afterBurst_idle _ (by rw [hserved]; exact hwaiting)
          (by rw [hserved]; exact hhalf), hserved]
        refine ⟨fun _ => mem_withRequest _ _, rfl, rfl, fun _ _ _ _ => rfl, fun h => ?_⟩
        obtain ⟨hposted, hrun, hnone⟩ := hfinds.1 hf
        obtain h | h | h := h
        · exact absurd hposted h
        · exact absurd h hrun
        · exact absurd hnone h
    · rw [if_neg hf, afterBurst_idle _ (by rw [hserved]; exact hwaiting)
        (by rw [hserved]; exact hhalf)]
      exact ⟨hread.1, hread.2.1, hread.2.2.1,
        fun h1 h2 h3 _ => absurd (hfinds.2 ⟨h1, h2, h3⟩) hf, fun _ => hread.2.2.2⟩

/-! ### Fields out of range (R83) -/

theorem noteStep_bad {s : State} {p : PageInWork} {rest : List NoteBurst} {i : Nat} {k : NoteKind}
    (apply : State → Note → State × Fate × Nat) (h : NoteAtTurn s p rest)
    (hk : noteKind s.pxm.memory p.noteBase = k) (hn : decodeNote s.pxm.memory p.noteBase = .inr i) :
    noteStep k apply s = afterBurst (finishNote s p (s, .bad, i)) := by
  obtain ⟨hturn, hwork, -⟩ := h
  simp only [noteStep, freeMemory_of_turn hturn, noteTurn_of_turn hturn, hwork, hk, noteEvent, hn,
    if_true]

/-- The command of a note's kind meets at its turn a note with a field out of range: BAD is all it does. -/
theorem exec_noteCommand_bad {s : State} {p : PageInWork} {rest : List NoteBurst} {i : Nat}
    (h : NoteAtTurn s p rest) (hn : decodeNote s.pxm.memory p.noteBase = .inr i) :
    exec (noteCommand (noteKind s.pxm.memory p.noteBase)) s =
      .next (afterBurst (finishNote s p (s, .bad, i))) := by
  generalize hk : noteKind s.pxm.memory p.noteBase = k
  cases k with
  | span => exact congrArg Host.Outcome.next (noteStep_bad spanOutcome h hk hn)
  | row => exact congrArg Host.Outcome.next (noteStep_bad rowOutcome h hk hn)
  | lane => exact congrArg Host.Outcome.next (noteStep_bad laneOutcome h hk hn)
  | conveyor => exact congrArg Host.Outcome.next (noteStep_bad conveyorOutcome h hk hn)
  | unknown => exact congrArg Host.Outcome.next (noteStep_bad badOutcome h hk hn)
  | job =>
    obtain ⟨hturn, hwork, -⟩ := h
    show Host.Outcome.next (jobNoteStep s) = _
    simp only [jobNoteStep, freeMemory_of_turn hturn, noteTurn_of_turn hturn, hwork, hk, if_true,
      jobNoteRead, hn]

/-- One check after another, the first that fails gives its index. -/
theorem firstFailing_cons (i : Nat) (ok : Bool) (checks : List (Nat × Bool)) :
    firstFailing ((i, ok) :: checks) = if ok = false then some i else firstFailing checks := by
  cases ok <;> rfl

theorem firstFailing_nil : firstFailing [] = none := rfl

theorem inRange_false {lo hi n : Nat} : inRange lo hi n = false ↔ n < lo ∨ hi < n := by
  rw [← Bool.not_eq_true, inRange_iff]
  omega

theorem maskOk_false {n : Nat} : maskOk n = false ↔ n = 0 ∨ 15 < n := by
  rw [maskOk, inRange_false, Nat.lt_one_iff]

theorem natWord_le (m : Memory) (a : Nat) : Memory.natWord m a ≤ 65535 :=
  Nat.le_of_lt_succ (Memory.readWord m a).isLt

/-- Settles O35: BAD is the end of the note's event with nothing applied, and each kind's fields are checked
in the order of its table. -/
theorem badFieldsAreNamedAndHaveNoEffect : Obligations.BadFieldsAreNamedAndHaveNoEffect := by
  refine ⟨fun s p rest i hturn hn => ⟨_, exec_noteCommand_bad hturn hn, ?_⟩, ?_⟩
  · exact noteDone_afterBurst .bad i hturn rfl rfl rfl
  · rintro m b w1 w2 w3 w4 w5 q rfl rfl rfl rfl rfl rfl
    refine ⟨fun h => ?_, fun h => ?_, fun h => ?_, fun h => ?_, fun h => ?_, fun h => ?_⟩
    · simp only [decodeNote, h]
    · have hlen : Memory.natWord m (b + 8) < 1 ∨ 65535 < Memory.natWord m (b + 8) ↔
          Memory.natWord m (b + 8) = 0 := by
        have := natWord_le m (b + 8)
        omega
      have hwidth : (inRange 1 5000 (Memory.natWord m (b + 12)) && decide (Memory.natWord m (b + 10) +
          Memory.natWord m (b + 12) ≤ 5000)) = false ↔ Memory.natWord m (b + 12) = 0 ∨
            5000 < Memory.natWord m (b + 10) + Memory.natWord m (b + 12) := by
        rw [Bool.and_eq_false_iff, inRange_false, decide_eq_false_iff_not]
        omega
      simp only [decodeNote, h, decodeSpan, firstFailing_cons, inRange_false, hlen, hwidth,
        Nat.not_lt_zero, false_or, firstFailing_nil]
      split_ifs <;> rfl
    · have hnumber : (Memory.readCount m (b + 4) != 0#32) = false ↔
          Memory.readCount m (b + 4) = 0#32 := by simp
      simp only [decodeNote, h, decodeRow, firstFailing_cons, maskOk_false, hnumber, firstFailing_nil]
      split_ifs <;> rfl
    · have htarget : (!(Memory.natWord m (b + 6)).testBit 3 ||
          inRange 2 9999 (Memory.natWord m (b + 8))) = false ↔
          (Memory.natWord m (b + 6)).testBit 3 = true ∧
            (Memory.natWord m (b + 8) < 2 ∨ 9999 < Memory.natWord m (b + 8)) := by
        rw [Bool.or_eq_false_iff, inRange_false, Bool.not_eq_false']
      simp only [decodeNote, h, decodeLane, firstFailing_cons, maskOk_false, htarget, firstFailing_nil]
      split_ifs <;> rfl
    · have haction : (Memory.natWord m (b + 6) == 1) = false ↔ Memory.natWord m (b + 6) ≠ 1 := by
        simp
      simp only [decodeNote, h, decodeConveyor, firstFailing_cons, inRange_false, Nat.not_lt_zero,
        false_or, haction, firstFailing_nil]
      split_ifs <;> rfl
    · simp only [decodeNote, h, decodeJob, firstFailing_cons, inRange_false, Nat.not_lt_zero,
        false_or, firstFailing_nil]
      split_ifs <;> rfl

end Sys2Proof.Machine
end

section
/-! Grants (R129, R133 to R135): whom a conveyor's turn grants, what it leaves of the lines, and the pass of
two turns. -/
namespace Sys2Proof.Machine

/-! ### The lane that is granted (R133) -/

/-- Of the lanes seen so far, the best is the waiting one of the lowest effective priority, the lowest lane
number between equals. -/
structure BestOf (m : MachineRecord) (w : Lanes (Option Nat)) (seen : List Lane)
    (best : Option (Lane × Nat)) : Prop where
  absent : best = none → ∀ j ∈ seen, effectivePriority m w j = none
  lane : ∀ k b, best = some (k, b) → k ∈ seen ∧ effectivePriority m w k = some b
  first : ∀ k b, best = some (k, b) → ∀ j ∈ seen, ∀ p, effectivePriority m w j = some p →
    b < p ∨ (b = p ∧ laneIndex k ≤ laneIndex j)

theorem BestOf.next {m : MachineRecord} {w : Lanes (Option Nat)} {seen : List Lane}
    {best : Option (Lane × Nat)} {l : Lane} (h : BestOf m w seen best)
    (hl : ∀ j ∈ seen, laneIndex j ≤ laneIndex l) :
    BestOf m w (seen ++ [l]) (betterLane best l (effectivePriority m w l)) := by
  obtain ⟨habsent, hlane, hfirst⟩ := h
  cases hp : effectivePriority m w l with
  | none =>
    have hkept : betterLane best l none = best := by
      unfold betterLane
      split <;> simp_all
    rw [hkept]
    refine ⟨fun e j hj => ?_, fun k b e => ?_, fun k b e j hj p hjp => ?_⟩
    · obtain hj | hj := List.mem_append.1 hj
      · exact habsent e j hj
      · rw [List.mem_singleton.1 hj, hp]
    · exact ⟨List.mem_append_left _ (hlane k b e).1, (hlane k b e).2⟩
    · obtain hj | hj := List.mem_append.1 hj
      · exact hfirst k b e j hj p hjp
      · rw [List.mem_singleton.1 hj, hp] at hjp
        cases hjp
  | some q =>
    cases hb : best with
    | none =>
      refine ⟨nofun, fun k b e => ?_, fun k b e j hj p hjp => ?_⟩
      · cases e
        exact ⟨by simp, hp⟩
      · cases e
        obtain hj | hj := List.mem_append.1 hj
        · rw [habsent hb j hj] at hjp
          cases hjp
        · rw [List.mem_singleton.1 hj, hp, Option.some.injEq] at hjp
          rw [List.mem_singleton.1 hj]
          exact .inr ⟨hjp, le_rfl⟩
    | some x =>
      obtain ⟨k0, b0⟩ := x
      obtain ⟨hk0, hp0⟩ := hlane k0 b0 hb
      by_cases hlt : q < b0
      · have hnew : betterLane (some (k0, b0)) l (some q) = some (l, q) := if_pos hlt
        rw [hnew]
        refine ⟨nofun, fun k b e => ?_, fun k b e j hj p hjp => ?_⟩
        · cases e
          exact ⟨by simp, hp⟩
        · cases e
          obtain hj | hj := List.mem_append.1 hj
          · have := hfirst k0 b0 hb j hj p hjp
            omega
          · rw [List.mem_singleton.1 hj, hp, Option.some.injEq] at hjp
            rw [List.mem_singleton.1 hj]
            exact .inr ⟨hjp, le_rfl⟩
      · have hold : betterLane (some (k0, b0)) l (some q) = some (k0, b0) := if_neg hlt
        rw [hold]
        refine ⟨nofun, fun k b e => ?_, fun k b e j hj p hjp => ?_⟩
        · cases e
          exact ⟨List.mem_append_left _ hk0, hp0⟩
        · cases e
          obtain hj | hj := List.mem_append.1 hj
          · exact hfirst k0 b0 hb j hj p hjp
          · rw [List.mem_singleton.1 hj, hp, Option.some.injEq] at hjp
            rw [List.mem_singleton.1 hj]
            have := hl k0 hk0
            omega

theorem bestOf_lanes (m : MachineRecord) (w : Lanes (Option Nat)) : BestOf m w allLanes
    (allLanes.foldl (fun best l => betterLane best l (effectivePriority m w l)) none) := by
  have h0 : BestOf m w [] none := ⟨fun _ _ => nofun, fun _ _ => nofun, fun _ _ => nofun⟩
  have h1 := h0.next (l := .l0) (by simp)
  have h2 := h1.next (l := .l1) (by simp [laneIndex])
  have h3 := h2.next (l := .l2) (by simp [laneIndex])
  exact h3.next (l := .l3) (by simp [laneIndex])

theorem mem_allLanes (l : Lane) : l ∈ allLanes := by
  cases l <;> decide

theorem laneIndex_injective {l k : Lane} (h : laneIndex l = laneIndex k) : l = k := by
  cases l <;> cases k <;> first | rfl | cases h

theorem effectivePriority_eq_some {m : MachineRecord} {w : Lanes (Option Nat)} {l : Lane} {p : Nat} :
    effectivePriority m w l = some p ↔ ∃ a, w.get l = some a ∧ priorityAt m l a = p := by
  simp [effectivePriority, priorityAt]

/-- A turn that picks no lane finds none that waits. -/
theorem winner_none {m : MachineRecord} {w : Lanes (Option Nat)} :
    winner m w = none ↔ ∀ l, w.get l = none := by
  have hbest := bestOf_lanes m w
  unfold winner
  rw [Option.map_eq_none_iff]
  refine ⟨fun h l => ?_, fun h => ?_⟩
  · simpa [effectivePriority] using hbest.absent h l (mem_allLanes l)
  · refine Option.eq_none_iff_forall_ne_some.2 fun x hx => ?_
    obtain ⟨-, hp⟩ := hbest.lane x.1 x.2 hx
    simp [effectivePriority, h] at hp

/-- The lane that a turn picks is the first to be granted (R133). -/
theorem winner_iff {m : MachineRecord} {s : State} {c : Conveyor} {l : Lane} :
    winner m (s.tka.waiting.get c) = some l ↔ FirstToBeGranted m s c l := by
  have hbest := bestOf_lanes m (s.tka.waiting.get c)
  have hfirst : ∀ k, winner m (s.tka.waiting.get c) = some k → FirstToBeGranted m s c k := by
    intro k hk
    obtain ⟨⟨k', b⟩, hx, rfl⟩ := Option.map_eq_some_iff.1 hk
    obtain ⟨a, ha, hp⟩ := effectivePriority_eq_some.1 (hbest.lane k' b hx).2
    refine ⟨a, ha, fun j b' hj => ?_⟩
    rw [hp]
    exact hbest.first k' b hx j (mem_allLanes j) _ (effectivePriority_eq_some.2 ⟨b', hj, rfl⟩)
  refine ⟨hfirst l, fun ⟨a, ha, hl⟩ => ?_⟩
  cases hw : winner m (s.tka.waiting.get c) with
  | none =>
    rw [winner_none.1 hw l] at ha
    cases ha
  | some k =>
    obtain ⟨b, hb, hk⟩ := hfirst k hw
    have h1 := hl k b hb
    have h2 := hk l a ha
    exact congrArg some (laneIndex_injective (by omega))

/-! ### A conveyor's turn (R133, R135) -/

theorem grantTurn_granted {m : MachineRecord} {s : State} {c : Conveyor} {l : Lane}
    (hm : s.rnc.record = some m) (hfree : s.tka.conveyors.get c = .available)
    (hroom : s.tka.reservations < 12) (hl : FirstToBeGranted m s c l) :
    grantTurn c s = grant m c l s := by
  have hroom : s.tka.reservations < Config.reservationCapacity := hroom
  simp only [grantTurn, hm, hfree, if_pos hroom, winner_iff.2 hl]

/-- A conveyor that is not AVAILABLE, or for which no reservation is free or no lane waits, is passed. -/
def Passed (s : State) (c : Conveyor) : Prop :=
  s.tka.conveyors.get c ≠ .available ∨ 12 ≤ s.tka.reservations ∨
    ∀ l, (s.tka.waiting.get c).get l = none

theorem grantTurn_passed {s : State} {c : Conveyor} (h : Passed s c) : grantTurn c s = s := by
  obtain e | ⟨m, l, -, hfree, hroom, hl, -⟩ := grantTurn_cases c s
  · exact e
  · have hroom : s.tka.reservations < 12 := hroom
    obtain h | h | h := h
    · exact absurd hfree h
    · omega
    · rw [winner_none.2 h] at hl
      cases hl

/-- A turn grants the first lane or passes the conveyor. -/
theorem grantTurn_either (c : Conveyor) {m : MachineRecord} {s : State}
    (hm : s.rnc.record = some m) :
    (∃ l, s.tka.conveyors.get c = .available ∧ s.tka.reservations < 12 ∧
      FirstToBeGranted m s c l ∧ grantTurn c s = grant m c l s) ∨
    (Passed s c ∧ grantTurn c s = s) := by
  obtain e | ⟨m', l, hm', hfree, hroom, hl, e⟩ := grantTurn_cases c s
  · by_cases h : Passed s c
    · exact .inr ⟨h, e⟩
    · unfold Passed at h
      push Not at h
      obtain ⟨hfree, hroom, k, hk⟩ := h
      cases hw : winner m (s.tka.waiting.get c) with
      | some l =>
        exact .inl ⟨l, hfree, hroom, winner_iff.1 hw,
          grantTurn_granted hm hfree hroom (winner_iff.1 hw)⟩
      | none => exact absurd (winner_none.1 hw k) hk
  · obtain rfl := Option.some.inj (hm.symm.trans hm')
    exact .inl ⟨l, hfree, hroom, winner_iff.1 hl, e⟩

/-- A grant changes the line of its lane alone, and of it the FRONT. -/
theorem grant_skc (m : MachineRecord) (c : Conveyor) (l k : Lane) (s : State) :
    (grant m c l s).skc.get k =
      if k = l then { s.skc.get l with line := pushFront c (s.skc.get l).line }
      else s.skc.get k := by
  simp only [grant, setConveyor, setWaiting, setLine, setLane, State.setTka_skc, State.setSkc_skc,
    Lanes.get_set]

/-! ### What grants leave of a line -/

theorem frontGranted_refl (line : List Stack) : FrontGranted line line := .inl rfl

/-- A FRONT is granted once: PUSHING, it is not CLOSED any more. -/
theorem frontGranted_trans {q q' q'' : List Stack} (h : FrontGranted q q') (k : FrontGranted q' q'') :
    FrontGranted q q'' := by
  obtain rfl | ⟨x, rest, c, rfl, hx, rfl⟩ := h
  · exact k
  · obtain rfl | ⟨y, rest', c', hy, hclosed, -⟩ := k
    · exact .inr ⟨x, rest, c, rfl, hx, rfl⟩
    · obtain ⟨rfl, -⟩ := List.cons.inj hy
      cases hclosed

/-- A turn grants a CLOSED FRONT, since a lane waits with its FRONT CLOSED (R129, R135). -/
theorem grantTurn_front {s : State} (h : ArbiterInv s) (c : Conveyor) (k : Lane) :
    FrontGranted (s.skc.get k).line ((grantTurn c s).skc.get k).line := by
  obtain e | ⟨m, l, hm, hfree, hlt, hwin, e⟩ := grantTurn_cases c s
  · rw [e]
    exact frontGranted_refl _
  · rw [e, grant_line]
    split
    next hk =>
      subst hk
      obtain ⟨⟨x, hx, hclosed⟩, -⟩ := h.waiting c k (winner_waits hwin)
      obtain ⟨rest, hrest⟩ := List.head?_eq_some_iff.1 hx
      rw [hrest]
      exact .inr ⟨x, rest, c, rfl, hclosed, rfl⟩
    next => exact frontGranted_refl _

theorem grantPass_front {s : State} (h : ArbiterInv s) (k : Lane) :
    FrontGranted (s.skc.get k).line ((grantPass s).skc.get k).line :=
  frontGranted_trans (grantTurn_front h .c0 k)
    (grantTurn_front (grantTurn_arbiter (J := False) .c0 s ⟨h, nofun⟩).1 .c1 k)

theorem passIfJoined_front {s : State} (h : ArbiterInv s) (before : State) (k : Lane) :
    FrontGranted (s.skc.get k).line ((passIfJoined before s).skc.get k).line := by
  unfold passIfJoined
  split
  · exact frontGranted_refl _
  · exact grantPass_front h k

/-! ### A pass of two turns (R133) -/

theorem otherConveyor_ne (c : Conveyor) : otherConveyor c ≠ c := by
  cases c <;> decide

theorem eq_otherConveyor {c d : Conveyor} (h : d ≠ c) : d = otherConveyor c := by
  cases c <;> cases d <;> first | rfl | exact absurd rfl h

/-- A conveyor's grant leaves the other conveyor and its waiting set. -/
theorem grant_other {m : MachineRecord} {c d : Conveyor} {l : Lane} {s : State} (h : d ≠ c) :
    (grant m c l s).tka.conveyors.get d = s.tka.conveyors.get d ∧
    (grant m c l s).tka.waiting.get d = s.tka.waiting.get d := by
  simp only [grant_tka, Conveyors.get_set, if_neg h, and_self]

/-- What a conveyor's grant makes of it. -/
theorem grant_self (m : MachineRecord) (c : Conveyor) (l : Lane) (s : State) :
    (grant m c l s).tka.conveyors.get c = .pushing l (m.conveyorTimeout * 100) ∧
    (∀ k, ((grant m c l s).tka.waiting.get c).get k =
      if k = l then none else (s.tka.waiting.get c).get k) ∧
    (grant m c l s).tka.reservations = s.tka.reservations + 1 := by
  simp only [grant_tka, Conveyors.get_set, if_true, Lanes.get_set, implies_true, and_self]

theorem push_of_pushing {s : State} {c : Conveyor} {l : Lane} {n : Nat}
    (h : s.tka.conveyors.get c = .pushing l n) : push s l = true := by
  cases c <;> simp_all [push, Conveyors.get, conveyorPushes]

/-- Being first to be granted depends on the conveyor's waiting set alone. -/
theorem firstToBeGranted_congr {m : MachineRecord} {s t : State} {c : Conveyor} {l : Lane}
    (h : t.tka.waiting.get c = s.tka.waiting.get c) :
    FirstToBeGranted m t c l ↔ FirstToBeGranted m s c l := by
  unfold FirstToBeGranted
  rw [h]

theorem firstToBeGranted_unique {m : MachineRecord} {s : State} {c : Conveyor} {l k : Lane}
    (hl : FirstToBeGranted m s c l) (hk : FirstToBeGranted m s c k) : l = k :=
  Option.some.inj ((winner_iff.2 hl).symm.trans (winner_iff.2 hk))

theorem pushingCount_grant {m : MachineRecord} {c : Conveyor} {l : Lane} {s : State}
    (h : s.tka.conveyors.get c = .available) :
    (grant m c l s).tka.reservations + pushingCount s.tka =
      s.tka.reservations + pushingCount (grant m c l s).tka := by
  have hcount := pushingCount_set s.tka c (.pushing l (m.conveyorTimeout * 100))
  rw [h] at hcount
  have hsame : pushingCount (grant m c l s).tka = pushingCount { s.tka with
      conveyors := s.tka.conveyors.set c (.pushing l (m.conveyorTimeout * 100)) } := by
    rw [grant_tka]
    rfl
  rw [hsame, (grant_self m c l s).2.2]
  simp only [ConveyorState.isPushing, Bool.toNat_false, Bool.toNat_true] at hcount ⊢
  change pushingCount _ + 0 = pushingCount s.tka + 1 at hcount
  omega

/-- A conveyor's turn leaves the other conveyor and its waiting set. -/
theorem grantTurn_other {c d : Conveyor} (s : State) (h : d ≠ c) :
    (grantTurn c s).tka.conveyors.get d = s.tka.conveyors.get d ∧
    (grantTurn c s).tka.waiting.get d = s.tka.waiting.get d := by
  obtain e | ⟨m, l, -, -, -, -, e⟩ := grantTurn_cases c s
  · rw [e]
    exact ⟨rfl, rfl⟩
  · rw [e]
    exact grant_other h

/-- A conveyor's turn takes a reservation for the stack it makes PUSHING. -/
theorem grantTurn_count (c : Conveyor) (s : State) :
    (grantTurn c s).tka.reservations + pushingCount s.tka =
      s.tka.reservations + pushingCount (grantTurn c s).tka := by
  obtain e | ⟨m, l, -, hfree, -, -, e⟩ := grantTurn_cases c s
  · rw [e]
  · rw [e]
    exact pushingCount_grant hfree

/-- A conveyor's turn changes the lane it makes PUSHING alone. -/
theorem grantTurn_lane_kept {c : Conveyor} {s : State} {l : Lane}
    (h : s.tka.conveyors.get c = .available →
      ∀ n, (grantTurn c s).tka.conveyors.get c ≠ .pushing l n) :
    (grantTurn c s).skc.get l = s.skc.get l := by
  obtain e | ⟨m, k, -, hfree, -, -, e⟩ := grantTurn_cases c s
  · rw [e]
  · rw [e] at h ⊢
    rw [grant_skc, if_neg]
    rintro rfl
    exact h hfree _ (grant_self m c l s).1

theorem grantTurn_rnc (c : Conveyor) (s : State) : (grantTurn c s).rnc = s.rnc := by simp

/-- A lane that is granted in the turn of the conveyor before, or not, has a FRONT with the rest of its line
as it was. -/
theorem grantTurn_cons {c : Conveyor} {s : State} {l : Lane} {x : Stack} {rest : List Stack}
    (h : (s.skc.get l).line = x :: rest) : ((grantTurn c s).skc.get l).line = x :: rest ∨
      (((s.tka.waiting.get c).get l).isSome = true ∧ ((grantTurn c s).skc.get l).line =
        { x with state := .pushing, conveyor := some c } :: rest) := by
  obtain e | ⟨m, k, -, -, -, hk, e⟩ := grantTurn_cases c s
  · rw [e]
    exact .inl h
  · rw [e, grant_line]
    split
    next hl =>
      subst hl
      exact .inr ⟨winner_waits hk, by rw [h]; rfl⟩
    next => exact .inl h

/-- A conveyor's turn changes of a lane its line alone. -/
theorem grantTurn_lineAlone (c : Conveyor) (s : State) (l : Lane) :
    (grantTurn c s).skc.get l = { s.skc.get l with line := ((grantTurn c s).skc.get l).line } := by
  obtain e | ⟨m, k, -, -, -, -, e⟩ := grantTurn_cases c s
  · rw [e]
  · rw [e, grant_skc]
    split
    next hl => rw [hl]
    next => rfl

/-- After the turn of the first conveyor a reservation is free for the other one's turn, or not (R133). -/
theorem freeAtTurn_other {m : MachineRecord} {first c : Conveyor} {s : State}
    (hm : s.rnc.record = some m) (hc : c ≠ first) :
    (grantTurn first s).tka.reservations < 12 ↔ FreeAtTurn first s c := by
  unfold FreeAtTurn
  obtain ⟨l, hfree, hroom, ⟨a, ha, -⟩, e⟩ | ⟨hpass, e⟩ := grantTurn_either first hm
  · have hnone : ¬∀ k, (s.tka.waiting.get first).get k = none := fun h => by
      rw [h l] at ha
      cases ha
    rw [e, (grant_self m first l s).2.2]
    simp only [hc, hfree, hnone, ne_eq, not_true_eq_false, or_self, imp_false]
    omega
  · rw [e]
    refine ⟨fun h => ⟨h, fun hlast => .inr (hpass.imp_right fun h => h.resolve_left ?_)⟩, And.left⟩
    omega

/-- The turns of a conveyor and of the other one after it make a grant pass. -/
theorem grantTurns_pass {m : MachineRecord} (first : Conveyor) {s : State}
    (hm : s.rnc.record = some m) :
    GrantPass m first s (grantTurn (otherConveyor first) (grantTurn first s)) := by
  have hne := otherConveyor_ne first
  have hnot : ∀ c, c ≠ first → c = otherConveyor first := fun c => eq_otherConveyor
  generalize otherConveyor first = other at *
  obtain ⟨hconveyor, hwaiting⟩ := grantTurn_other (c := first) s hne
  have hm1 : (grantTurn first s).rnc.record = some m := by rw [grantTurn_rnc, hm]
  have hkept := grantTurn_other (c := other) (grantTurn first s) hne.symm
  have hroom := freeAtTurn_other hm hne
  generalize hu : grantTurn first s = u at *
  have hcount := grantTurn_count other u
  constructor
  case granted =>
    intro c l hfree hturn hl
    by_cases hc : c = first
    · subst hc
      have he : u = grant m c l s := hu ▸ grantTurn_granted hm hfree hturn.1 hl
      have hself := grant_self m c l s
      rw [← he] at hself
      refine ⟨hkept.1.trans hself.1, push_of_pushing (hkept.1.trans hself.1), fun k => ?_,
        fun x rest hx => ?_⟩
      · rw [hkept.2]
        exact hself.2.1 k
      · have hline : (u.skc.get l).line = { x with state := .pushing, conveyor := some c } :: rest := by
          rw [he, grant_line, if_pos rfl, hx]
          rfl
        obtain e | ⟨hwaits, e⟩ := grantTurn_cons (c := other) hline
        · exact ⟨c, e, fun _ => rfl⟩
        · refine ⟨other, e, fun hno => ?_⟩
          rw [hwaiting, hno other hne] at hwaits
          cases hwaits
    · obtain rfl := hnot c hc
      have he : grantTurn c u = grant m c l u := grantTurn_granted hm1 (hconveyor.trans hfree)
        (hroom.2 hturn) ((firstToBeGranted_congr hwaiting).2 hl)
      have hself := grant_self m c l u
      rw [he]
      refine ⟨hself.1, push_of_pushing hself.1, fun k => ?_, fun x rest hx => ?_⟩
      · rw [hself.2.1, hwaiting]
      · refine ⟨c, ?_, fun _ => rfl⟩
        rw [grant_line, if_pos rfl]
        have hfirst := grantTurn_cons (c := first) hx
        rw [hu] at hfirst
        obtain e | ⟨-, e⟩ := hfirst <;> rw [e] <;> rfl
  case passed =>
    intro c hpass
    by_cases hc : c = first
    · subst hc
      have he : u = s := by
        rw [← hu]
        refine grantTurn_passed (hpass.imp_right fun h => h.imp_left fun h => ?_)
        by_contra hlt
        exact h ⟨Nat.lt_of_not_le hlt, fun _ => .inl rfl⟩
      rw [he] at hkept
      rw [he]
      exact hkept
    · obtain rfl := hnot c hc
      have he : grantTurn c u = u := by
        refine grantTurn_passed ?_
        unfold Passed
        rw [hconveyor, hwaiting]
        refine hpass.imp_right fun h => h.imp_left fun h => ?_
        by_contra hlt
        exact h (hroom.1 (Nat.lt_of_not_le hlt))
      rw [he]
      exact ⟨hconveyor, hwaiting⟩
  case lanes =>
    intro l h
    have hfirst : u.skc.get l = s.skc.get l := by
      rw [← hu]
      refine grantTurn_lane_kept fun hfree n e => h first n hfree ?_
      rw [hkept.1, ← hu]
      exact e
    rw [← hfirst]
    exact grantTurn_lane_kept fun hfree n e => h other n (hconveyor.symm.trans hfree) e
  case lines =>
    intro l
    have hfirst := grantTurn_lineAlone first s l
    rw [hu] at hfirst
    rw [grantTurn_lineAlone other u l, hfirst]
  case reservations =>
    have h1 := grantTurn_count first s
    rw [hu] at h1
    omega

end Sys2Proof.Machine
end

section
/-! Flaps and count eyes (R110, R113, R114, R121). -/
namespace Sys2Proof.Machine

/-! ### The freeing test leaves the lines and the numbers (R150) -/

@[simp] theorem freeingTest_line (s : State) (k : Lane) :
    ((freeingTest s).skc.get k).line = (s.skc.get k).line := by
  unfold freeingTest
  repeat' split
  · rfl
  · simp [freePrevious]
  · rfl

theorem freeingTest_numbers (s : State) : trackNumbers (freeingTest s) = trackNumbers s := by
  show numbersOf _ = numbersOf _
  rw [numbersOf_cuts, numbersOf_cuts, (freeingTest_knife s).cuts]

theorem freeingTest_none {s : State} (h : s.jbc.previous = none) : freeingTest s = s := by
  simp only [freeingTest, h]

/-! ### A resolution (R113, R114, R121) -/

/-- A stack after a grant that it may have had: itself, or PUSHING where it was CLOSED. -/
def MayPush (x y : Stack) : Prop :=
  y = x ∨ (x.state = .closed ∧ ∃ c, y = { x with state := .pushing, conveyor := some c })

theorem mayPush_of_granted {q q' : List Stack} (h : FrontGranted q q') : List.Forall₂ MayPush q q' := by
  obtain rfl | ⟨x, rest, c, rfl, hx, rfl⟩ := h
  · exact List.forall₂_same.2 fun x _ => .inl rfl
  · exact .cons (.inr ⟨hx, c, rfl⟩) (List.forall₂_same.2 fun x _ => .inl rfl)

theorem countArrival_eq (b : Bool) (x : Stack) : countArrival b x = { x with
    arrived := if b = true then x.arrived + 1 else x.arrived
    missing := if b = false then x.missing + 1 else x.missing } := by
  cases b <;> rfl

/-- A stack of the line after a resolution of a label of the stack with an id, before any grant. -/
theorem counted_of_resolved {confirmed : Bool} {id left : Nat} {x z : Stack}
    (h : MayPush (if x.id = id then settleStack left (countArrival confirmed x) else x) z) :
    Counted confirmed id left x z := by
  by_cases hid : x.id = id
  · rw [if_pos hid, countArrival_eq] at h
    unfold settleStack at h
    by_cases hsettle : x.state = .completing ∧ left = 0
    · rw [if_pos (by simpa using hsettle)] at h
      obtain rfl | ⟨-, c, rfl⟩ := h
      all_goals constructor <;> simp_all
    · rw [if_neg (by simpa using hsettle)] at h
      obtain rfl | ⟨hclosed, c, rfl⟩ := h
      all_goals constructor <;> simp_all
  · rw [if_neg hid] at h
    obtain rfl | ⟨hclosed, c, rfl⟩ := h
    all_goals constructor <;> simp_all

/-- What a resolution of the oldest arrival entry does: the entry leaves the list, its stack counts it, the
lane may join and be granted, and PREVIOUS may be freed (R113, R114, R121). -/
structure OldestResolved (confirmed : Bool) (l : Lane) (a : Arrival) (rest : List Arrival)
    (s t : State) : Prop where
  arrivals : t.lnd = s.lnd.set l { s.lnd.get l with arrivals := rest }
  line : List.Forall₂ (Counted confirmed a.stackId (rest.countP fun b => b.stackId == a.stackId))
    (s.skc.get l).line (t.skc.get l).line
  kept : t.mkt = s.mkt ∧ t.knt = s.knt ∧ t.rnc = s.rnc ∧ t.ntp = s.ntp ∧
    trackNumbers t = trackNumbers s
  unfreed : s.jbc.previous = none → t.jbc = s.jbc ∧ t.rot = s.rot ∧ t.rpw = s.rpw

theorem resolveOldest_resolved {l : Lane} {a : Arrival} {rest : List Arrival} {s : State}
    (b : Bool) (ha : (s.lnd.get l).arrivals = a :: rest) (h : ArbiterInv s) :
    OldestResolved b l a rest s (resolveOldest l b s) := by
  have heq : resolveOldest l b s =
      freeingTest (passIfJoined s (resolve l a.stackId b (setArrivals l rest s))) := by
    simp only [resolveOldest, ha, afterResolution]
  rw [heq]
  generalize hu : resolve l a.stackId b (setArrivals l rest s) = u
  have harbiter : ArbiterInv u := by
    have hset : ArbiterHeld False (setArrivals l rest s) :=
      ⟨{ h with }, nofun⟩
    rw [← hu]
    exact (resolve_arbiter _ l a.stackId b hset).1
  have hleft : outstanding l a.stackId (setArrivals l rest s) =
      rest.countP fun b => b.stackId == a.stackId := by
    simp [outstanding, setArrivals, setDecider_get]
  have hline : (u.skc.get l).line = (s.skc.get l).line.map fun x =>
      if x.id = a.stackId then settleStack (rest.countP fun b => b.stackId == a.stackId)
        (countArrival b x) else x := by
    rw [← hu, ← hleft, resolve, (joinWaiting_keeps _ _).2.2.2.2.2.2.1, setLine_line, if_pos rfl]
    rfl
  constructor
  case arrivals => simp [← hu, setArrivals, setDecider]
  case line =>
    rw [freeingTest_line]
    have hgranted := mayPush_of_granted (passIfJoined_front harbiter s l)
    rw [hline, List.forall₂_map_left_iff] at hgranted
    exact hgranted.imp fun x z => counted_of_resolved
  case kept =>
    refine ⟨by simp [← hu, setArrivals], by simp [← hu, setArrivals], by simp [← hu, setArrivals],
      by simp [← hu, setArrivals], ?_⟩
    rw [freeingTest_numbers]
    simp [trackNumbers, ← hu, setArrivals]
  case unfreed =>
    intro hnone
    rw [freeingTest_none (by simpa [← hu, setArrivals] using hnone)]
    simp [← hu, setArrivals]

/-- Settles O46: the pass end and the passed window are tests of the front, each with its one effect. -/
theorem passEndsAndPassedWindows : Obligations.PassEndsAndPassedWindows := by
  refine ⟨fun s m l f hm hflap => ?_, fun s l a rest ha harbiter => ⟨fun h => ?_, fun h => ?_⟩⟩
  · have hexec : exec (.passEnd l) s = .next (passEndTest l s) := rfl
    have hdue : passEndDue l s =
        atOrBeyond s.trc.front (retreat (advance f (m.kFlap.get l)) (s.lnd.get l).flapLead) := by
      simp only [passEndDue, hm, hflap, passEndPoint]
    rw [hexec]
    refine ⟨fun h => ?_, fun h => ?_⟩
    · rw [passEndTest, if_pos (hdue.trans h)]
      rfl
    · rw [passEndTest, if_neg (by simpa [hdue, before] using h)]
  · have hdue : windowDue l s = false := by simp only [windowDue, ha, h]
    show Host.Outcome.next (windowTest l s) = _
    rw [windowTest, if_neg (by simp [hdue])]
  · have hdue : windowDue l s = true := by simp only [windowDue, ha, h]
    have hexec : exec (.windowPassed l) s = .next (resolveOldest l false s) := by
      show Host.Outcome.next (windowTest l s) = _
      rw [windowTest, if_pos hdue]
    obtain ⟨harrivals, hline, ⟨hmkt, hknt, hrnc, hntp, hnumbers⟩, hunfreed⟩ :=
      resolveOldest_resolved false ha harbiter
    exact ⟨_, hexec, resolveOldest_reacts l false s, harrivals, hline, hmkt, hknt, hrnc, hntp,
      hnumbers, hunfreed⟩

/-- Settles O47: an edge is matched in a run with the web at the front, against the oldest entry's window. -/
theorem eyeConfirmsOrCountsAnExtra : Obligations.EyeConfirmsOrCountsAnExtra := by
  intro s l
  refine ⟨fun h => ?_, fun hrun hfront => ?_⟩
  · have hidle : (running s && atFront s) = false := by
      obtain (h | h) | h := h
      · simp [running, h]
      · simp [running, h]
      · simp [atFront, h]
    show execEye l s = _
    rw [execEye, if_neg (by simp [hidle])]
  · have hexec : exec (.eye l) s = .next (matchEye l s) := by
      show execEye l s = _
      rw [execEye, if_pos]
      rw [Bool.and_eq_true, running_of_faultsRaised]
      exact ⟨hrun, by simp [atFront, hfront]⟩
    rw [hexec]
    refine ⟨fun a rest ha harbiter hlow hhigh => ?_, fun a rest ha hout => ?_, fun x ha hx => ?_,
      fun ha hline => ?_⟩
    · have hmatch : matchEye l s = resolveOldest l true s := by
        simp only [matchEye, ha, withinRange, hlow, hhigh, Bool.and_self, if_true]
      rw [hmatch]
      obtain ⟨harrivals, hline, ⟨hmkt, hknt, hrnc, hntp, hnumbers⟩, hunfreed⟩ :=
        resolveOldest_resolved true ha harbiter
      exact ⟨_, rfl, resolveOldest_reacts l true s, harrivals, hline, hmkt, hknt, hrnc, hntp,
        hnumbers, hunfreed⟩
    · have hwithin : withinRange s.trc.front a.low a.high = false := by
        rw [withinRange, Bool.and_eq_false_iff]
        simpa [before] using hout
      simp only [matchEye, ha, hwithin]
      rfl
    · simp only [matchEye, ha, extraLast, hx]
      rfl
    · simp only [matchEye, ha, extraLast, hline]
      have hkept : s.skc.set l { s.skc.get l with line := [] } = s.skc := by
        rw [← hline]
        exact Lanes.set_get_self _ _
      exact congrArg (fun x => Host.Outcome.next { s with skc := x }) hkept

end Sys2Proof.Machine
end

section
/-! Aging ticks, deliveries and removals (R132 to R137). -/
namespace Sys2Proof.Machine

/-! ### Grant passes compared -/

/-- A grant pass is one of the arbiter and the lines alone. -/
theorem grantPass_congr {m : MachineRecord} {first : Conveyor} {s s' t t' : State}
    (h : GrantPass m first s t) (hs : s'.tka = s.tka ∧ s'.skc = s.skc)
    (ht : t'.tka = t.tka ∧ t'.skc = t.skc) : GrantPass m first s' t' := by
  obtain ⟨trc, mkt, rot, knt, ntp, lnd, skc, tka, jbc, rnc, pxm, rpw, choices, pending⟩ := s'
  obtain ⟨trc', mkt', rot', knt', ntp', lnd', skc', tka', jbc', rnc', pxm', rpw', choices',
    pending'⟩ := t'
  obtain ⟨rfl, rfl⟩ := hs
  obtain ⟨rfl, rfl⟩ := ht
  exact ⟨fun c l hfree hturn hl => { h.granted c l hfree hturn hl with }, h.passed, h.lanes, h.lines,
    h.reservations⟩

theorem grantPass_turns {m : MachineRecord} {s : State} (hm : s.rnc.record = some m) :
    GrantPass m .c0 s (grantPass s) := grantTurns_pass .c0 hm

theorem grantTurn_reservations (c : Conveyor) (s : State) :
    s.tka.reservations ≤ (grantTurn c s).tka.reservations := by
  obtain e | ⟨m, l, -, -, -, -, e⟩ := grantTurn_cases c s
  · rw [e]
  · rw [e, (grant_self m c l s).2.2]
    exact Nat.le_succ _

/-- A conveyor that is passed is passed after the other one's turn too. -/
theorem Passed.turn {s : State} {c d : Conveyor} (h : Passed s c) (hd : d ≠ c) :
    Passed (grantTurn d s) c := by
  obtain ⟨hconveyor, hwaiting⟩ := grantTurn_other (c := d) s hd.symm
  unfold Passed
  rw [hconveyor, hwaiting]
  exact h.imp_right fun h => h.imp_left fun h => h.trans (grantTurn_reservations d s)

/-- After its turn a conveyor is passed. -/
theorem passed_turn (c : Conveyor) {m : MachineRecord} {s : State} (hm : s.rnc.record = some m) :
    Passed (grantTurn c s) c := by
  obtain ⟨l, -, -, -, e⟩ | ⟨h, e⟩ := grantTurn_either c hm
  · rw [e]
    refine .inl ?_
    rw [(grant_self m c l s).1]
    nofun
  · rw [e]
    exact h

/-- A pass after the turn of one conveyor is that turn and the other one's (R129, R136). -/
theorem grantPass_turn (c : Conveyor) {m : MachineRecord} {s : State} (hm : s.rnc.record = some m) :
    grantPass (grantTurn c s) = grantTurn (otherConveyor c) (grantTurn c s) := by
  have hpassed := passed_turn c hm
  cases c with
  | c0 => exact congrArg (grantTurn .c1) (grantTurn_passed hpassed)
  | c1 => exact grantTurn_passed (hpassed.turn (by decide))

/-- A pass with a conveyor that is not AVAILABLE is the other one's turn. -/
theorem grantPass_other {c : Conveyor} {s : State} (h : s.tka.conveyors.get c ≠ .available) :
    grantPass s = grantTurn (otherConveyor c) s := by
  have hpassed : Passed s c := .inl h
  cases c with
  | c0 => exact congrArg (grantTurn .c1) (grantTurn_passed hpassed)
  | c1 => exact grantTurn_passed (hpassed.turn (by decide))

theorem grantPass_idle {s : State} (h : ∀ c, Passed s c) : grantPass s = s := by
  unfold grantPass
  rw [grantTurn_passed (h .c0), grantTurn_passed (h .c1)]

/-- Grants leave the stacks of every line, by their ids. -/
theorem grantTurn_ids (c : Conveyor) (s : State) (k : Lane) :
    (((grantTurn c s).skc.get k).line.map fun y => y.id) = (s.skc.get k).line.map fun y => y.id := by
  obtain e | ⟨m, l, -, -, -, -, e⟩ := grantTurn_cases c s
  · rw [e]
  · rw [e, grant_line]
    split
    next hk =>
      subst hk
      cases (s.skc.get k).line <;> rfl
    next => rfl

theorem grantPass_ids (s : State) (k : Lane) :
    (((grantPass s).skc.get k).line.map fun y => y.id) = (s.skc.get k).line.map fun y => y.id :=
  (grantTurn_ids .c1 _ k).trans (grantTurn_ids .c0 s k)

/-! ### The aging tick (R134) -/

/-- Settles O49: the tick raises the ages and runs the pass of conveyor 0 and then conveyor 1. -/
theorem agingTickGrantsTheFirstWaitingLane : Obligations.AgingTickGrantsTheFirstWaitingLane := by
  intro s m hreset hm hages
  generalize hv : s.setTka { s.tka with
    waiting := ⟨raiseAges s.tka.waiting.c0, raiseAges s.tka.waiting.c1⟩ } = v
  have hexec : exec .agingTick s = .next (grantPass v) := by
    show execAgingTick s = _
    rw [execAgingTick, if_neg (by simp [hreset]), hv]
  have hwaiting : ∀ c l, (v.tka.waiting.get c).get l =
      ((s.tka.waiting.get c).get l).map fun a => min 7 (a + 1) := by
    intro c l
    have hraised : (v.tka.waiting.get c).get l =
        ((s.tka.waiting.get c).get l).map fun a => riseTo 7 a := by
      rw [← hv]
      cases c <;> simp [raiseAges, Conveyors.get]
    rw [hraised]
    simp only [riseTo_eq]
  refine ⟨_, v, hexec, ?_, ?_, hwaiting, grantPass_turns (by rw [← hv]; exact hm), fun hfull => ?_, ?_⟩
  · refine ReactionFrame.trans ?_ (grantPass_reacts v)
    rw [← hv]
    exact setTka_reacts _ s
  · rw [← hv]
    rfl
  · rw [grantPass_idle fun c => .inr (.inl (by rw [← hv]; exact hfull)), ← hv]
    exact ⟨rfl, rfl, rfl⟩
  · rw [← hv]
    simp

end Sys2Proof.Machine
end

section
/-! Deliveries and removals (R129, R131, R132, R136, R137). -/
namespace Sys2Proof.Machine

/-! ### The end test (R161) -/

theorem linesEmpty_iff (s : State) : linesEmpty s = true ↔ ∀ l, (s.skc.get l).line = [] := by
  simp only [linesEmpty, List.all_eq_true, List.isEmpty_iff]
  exact ⟨fun h l => h l (mem_allLanes l), fun h l _ => h l⟩

theorem laneSet_nonempty_iff (x : LaneSet) : LaneSet.nonempty x = true ↔ ∃ l, x.get l = true := by
  simp only [LaneSet.nonempty, Bool.or_eq_true]
  refine ⟨fun h => ?_, fun ⟨l, h⟩ => by cases l <;> simp_all [Lanes.get]⟩
  obtain ((h | h) | h) | h := h
  · exact ⟨.l0, h⟩
  · exact ⟨.l1, h⟩
  · exact ⟨.l2, h⟩
  · exact ⟨.l3, h⟩

theorem undecidedCount_iff (s : State) :
    undecidedCount s = 0 ↔ ∀ r ∈ s.rot.track, fullyDecided r = true := by
  simp [undecidedCount, List.countP_eq_zero]

/-- DRAIN ends when nothing is left that it waits for (R161). -/
theorem drainOver_iff (s : State) : drainOver s = true ↔ s.rnc.runState = .drain ∧
    (∀ r ∈ s.rot.track, fullyDecided r = true) ∧ (∀ l, s.rnc.stopPending.get l = false) ∧
    ∀ l, (s.skc.get l).line = [] := by
  have hpending : LaneSet.nonempty s.rnc.stopPending = false ↔
      ∀ l, s.rnc.stopPending.get l = false := by
    rw [← Bool.not_eq_true, laneSet_nonempty_iff]
    simp
  simp only [drainOver, Bool.and_eq_true, beq_iff_eq, Bool.not_eq_true', undecidedCount_iff,
    hpending, linesEmpty_iff, and_assoc]

theorem endTest_over {s : State} (h : drainOver s = true) : endTest s = endDrain s := if_pos h

theorem endTest_waits {s : State} (h : drainOver s = false) : endTest s = s :=
  if_neg (by rw [h]; exact Bool.false_ne_true)

/-! ### The departure of a FRONT (R129, R131) -/

/-- The shelf limit of a lane once a FRONT has gone, with the rest of its line: it is set again when the
shelf total has fallen (R131). -/
def limitGone (l : Lane) (x : Stack) (rest : List Stack) (s : State) : Nat :=
  if shelfTotal rest < shelfTotal (x :: rest) then
    match shelfGoal l s with
    | some g => max g (shelfTotal rest)
    | none => (s.skc.get l).shelfLimit
  else (s.skc.get l).shelfLimit

theorem lanes_set_set {α : Type} (x : Lanes α) (l : Lane) (v w : α) :
    (x.set l v).set l w = x.set l w := by
  cases l <;> rfl

theorem setLane_setLane (l : Lane) (x y : SkcLane) (s : State) :
    setLane l y (setLane l x s) = setLane l y s := by
  unfold setLane
  rw [State.setSkc_skc, lanes_set_set]
  rfl

theorem lineGone_eq (l : Lane) (x : Stack) (rest : List Stack) (s : State) :
    (if shelfTotal rest < shelfTotal (x :: rest) then setShelfLimit l (setLine l rest s)
      else setLine l rest s) =
      setLane l { s.skc.get l with line := rest, shelfLimit := limitGone l x rest s } s := by
  unfold limitGone
  split
  · have hgoal : shelfGoal l (setLine l rest s) = shelfGoal l s := rfl
    have hget : (setLine l rest s).skc.get l = { s.skc.get l with line := rest } :=
      Lanes.get_set_self _ _ _
    unfold setShelfLimit
    rw [hgoal, hget]
    cases shelfGoal l s with
    | some g => exact setLane_setLane l _ _ s
    | none => rfl
  · rfl

theorem limitGone_queueRecord (l : Lane) (x : Stack) (rest : List Stack) (r : Record) (s : State) :
    limitGone l x rest (queueRecord r s) = limitGone l x rest s := by
  simp only [limitGone, shelfGoal, queueRecord_keeps]

section
variable {s : State} {c : Conveyor} {l : Lane} {x : Stack} {rest : List Stack}
  (hline : (s.skc.get l).line = x :: rest)
include hline

theorem handOver_eq (b : Bool) : handOver l b s = queueRecord (.stack l x b) s := by
  simp only [handOver, hline]

/-- The going of a FRONT changes the lane's line and limit, the conveyor, and the queue (R136, R137). -/
theorem frontGone_eq (n : ConveyorState) (b : Bool) :
    frontGone c n l b s = { queueRecord (.stack l x b) s with
      skc := s.skc.set l { s.skc.get l with line := rest, shelfLimit := limitGone l x rest s },
      tka := { s.tka with conveyors := s.tka.conveyors.set c n } } := by
  have hskc := (queueRecord_keeps (.stack l x b) s).2.2.2.2.2.2.1
  have htka := (queueRecord_keeps (.stack l x b) s).2.2.2.2.2.2.2.1
  unfold frontGone
  dsimp only
  rw [handOver_eq hline, hskc, hline, List.tail_cons, lineGone_eq, limitGone_queueRecord, hskc]
  unfold setLane
  rw [hskc]
  unfold setConveyor
  rw [State.setSkc_tka, htka]
  rfl

end

/-- The lane whose FRONT is CLOSED joins; with `rest` the line it joins with, and none waiting before. -/
theorem joinWaiting_waiting {l : Lane} {m : MachineRecord} {s : State} (hm : s.rnc.record = some m)
    (hnone : (s.tka.waiting.get (m.conveyor l)).get l = none) (d : Conveyor) (k : Lane) :
    ((joinWaiting l s).tka.waiting.get d).get k =
      if k = l ∧ frontClosed (s.skc.get l).line = true ∧ d = m.conveyor l then some 0
      else (s.tka.waiting.get d).get k := by
  simp only [joinWaiting, hm, hnone, Option.isNone_none, Bool.and_true]
  by_cases hclosed : frontClosed (s.skc.get l).line = true
  · rw [if_pos hclosed]
    by_cases hd : d = m.conveyor l
    · subst hd
      by_cases hk : k = l <;> simp [setWaiting, Lanes.get_set, hk, hclosed]
    · simp [setWaiting, Conveyors.get_set, hd]
  · rw [if_neg hclosed]
    simp [hclosed]

/-- What stands once a FRONT has gone and its lane has joined where it is to, before any grant. -/
def departure (c : Conveyor) (n : ConveyorState) (l : Lane) (b : Bool) (s : State) : State :=
  if frontClosed (s.skc.get l).line.tail then joinWaiting l (frontGone c n l b s)
  else frontGone c n l b s

theorem tka_ext {x y : Tka} (hc : x.conveyors = y.conveyors)
    (hw : ∀ d k, (x.waiting.get d).get k = (y.waiting.get d).get k)
    (hr : x.reservations = y.reservations) : x = y := by
  obtain ⟨conveyors, waiting, reservations⟩ := x
  obtain ⟨conveyors', waiting', reservations'⟩ := y
  obtain rfl : waiting = waiting' := Conveyors.ext_get fun d => Lanes.ext_get (hw d)
  simp only at hc hr
  rw [hc, hr]

/-- The state described by `Departed` has the arbiter and the lines of the departure. -/
theorem departure_of_departed {m : MachineRecord} {c : Conveyor} {n : ConveyorState} {l : Lane}
    {x : Stack} {rest : List Stack} {s v : State} {k : Nat} (b : Bool) (hm : s.rnc.record = some m)
    (harbiter : ArbiterInv s) (hc : s.tka.conveyors.get c = .pushing l k)
    (hline : (s.skc.get l).line = x :: rest) (h : Departed m c n l x rest s v) :
    v.tka = (departure c n l b s).tka ∧ v.skc = (departure c n l b s).skc := by
  obtain ⟨hconveyors, hreservations, hwaiting, hlimit, hlane, hothers⟩ := h
  have hnone : ∀ d, (s.tka.waiting.get d).get l = none := by
    intro d
    by_contra hw
    obtain ⟨⟨y, hy, hclosed⟩, -⟩ := harbiter.waiting d l (Option.isSome_iff_ne_none.2 hw)
    obtain ⟨z, hz, hpushing, -⟩ := harbiter.pushing c l k hc
    rw [Option.some.inj (hy.symm.trans hz), hpushing] at hclosed
    cases hclosed
  have hgone := frontGone_eq (c := c) hline n b
  have hgoneLine : ((frontGone c n l b s).skc.get l).line = rest := by
    rw [hgone]
    simp
  have hjoined : (departure c n l b s).skc = (frontGone c n l b s).skc ∧
      (departure c n l b s).tka.conveyors = (frontGone c n l b s).tka.conveyors ∧
      (departure c n l b s).tka.reservations = (frontGone c n l b s).tka.reservations := by
    unfold departure
    split <;> simp
  have hwaits : ∀ d j, ((departure c n l b s).tka.waiting.get d).get j =
      if j = l ∧ frontClosed rest = true ∧ d = m.conveyor l then some 0
      else (s.tka.waiting.get d).get j := by
    intro d j
    have hsame : (frontGone c n l b s).tka.waiting = s.tka.waiting := by rw [hgone]
    unfold departure
    rw [hline, List.tail_cons]
    split
    next hclosed =>
      rw [joinWaiting_waiting (m := m) (by rw [hgone]; simpa using hm)
        (by rw [hsame]; exact hnone _), hgoneLine, hsame]
    next hopen => rw [hsame, if_neg fun h => hopen h.2.1]
  refine ⟨tka_ext ?_ (fun d j => ?_) ?_, Lanes.ext_get fun j => ?_⟩
  · rw [hconveyors, hjoined.2.1, hgone]
  · rw [hwaiting, hwaits]
  · rw [hreservations, hjoined.2.2, hgone]
  · rw [hjoined.1, hgone]
    by_cases hj : j = l
    · subst hj
      rw [hlane, hlimit, Lanes.get_set_self]
      rfl
    · rw [hothers j hj, Lanes.get_set_ne _ _ hj]

/-! ### The end of a push (R136, R137) -/

section
variable {s : State} {c : Conveyor} {l : Lane} {k : Nat} {x : Stack} {rest : List Stack}
  (hc : s.tka.conveyors.get c = .pushing l k) (hline : (s.skc.get l).line = x :: rest)
include hc hline

/-- The departure of the FRONT, with the other conveyor's turn where the lane joins. -/
theorem departFront_departure (n : ConveyorState) (b : Bool) :
    setConveyor c n (departFront l (handOver l b s)) =
      if frontClosed rest then grantTurn (otherConveyor c) (departure c n l b s)
      else departure c n l b s := by
  rw [departed_eq hc, departure, hline, List.tail_cons]
  split <;> rfl

omit hc in
/-- What a departure leaves of the rest, with what was handed over. -/
theorem departFront_keeps_blocks (n : ConveyorState) (b : Bool) :
    let v := setConveyor c n (departFront l (handOver l b s))
    v.rpw = { s.rpw with queue := s.rpw.queue ++ [.stack l x b] } ∧ v.rot = s.rot ∧ v.mkt = s.mkt ∧
    v.knt = s.knt ∧ v.ntp = s.ntp ∧ v.lnd = s.lnd ∧ v.jbc = s.jbc ∧ v.rnc = s.rnc ∧
    v.trc = s.trc := by
  have hqueue := queueRecord_joins (r := .stack l x b) (s := s) (.inl rfl)
  simp [setConveyor, handOver_eq hline, hqueue]

theorem departure_ids (n : ConveyorState) (b : Bool) (j : Lane) :
    ((setConveyor c n (departFront l (handOver l b s))).skc.get j).line.map (fun y => y.id) =
      if j = l then rest.map (fun y => y.id) else (s.skc.get j).line.map fun y => y.id := by
  have hgone : ((departure c n l b s).skc.get j).line =
      if j = l then rest else (s.skc.get j).line := by
    have hskc : (departure c n l b s).skc = (frontGone c n l b s).skc := by
      unfold departure
      split <;> simp
    rw [hskc, frontGone_eq hline]
    by_cases hj : j = l
    · subst hj
      simp
    · rw [if_neg hj]
      show ((s.skc.set l _).get j).line = _
      rw [Lanes.get_set_ne _ _ hj]
  have hmap : ((departure c n l b s).skc.get j).line.map (fun y => y.id) =
      if j = l then rest.map (fun y => y.id) else (s.skc.get j).line.map fun y => y.id := by
    rw [hgone]
    split <;> rfl
  rw [departFront_departure hc hline, ← hmap]
  split
  · exact grantTurn_ids _ _ j
  · rfl

end

/-- With something left to wait for, the end test does nothing after stacks that stand by their ids. -/
theorem endTest_left {s t : State} {l : Lane} {rest : List Stack}
    (hleft : s.rnc.runState = .drain → (∃ r ∈ s.rot.track, fullyDecided r = false) ∨
      (∃ k, s.rnc.stopPending.get k = true) ∨ rest ≠ [] ∨ ∃ k, k ≠ l ∧ (s.skc.get k).line ≠ [])
    (hrnc : t.rnc = s.rnc) (hrot : t.rot = s.rot)
    (hids : ∀ j, (t.skc.get j).line.map (fun y => y.id) =
      if j = l then rest.map (fun y => y.id) else (s.skc.get j).line.map fun y => y.id) :
    endTest t = t := by
  refine endTest_waits (Bool.eq_false_iff.2 fun h => ?_)
  obtain ⟨hdrain, hdecided, hpending, hempty⟩ := (drainOver_iff t).1 h
  rw [hrnc] at hdrain hpending
  rw [hrot] at hdecided
  have hnil : ∀ j, (if j = l then rest.map (fun y => y.id)
      else (s.skc.get j).line.map fun y => y.id) = [] := fun j => by
    rw [← hids, hempty]
    rfl
  obtain ⟨r, hr, hopen⟩ | ⟨k, hk⟩ | hrest | ⟨k, hkl, hk⟩ := hleft hdrain
  · rw [hdecided r hr] at hopen
    cases hopen
  · rw [hpending k] at hk
    cases hk
  · have := hnil l
    rw [if_pos rfl] at this
    exact hrest (List.map_eq_nil_iff.1 this)
  · have := hnil k
    rw [if_neg hkl] at this
    exact hk (List.map_eq_nil_iff.1 this)

/-- The conveyor that begins the grants of a delivery is the other one where the lane joins. -/
theorem firstAtDelivery_eq (c : Conveyor) (rest : List Stack) :
    firstAtDelivery c rest = if frontClosed rest then otherConveyor c else .c0 := by
  cases c <;> rfl

theorem departure_rnc {s : State} {l : Lane} {x : Stack} {rest : List Stack}
    (hline : (s.skc.get l).line = x :: rest) (c : Conveyor) (n : ConveyorState) (b : Bool) :
    (departure c n l b s).rnc = s.rnc := by
  have hgone : (frontGone c n l b s).rnc = s.rnc := by
    rw [frontGone_eq hline]
    exact (queueRecord_keeps _ s).2.2.2.2.2.2.2.2.2.1
  unfold departure
  split
  · rw [(joinWaiting_keeps _ _).2.2.2.2.2.2.2.2.1, hgone]
  · exact hgone

/-- Settles O48: a push ends with the departure of its FRONT, its lane's joining and the grants of the
conveyors that are free then. -/
theorem deliveryAndRemovalEndAPush : Obligations.DeliveryAndRemovalEndAPush := by
  refine ⟨fun s c hc => ?_, fun s c l n x rest hc hline hleft => ⟨?_, ?_⟩⟩
  · show execDelivery c s = _ ∧ execRemoval c s = _
    unfold execDelivery execRemoval
    cases h : s.tka.conveyors.get c with
    | pushing l n => exact absurd h (hc l n)
    | available => exact ⟨rfl, rfl⟩
    | out => exact ⟨rfl, rfl⟩
  · have hexec : exec (.delivery c) s = .next (deliver c l s) := by
      show execDelivery c s = _
      simp only [execDelivery, hc]
    have hdepart := departFront_departure hc hline .available false
    have hblocks := departFront_keeps_blocks (c := c) hline .available false
    have hids := departure_ids hc hline .available false
    have hreacts := deliver_reacts c l s
    rw [hexec]
    refine ⟨_, rfl, hreacts, ?_⟩
    unfold deliver
    dsimp only
    generalize hw : setConveyor c .available (departFront l (handOver l false s)) = w at *
    obtain ⟨hrpw, hrot, hmkt, hknt, hntp, hlnd, hjbc, hrnc, htrc⟩ := hblocks
    have hend : endTest (grantPass w) = grantPass w := endTest_left hleft
      (by simp [hrnc]) (by simp [hrot]) fun j => (grantPass_ids w j).trans (hids j)
    rw [hend]
    refine ⟨by simp [hrpw], ?_, ?_, fun hnone hopen => ?_, fun m v hm harbiter hdeparted => ?_,
      by simp [hrot], by simp [hmkt], by simp [hknt], by simp [hntp], by simp [hlnd],
      by simp [hjbc], by simp [hrnc]⟩
    · rw [grantPass_ids, hids, if_pos rfl]
    · rw [Ne, grantPass_out_iff, ← hw]
      simp [setConveyor]
    · have hopen : ¬frontClosed rest = true := by rw [hopen]; exact Bool.false_ne_true
      rw [if_neg hopen, departure, hline, List.tail_cons, if_neg hopen, frontGone_eq hline] at hdepart
      have hidle : grantPass w = w := grantPass_idle fun d => .inr (.inr fun k => by
        rw [hdepart]
        exact hnone d k)
      rw [hidle, hdepart]
      exact ⟨rfl, by simp, rfl, rfl⟩
    · have hdep := departure_of_departed false hm harbiter hc hline hdeparted
      have hrecord : (departure c .available l false s).rnc.record = some m := by
        rw [departure_rnc hline, hm]
      refine grantPass_congr (t := grantPass w) ?_ hdep ⟨rfl, rfl⟩
      rw [hdepart, firstAtDelivery_eq]
      split
      · rw [grantPass_turn _ hrecord]
        exact grantTurns_pass _ hrecord
      · exact grantPass_turns hrecord
  · have hexec : exec (.removal c) s = .next (remove c l s) := by
      show execRemoval c s = _
      simp only [execRemoval, hc]
    have hdepart := departFront_departure hc hline .out true
    have hblocks := departFront_keeps_blocks (c := c) hline .out true
    have hids := departure_ids hc hline .out true
    have hreacts := remove_reacts c l s
    rw [hexec]
    refine ⟨_, rfl, hreacts, ?_⟩
    unfold remove
    dsimp only
    generalize hw : setConveyor c .out (departFront l (handOver l true s)) = w at *
    obtain ⟨hrpw, hrot, hmkt, hknt, hntp, hlnd, hjbc, hrnc, htrc⟩ := hblocks
    have hend : endTest (raiseTimeout c s.trc.front w) = raiseTimeout c s.trc.front w :=
      endTest_left hleft (by simp [hrnc]) (by simp [hrot]) (by simpa using hids)
    have hothers : otherRecords (s.rpw.queue ++ [.stack l x true]) = otherRecords s.rpw.queue := by
      simp [otherRecords, List.countP_append, Record.isStack]
    have htimeout : raiseTimeout c s.trc.front w = queueRecord (.fault (.conveyorTimeout c)
        (s.rnc.runState == .halted) s.trc.front (newestNumber s)) (flagFault w) := by
      unfold raiseTimeout newestNumber newestRow
      rw [hrnc, hrot]
    have hflag : (flagFault w).rpw = w.rpw := rfl
    rw [hend]
    refine ⟨fun hroom => ?_, fun hfull => ?_, ?_, ?_, ?_, fun m v hm harbiter hdeparted => ?_,
      by simp [hrot], by simp [hmkt], by simp [hknt], by simp [hntp], by simp [hlnd],
      by simp [hjbc], by simp [hrnc]⟩
    · rw [htimeout, queueRecord_joins (.inr (by rw [hflag, hrpw, hothers]; exact hroom)), hflag, hrpw]
      simp
    · rw [htimeout, queueRecord_dropped rfl (by rw [hflag, hrpw, hothers]; exact hfull), hflag, hrpw]
      exact ⟨rfl, rfl⟩
    · rw [show (raiseTimeout c s.trc.front w).skc = w.skc by simp, hids, if_pos rfl]
    · rw [show (raiseTimeout c s.trc.front w).tka = w.tka by simp, ← hw]
      simp [setConveyor]
    · rw [htimeout, queueRecord_only]
      rfl
    · have hdep := departure_of_departed true hm harbiter hc hline hdeparted
      have hrecord : (departure c .out l true s).rnc.record = some m := by
        rw [departure_rnc hline, hm]
      have hbusy : (departure c .out l true s).tka.conveyors.get c ≠ .available := by
        rw [← hdep.1, hdeparted.conveyors, Conveyors.get_set_self]
        nofun
      refine ⟨fun hclosed => ?_, fun hopen => ?_⟩
      · refine grantPass_congr (t := w) ?_ hdep ⟨by simp, by simp⟩
        rw [hdepart, if_pos hclosed, ← grantPass_other hbusy]
        exact grantPass_turns hrecord
      · rw [if_neg (by rw [hopen]; exact Bool.false_ne_true)] at hdepart
        rw [hdep.1, hdep.2, ← hdepart]
        exact ⟨by simp, by simp⟩

end Sys2Proof.Machine
end

section
/-! The decision of a lane's next row (R104 to R108). -/
namespace Sys2Proof.Machine

/-! ### Reasons -/

theorem reasons_ext {x y : Reasons} (h : ∀ q, x.get q = y.get q) : x = y := by
  obtain ⟨a, b, c, d, e, f, g, i, j, k⟩ := x
  obtain ⟨a', b', c', d', e', f', g', i', j', k'⟩ := y
  obtain rfl : a = a' := h .stopped
  obtain rfl : b = b' := h .leadIn
  obtain rfl : c = c' := h .knife
  obtain rfl : d = d' := h .speed
  obtain rfl : e = e' := h .register
  obtain rfl : f = f' := h .splice
  obtain rfl : g = g' := h .guard
  obtain rfl : i = i' := h .defect
  obtain rfl : j = j' := h .uninspected
  obtain rfl : k = k' := h .held
  rfl

/-- The primary reason of a set is the one that stands first in precedence (R48). -/
theorem primaryReason_eq_some_iff {x : Reasons} {p : Reason} :
    primaryReason x = some p ↔ Primary x p := by
  unfold primaryReason Primary
  rw [List.find?_eq_some_iff_append]
  constructor
  · rintro ⟨hp, before, after, hall, hbefore⟩
    refine ⟨hp, fun q hq => ?_⟩
    have hne : ∀ a ∈ before, (a != p) = true := by
      intro a ha
      have := hbefore a ha
      rw [bne_iff_ne]
      rintro rfl
      simp [hp] at this
    rw [hall, List.takeWhile_append_of_pos hne, List.takeWhile_cons] at hq
    simpa using hbefore q (by simpa using hq)
  · rintro ⟨hp, hfirst⟩
    refine ⟨hp, allReasons.takeWhile (· != p), (allReasons.dropWhile (· != p)).tail, ?_, ?_⟩
    · cases p <;> rfl
    · exact fun a ha => by simp [hfirst a ha]

theorem primaryReason_none_iff {x : Reasons} : primaryReason x = none ↔ x = noReasons := by
  have hall : ∀ q, q ∈ allReasons := by intro q; cases q <;> decide
  simp only [primaryReason, List.find?_eq_none, Bool.not_eq_true]
  constructor
  · exact fun h => reasons_ext fun q => (h q (hall q)).trans (noReasons_get q).symm
  · rintro rfl q -
    exact noReasons_get q

theorem primaryReason_isSome {x : Reasons} (h : x ≠ noReasons) : ∃ p, primaryReason x = some p :=
  Option.ne_none_iff_exists'.1 fun hnone => h (primaryReason_none_iff.1 hnone)

theorem knifeFound_iff (r : Row) : knifeFound r = true ↔ ¬TrailGood r ∨ ¬LeadGood r := by
  have htrail : (match r.trail with
      | .done _ bad => bad
      | .pending | .firing _ | .stalled _ => true) = true ↔ ¬TrailGood r := by
    unfold TrailGood
    cases r.trail <;> simp
  have hlead : (match r.leadCut with
      | some c => c.bad
      | none => r.origin != .leadIn) = true ↔ ¬LeadGood r := by
    unfold LeadGood
    obtain _ | ⟨f, bad⟩ := r.leadCut <;> simp
  unfold knifeFound
  rw [Bool.or_eq_true]
  exact or_congr htrail hlead

theorem offSpeed_iff (s : State) : offSpeed s = true ↔ s.trc.zone ≠ .run := by
  unfold offSpeed
  cases s.trc.zone <;> simp

theorem inspected_iff (r : Row) (s : State) : inspected r s = true ↔ Inspected s r := by
  unfold inspected Inspected
  cases s.ntp.horizon <;> simp

/-- The reasons that a decision finds are those its conditions name (R105). -/
theorem get_foundReasons (l : Lane) (r : Row) (s : State) (x : Reasons) (q : Reason) :
    (foundReasons l r s x).get q = true ↔ x.get q = true ∨
      (q = .stopped ∧ s.rnc.runState = .halted) ∨ (q = .knife ∧ (¬TrailGood r ∨ ¬LeadGood r)) ∨
      (q = .speed ∧ s.trc.zone ≠ .run) ∨ (q = .uninspected ∧ ¬Inspected s r) ∨
      (q = .held ∧ (s.skc.get l).hold = true) := by
  simp only [foundReasons, get_addReasonIf, knifeFound_iff, offSpeed_iff, ← inspected_iff,
    beq_iff_eq, Bool.not_eq_true', Bool.not_eq_true]
  tauto

theorem found_foundReasons (s : State) (l : Lane) (r : Row) (x : Reasons) :
    Found s l r x (foundReasons l r s x) := by
  have hget := get_foundReasons l r s x
  have hsame : ∀ q ∈ [Reason.leadIn, .register, .splice, .guard, .defect],
      (foundReasons l r s x).get q = x.get q := by
    intro q hq
    rw [Bool.eq_iff_iff, hget]
    simp only [List.mem_cons, List.not_mem_nil, or_false] at hq
    obtain rfl | rfl | rfl | rfl | rfl := hq <;> simp
  exact {
    stopped := (hget .stopped).trans (by simp [PerReason.get])
    knife := (hget .knife).trans (by simp [PerReason.get])
    speed := (hget .speed).trans (by simp [PerReason.get])
    uninspected := (hget .uninspected).trans (by simp [PerReason.get])
    held := (hget .held).trans (by simp [PerReason.get])
    rest := ⟨hsame .leadIn (by simp), hsame .register (by simp), hsame .splice (by simp),
      hsame .guard (by simp), hsame .defect (by simp)⟩ }

/-- The conditions of R105 name one set of reasons. -/
theorem found_unique {s : State} {l : Lane} {r : Row} {x y z : Reasons} (h : Found s l r x y)
    (k : Found s l r x z) : y = z := by
  refine reasons_ext fun q => ?_
  rw [Bool.eq_iff_iff]
  obtain ⟨h1, h2, h3, h4, h5, hl, hr, hs, hg, hd⟩ := h
  obtain ⟨k1, k2, k3, k4, k5, kl, kr, ks, kg, kd⟩ := k
  cases q with
  | stopped => exact h1.trans k1.symm
  | knife => exact h2.trans k2.symm
  | speed => exact h3.trans k3.symm
  | uninspected => exact h4.trans k4.symm
  | held => exact h5.trans k5.symm
  | leadIn => exact Bool.eq_iff_iff.1 (hl.trans kl.symm)
  | register => exact Bool.eq_iff_iff.1 (hr.trans kr.symm)
  | splice => exact Bool.eq_iff_iff.1 (hs.trans ks.symm)
  | guard => exact Bool.eq_iff_iff.1 (hg.trans kg.symm)
  | defect => exact Bool.eq_iff_iff.1 (hd.trans kd.symm)

theorem found_eq {s : State} {l : Lane} {r : Row} {x y : Reasons} (h : Found s l r x y) :
    foundReasons l r s x = y :=
  found_unique (found_foundReasons s l r x) h

/-! ### The verdict (R106, R107) -/

/-- A row with its entry frozen in a lane, when it has the number. -/
def frozenRow (n : RowNum) (l : Lane) (e : LaneEntry) (r : Row) : Row :=
  if r.number = n then { r with entries := r.entries.set l (some e) } else r

/-- The track's block with the entries of a row number frozen in a lane. -/
def frozenRot (n : RowNum) (l : Lane) (e : LaneEntry) (x : Rot) : Rot :=
  { x with track := x.track.map (frozenRow n l e) }

@[simp] theorem frozenRow_number (n : RowNum) (l : Lane) (e : LaneEntry) (r : Row) :
    (frozenRow n l e r).number = r.number := by
  unfold frozenRow
  split <;> rfl

theorem openIn_frozenRow {e : LaneEntry} (he : e.isOpen = false) (n : RowNum) (l k : Lane) (r : Row) :
    openIn k (frozenRow n l e r) = true ↔ openIn k r = true ∧ (r.number ≠ n ∨ k ≠ l) := by
  unfold frozenRow
  by_cases hn : r.number = n
  · rw [if_pos hn]
    by_cases hk : k = l
    · subst hk
      simp [openIn, he, hn]
    · simp [openIn, Lanes.get_set_ne _ _ hk, hk]
  · simp [hn]

theorem find?_map_number {f : Row → Row} (h : ∀ r, (f r).number = r.number) (n : RowNum)
    (track : List Row) : (track.map f).find? (fun r => r.number == n) =
      (track.find? fun r => r.number == n).map f := by
  rw [List.find?_map]
  exact congrArg _ (congrArg (fun p => List.find? p track) (funext fun r => by simp [h]))

theorem freezeEntry_eq (l : Lane) (n : RowNum) (e : LaneEntry) (s : State) :
    freezeEntry l n e s = s.setRot (frozenRot n l e s.rot) := rfl

/-- Job Control with the tally of a reason raised in the context a tag names (R108). -/
def tallied (t : JobTag) (p : Reason) (j : Jbc) : Jbc :=
  match t with
  | .current => { j with current := j.current.map fun c => c.raise p }
  | .previous => { j with previous := j.previous.map fun c => c.raise p }
  | .ended => j

/-- What a REJECT verdict leaves, with the tally of its primary reason. -/
def rejected (l : Lane) (r : Row) (x : Reasons) (p : Reason) (s : State) : State :=
  { s with rot := frozenRot r.number l (.reject x) s.rot,
           lnd := s.lnd.set l { s.lnd.get l with flap := .reject },
           jbc := tallied r.tag p s.jbc }

theorem passReject_eq {x : Reasons} {p : Reason} (hp : primaryReason x = some p) (l : Lane) (r : Row)
    (s : State) : passReject l r x s = rejected l r x p s := by
  unfold passReject
  simp only [hp, freezeEntry_eq]
  cases h : r.tag <;> simp only [rejected, tallied, h] <;> rfl

/-- What a GOOD verdict leaves of the state `u` in which its label stands allotted. -/
def passed (m : MachineRecord) (l : Lane) (r : Row) (id : Nat) (u : State) : State :=
  { u with rot := frozenRot r.number l (.good id) u.rot,
           lnd := u.lnd.set l { u.lnd.get l with
             flap := .pass (trailFire r), arrivals := (u.lnd.get l).arrivals ++ [arrivalOf m l r id] } }

theorem passGood_eq (m : MachineRecord) (l : Lane) (r : Row) (id : Nat) (u : State) :
    passGood m l r id u = passed m l r id u := rfl

section
variable {m : MachineRecord} {l : Lane} {r : Row} {x : Reasons} {s : State}

theorem judge_found {p : Reason} (hp : primaryReason (foundReasons l r s x) = some p) :
    judge m l r x s = rejected l r (foundReasons l r s x) p s := by
  simp only [judge, hp, passReject_eq hp]

theorem judge_good {u : State} {id : Nat} (hx : foundReasons l r s x = noReasons)
    (hplace : placeFor l r s = some (u, id)) : judge m l r x s = passed m l r id u := by
  simp only [judge, hx, primaryReason_none_iff.2, hplace, passGood_eq]

theorem judge_noPlace (hx : foundReasons l r s x = noReasons) (hplace : placeFor l r s = none) :
    judge m l r x s = rejected l r { noReasons with held := true } .held s := by
  have hheld : addReason noReasons .held = { noReasons with held := true } := rfl
  simp only [judge, hx, primaryReason_none_iff.2, hplace, hheld]
  exact passReject_eq rfl l r s

/-- A verdict freezes the entry, and nothing else of the track changes. -/
theorem judge_rot : ∃ e, e.isOpen = false ∧ (judge m l r x s).rot = frozenRot r.number l e s.rot := by
  by_cases hx : foundReasons l r s x = noReasons
  · cases hplace : placeFor l r s with
    | none => exact ⟨_, rfl, by rw [judge_noPlace hx hplace]; rfl⟩
    | some v =>
      obtain ⟨y, hu⟩ := placeFor_keeps l r s v.1 v.2 hplace
      refine ⟨.good v.2, rfl, ?_⟩
      rw [judge_good (m := m) hx hplace, hu]
      rfl
  · obtain ⟨p, hp⟩ := primaryReason_isSome hx
    exact ⟨_, rfl, by rw [judge_found hp]; rfl⟩

end

section
variable (m : MachineRecord) (l : Lane) (r : Row) (x : Reasons) (s : State)

/-- A verdict leaves the run controller and the report writer, and of the jobs all but a tally. -/
theorem judge_blocks : (judge m l r x s).rnc = s.rnc ∧ (judge m l r x s).rpw = s.rpw ∧
    (judge m l r x s).trc = s.trc ∧ (judge m l r x s).tka = s.tka ∧
    (judge m l r x s).jbc.closePending = s.jbc.closePending := by
  by_cases hx : foundReasons l r s x = noReasons
  · cases hplace : placeFor l r s with
    | none =>
      rw [judge_noPlace hx hplace]
      cases h : r.tag <;> simp [rejected, tallied, h]
    | some v =>
      obtain ⟨y, hu⟩ := placeFor_keeps l r s v.1 v.2 hplace
      rw [judge_good (m := m) hx hplace, hu]
      simp [passed]
  · obtain ⟨p, hp⟩ := primaryReason_isSome hx
    rw [judge_found hp]
    cases h : r.tag <;> simp [rejected, tallied, h]

/-- A context as a tally leaves it. -/
structure SameRows (c c' : JobContext) : Prop where
  job : c'.job = c.job
  firstRow : c'.firstRow = c.firstRow
  lastRow : c'.lastRow = c.lastRow

theorem tallied_previous (t : JobTag) (p : Reason) (j : Jbc) {c' : JobContext}
    (h : (tallied t p j).previous = some c') : ∃ c, j.previous = some c ∧ SameRows c c' := by
  cases t with
  | current => exact ⟨c', h, rfl, rfl, rfl⟩
  | previous =>
    obtain ⟨c, hc, rfl⟩ := Option.map_eq_some_iff.1 h
    exact ⟨c, hc, rfl, rfl, rfl⟩
  | ended => exact ⟨c', h, rfl, rfl, rfl⟩

theorem tallied_keeps_previous (t : JobTag) (p : Reason) {j : Jbc} {c : JobContext}
    (h : j.previous = some c) : ∃ c', (tallied t p j).previous = some c' := by
  cases t with
  | current => exact ⟨c, h⟩
  | previous => exact ⟨c.raise p, by rw [tallied, h]; rfl⟩
  | ended => exact ⟨c, h⟩

/-- The PREVIOUS context that stands after a verdict is the one that stood before it, but for a tally. -/
theorem judge_previous {c' : JobContext} (h : (judge m l r x s).jbc.previous = some c') :
    ∃ c, s.jbc.previous = some c ∧ SameRows c c' := by
  by_cases hx : foundReasons l r s x = noReasons
  · cases hplace : placeFor l r s with
    | none =>
      rw [judge_noPlace hx hplace] at h
      exact tallied_previous _ _ _ h
    | some v =>
      obtain ⟨y, hu⟩ := placeFor_keeps l r s v.1 v.2 hplace
      rw [judge_good (m := m) hx hplace, hu] at h
      exact ⟨c', h, rfl, rfl, rfl⟩
  · obtain ⟨p, hp⟩ := primaryReason_isSome hx
    rw [judge_found hp] at h
    exact tallied_previous _ _ _ h

theorem OpenedStack.line {l : Lane} {r : Row} {s u : State} {id t : Nat} (h : OpenedStack l r s u id t)
    (k : Lane) : (u.skc.get k).line = if k = l then (s.skc.get l).line ++
      [allotTo r.number s.trc.front (newStack (s.skc.get l).nextId r.jobId t r.number)]
    else (s.skc.get k).line := by
  rw [h.state, setLane, State.setSkc_skc, Lanes.get_set]
  split <;> rfl

theorem judge_keeps_previous {c : JobContext} (h : s.jbc.previous = some c) :
    ∃ c', (judge m l r x s).jbc.previous = some c' ∧ SameRows c c' := by
  obtain ⟨c', hc'⟩ : ∃ c', (judge m l r x s).jbc.previous = some c' := by
    by_cases hx : foundReasons l r s x = noReasons
    · cases hplace : placeFor l r s with
      | none =>
        rw [judge_noPlace hx hplace]
        exact tallied_keeps_previous _ _ h
      | some v =>
        obtain ⟨y, hu⟩ := placeFor_keeps l r s v.1 v.2 hplace
        rw [judge_good (m := m) hx hplace, hu]
        exact ⟨c, h⟩
    · obtain ⟨p, hp⟩ := primaryReason_isSome hx
      rw [judge_found hp]
      exact tallied_keeps_previous _ _ h
  obtain ⟨c₀, hc₀, hsame⟩ := judge_previous m l r x s hc'
  obtain rfl : c = c₀ := Option.some.inj (h.symm.trans hc₀)
  exact ⟨c', hc', hsame⟩

/-- A verdict takes no stack from a line. -/
theorem judge_line {k : Lane} (h : (s.skc.get k).line ≠ []) :
    ((judge m l r x s).skc.get k).line ≠ [] := by
  by_cases hx : foundReasons l r s x = noReasons
  · cases hplace : placeFor l r s with
    | none =>
      rw [judge_noPlace hx hplace]
      exact h
    | some v =>
      rw [judge_good (m := m) hx hplace]
      show (v.1.skc.get k).line ≠ []
      have hline : ∃ q y, (v.1.skc.get k).line = if k = l then q ++ [y] else (s.skc.get k).line := by
        obtain ⟨y, hy⟩ | ⟨t, ht⟩ := allot_cases (placeFor_cases hplace).2
        · exact ⟨_, _, by rw [hy.state, setLine_line]⟩
        · exact ⟨_, _, ht.line k⟩
      obtain ⟨q, y, hline⟩ := hline
      rw [hline]
      split
      · simp
      · exact h
  · obtain ⟨p, hp⟩ := primaryReason_isSome hx
    rw [judge_found hp]
    exact h

theorem findRow_judge (n : RowNum) : ∃ e : LaneEntry, e.isOpen = false ∧
    findRow n (judge m l r x s) = (findRow n s).map (frozenRow r.number l e) := by
  obtain ⟨e, he, hrot⟩ := judge_rot (m := m) (l := l) (r := r) (x := x) (s := s)
  refine ⟨e, he, ?_⟩
  simp only [findRow, hrot, frozenRot]
  exact find?_map_number (frozenRow_number _ _ _) n _

end

/-! ### What the decisions leave of a lane's OPEN rows -/

/-- The OPEN rows of a lane were OPEN before, with the same numbers and lead references. -/
def OpenWithin (l : Lane) (s t : State) : Prop :=
  ∀ q ∈ t.rot.track, openIn l q = true → ∃ q' ∈ s.rot.track, openIn l q' = true ∧
    q'.number = q.number ∧ ∀ m, leadReference m q' = leadReference m q

theorem OpenWithin.of_rot {l : Lane} {s t : State} (h : t.rot = s.rot) : OpenWithin l s t := by
  intro q hq ho
  exact ⟨q, h ▸ hq, ho, rfl, fun _ => rfl⟩

theorem OpenWithin.trans {l : Lane} {s t u : State} (h : OpenWithin l s t) (k : OpenWithin l t u) :
    OpenWithin l s u := by
  intro q hq ho
  obtain ⟨q1, hq1, ho1, hn1, hm1⟩ := k q hq ho
  obtain ⟨q2, hq2, ho2, hn2, hm2⟩ := h q1 hq1 ho1
  exact ⟨q2, hq2, ho2, hn2.trans hn1, fun m => (hm2 m).trans (hm1 m)⟩

theorem freeingTest_open (l : Lane) (s : State) : OpenWithin l s (freeingTest s) := by
  have htrack : ∀ c, (freePrevious c s).rot.track = retag .previous .ended s.rot.track := by
    intro c
    simp [freePrevious]
    rfl
  unfold freeingTest
  repeat' split
  · exact .of_rot rfl
  · intro q hq ho
    rw [htrack, retag, List.mem_map] at hq
    obtain ⟨q', hq', rfl⟩ := hq
    refine ⟨q', hq', ?_⟩
    split at ho <;> split <;> exact ⟨ho, rfl, fun _ => rfl⟩
  · exact .of_rot rfl

theorem endDrain_track (s : State) : (endDrain s).rot.track = [] := by
  simp [endDrain, emptyTrack]

theorem endTest_open (l : Lane) (s : State) : OpenWithin l s (endTest s) := by
  unfold endTest
  split
  · intro q hq
    simp [endDrain_track] at hq
  · exact .of_rot rfl

theorem afterDecision_open (l : Lane) (n : RowNum) (b : Bool) (s : State) :
    OpenWithin l s (afterDecision n b s) := by
  have hfree : OpenWithin l s (if rowDecided n s then freeingTest s else s) := by
    split
    · exact freeingTest_open l s
    · exact .of_rot rfl
  unfold afterDecision
  dsimp only
  split
  · exact hfree.trans (endTest_open l _)
  · exact hfree

/-! ### The closes at the lane decided event (R149, R160) -/

/-- What the closes at a lane decided event, with their grant pass, leave alone. -/
structure ClosesKeep (l : Lane) (v t : State) : Prop where
  rot : t.rot = v.rot
  lnd : t.lnd = v.lnd
  rpw : t.rpw = v.rpw
  pxm : t.pxm = v.pxm
  rnc : t.rnc = { v.rnc with stopPending := t.rnc.stopPending }
  pending : t.rnc.stopPending = v.rnc.stopPending ∨
    t.rnc.stopPending = v.rnc.stopPending.set l false
  jbc : t.jbc = { v.jbc with closePending := t.jbc.closePending }

theorem ClosesKeep.of_eq {l : Lane} {v t : State} (hrot : t.rot = v.rot) (hlnd : t.lnd = v.lnd)
    (hrpw : t.rpw = v.rpw) (hpxm : t.pxm = v.pxm) (hrnc : t.rnc = v.rnc) (hjbc : t.jbc = v.jbc) :
    ClosesKeep l v t :=
  ⟨hrot, hlnd, hrpw, hpxm, by rw [hrnc], .inl (by rw [hrnc]), by rw [hjbc]⟩

theorem ClosesKeep.trans {l : Lane} {s t u : State} (h : ClosesKeep l s t) (k : ClosesKeep l t u) :
    ClosesKeep l s u where
  rot := k.rot.trans h.rot
  lnd := k.lnd.trans h.lnd
  rpw := k.rpw.trans h.rpw
  pxm := k.pxm.trans h.pxm
  rnc := by rw [k.rnc, h.rnc]
  pending := by
    obtain h | h := h.pending <;> obtain k | k := k.pending <;> rw [k, h]
    · exact .inl rfl
    · exact .inr rfl
    · exact .inr rfl
    · exact .inr (lanes_set_set _ _ _ _)
  jbc := by rw [k.jbc, h.jbc]

theorem laneClose_keeps (l : Lane) (k : LaneClose) (s : State) :
    ClosesKeep l s (laneCloseAct l k s) := by
  cases k with
  | job =>
    exact ⟨by simp [laneCloseAct, jobClose, dropClosePending],
      by simp [laneCloseAct, jobClose, dropClosePending],
      by simp [laneCloseAct, jobClose, dropClosePending],
      by simp [laneCloseAct, jobClose, dropClosePending],
      by simp [laneCloseAct, jobClose, dropClosePending],
      .inl (by simp [laneCloseAct, jobClose, dropClosePending]),
      by simp [laneCloseAct, jobClose, dropClosePending]⟩
  | stop =>
    exact ⟨by simp [laneCloseAct, stopClose], by simp [laneCloseAct, stopClose],
      by simp [laneCloseAct, stopClose], by simp [laneCloseAct, stopClose],
      by simp [laneCloseAct, stopClose], .inr (by simp [laneCloseAct, stopClose]),
      by simp [laneCloseAct, stopClose]⟩

theorem laneDecided_closes (l : Lane) (n : RowNum) (v : State) :
    ClosesKeep l v (laneDecided l n v) := by
  have hpass : ∀ b t, ClosesKeep l t (passIfJoined b t) := by
    intro b t
    apply ClosesKeep.of_eq <;> simp
  exact (takeDue_rel (R := ClosesKeep l) (fun _ => .of_eq rfl rfl rfl rfl rfl rfl)
    ClosesKeep.trans (fun _ _ => .of_eq rfl rfl rfl rfl rfl rfl) (laneClose_keeps l) _ v).trans
    (hpass _ _)

/-- With one close due alone, it is taken and the grant pass of its joining follows. -/
theorem laneDecided_one {l : Lane} {n : RowNum} {v : State} (k : LaneClose)
    (h : ∀ j, laneCloseDue l n j v = true ↔ j = k) :
    laneDecided l n v = passIfJoined v (laneCloseAct l k v) := by
  have hdue : [LaneClose.job, .stop].filter (fun j => laneCloseDue l n j v) = [k] := by
    have heq : (fun j => laneCloseDue l n j v) = fun j => decide (j = k) :=
      funext fun j => Bool.eq_iff_iff.2 ((h j).trans decide_eq_true_iff.symm)
    rw [heq]
    cases k <;> rfl
  unfold laneDecided takeDue
  rw [hdue]

theorem laneDecided_none {l : Lane} {n : RowNum} {v : State}
    (h : ∀ j, laneCloseDue l n j v = false) : laneDecided l n v = v := by
  unfold laneDecided
  rw [takeDue_none fun j _ => h j, passIfJoined, if_pos rfl]

/-- A lane whose stop close is due waits no more after its lane decided event. -/
theorem laneDecided_stopped {l : Lane} {n : RowNum} {v : State} (h : stopCloseDue l n v = true) :
    (laneDecided l n v).rnc.stopPending.get l = false := by
  have hstop : ∀ u, (laneCloseAct l .stop u).rnc.stopPending.get l = false := by
    intro u
    simp [laneCloseAct, stopClose]
  have hkeep : ∀ (k : LaneClose) u, u.rnc.stopPending.get l = false →
      (laneCloseAct l k u).rnc.stopPending.get l = false := by
    intro k u hu
    obtain e | e := (laneClose_keeps l k u).pending
    · rw [e, hu]
    · rw [e, Lanes.get_set_self]
  obtain ⟨q, n', hperm, -, htaken⟩ :=
    takeDue_takenInSomeOrder (laneCloseDue l n) (laneCloseAct l) [.job, .stop] v
  have hmem : LaneClose.stop ∈ q := by
    rw [hperm.mem_iff, List.mem_filter]
    exact ⟨by simp, h⟩
  have hq := takeAll_reaches (P := fun _ => True) hmem (fun _ _ _ => .inl trivial) hkeep
    (fun u _ => hstop u) (u := v.setChoices n') trivial
  simp only [laneDecided, passIfJoined_keeps, htaken, hq]

theorem laneDecided_open (l : Lane) (n : RowNum) (s : State) :
    OpenWithin l s (laneDecided l n s) := .of_rot (laneDecided_closes l n s).rot

/-! ### The decision as a whole -/

theorem dueRow_eq_some {s : State} {m : MachineRecord} {l : Lane} {r : Row}
    (hm : s.rnc.record = some m) (hnext : nextRow l s = some r)
    (htarget : atOrBeyond s.trc.front (decisionTarget m l r s) = true)
    (hfront : s.trc.web = s.trc.front) : dueRow l s = some r := by
  simp only [dueRow, hm, hnext, htarget, atFront, hfront, beq_self_eq_true, Bool.and_self, if_true]

theorem dueRow_reached {s : State} {l : Lane} {r : Row} (h : dueRow l s = some r) :
    ∃ m, s.rnc.record = some m ∧ atOrBeyond s.trc.front (decisionTarget m l r s) = true := by
  unfold dueRow at h
  split at h
  next m r' hm _ =>
    split at h
    next hdue =>
      cases h
      exact ⟨m, hm, (Bool.and_eq_true_iff.1 hdue).1⟩
    next => cases h
  next => cases h

/-- What stands after the decision of a row whose entry held the reasons `x`. -/
def decided (m : MachineRecord) (l : Lane) (r : Row) (x : Reasons) (s : State) : State :=
  afterDecision r.number (LaneSet.nonempty s.rnc.stopPending)
    (laneDecided l r.number (judge m l r x s))

/-- The rows OPEN in the lane after a decision were OPEN before it, beside the row decided. -/
theorem decided_open {s : State} {m : MachineRecord} {l : Lane} {r : Row} {x : Reasons} {q : Row}
    (hq : q ∈ (decided m l r x s).rot.track)
    (ho : openIn l q = true) :
    ∃ q' ∈ s.rot.track, openIn l q' = true ∧ q'.number ≠ r.number ∧
      ∀ m, leadReference m q' = leadReference m q := by
  obtain ⟨q1, hq1, ho1, hn1, hm1⟩ :=
    ((laneDecided_open l r.number _).trans (afterDecision_open l _ _ _)) q hq ho
  obtain ⟨e, he, hrot⟩ := judge_rot (m := m) (l := l) (r := r) (x := x) (s := s)
  rw [hrot, frozenRot, List.mem_map] at hq1
  obtain ⟨q2, hq2, rfl⟩ := hq1
  unfold frozenRow at ho1 hn1 hm1
  by_cases hn : q2.number = r.number
  · rw [if_pos hn] at ho1
    simp [openIn, he] at ho1
  · rw [if_neg hn] at ho1 hm1
    exact ⟨q2, hq2, ho1, hn, hm1⟩

section
variable {s : State} {m : MachineRecord} {l : Lane} {r : Row} {x : Reasons}
  (hm : s.rnc.record = some m) (h : DecisionDue s m l r x)
include hm h

theorem decideRow_decided : decideRow l r s = decided m l r x s := by
  simp only [decideRow, hm, h.entry, decided]

theorem decided_reacts : ReactionFrame s (decided m l r x s) :=
  decideRow_decided hm h ▸ decideRow_reacts l r s

/-- The decision of a lane whose next row stands reached, and no other, decides that row (R104). -/
theorem exec_decision : exec (.decision l) s = .next (decided m l r x s) := by
  have hnext := h.next
  have hdue : dueRow l s = some r := dueRow_eq_some hm hnext h.target h.front
  have hrest : dueRow l (decided m l r x s) = none := by
    by_contra hsome
    obtain ⟨q, hq⟩ := Option.ne_none_iff_exists'.1 hsome
    obtain ⟨m', hm', hreached⟩ := dueRow_reached hq
    obtain ⟨hmem, ho⟩ := dueRow_mem hq
    obtain ⟨q', hq', ho', hn, hlead⟩ := decided_open hmem ho
    have hkept := decided_reacts hm h
    rw [hkept.record, hm] at hm'
    cases hm'
    have hnot := h.only q' hq' ho' hn
    rw [decisionTarget, hkept.trc, hkept.flapLead, ← hlead m, hnot] at hreached
    cases hreached
  have htrack : s.rot.track ≠ [] := by
    intro hnil
    have := (dueRow_mem hdue).1
    rw [hnil] at this
    cases this
  obtain ⟨n, hn⟩ : ∃ n, s.rot.track.length = n + 1 :=
    Nat.exists_eq_succ_of_ne_zero (by simpa using htrack)
  have hend : ∀ n, decideWhileDue l n (decided m l r x s) = decided m l r x s := by
    intro n
    cases n with
    | zero => rfl
    | succ n => simp only [decideWhileDue, hrest]
  show Host.Outcome.next (decideTest l s) = _
  rw [decideTest, hn, decideWhileDue, hdue]
  show Host.Outcome.next (decideWhileDue l n (decideRow l r s)) = _
  rw [decideRow_decided hm h, hend]

end

/-! ### Nothing waits for the decision -/

theorem afterDecision_waits {n : RowNum} {b : Bool} {v : State} (hfree : freeingTest v = v)
    (hdrain : drainOver v = false) : afterDecision n b v = v := by
  unfold afterDecision
  simp only [hfree, ite_self, endTest_waits hdrain]

theorem freeingTest_waits {c : JobContext} {v : State} (hc : v.jbc.previous = some c)
    (h : lastRowDecided c v = false ∨ noOldArrivals c v = false) : freeingTest v = v := by
  unfold freeingTest
  rw [hc]
  show (if _ then _ else _) = _
  rw [if_neg]
  rw [Bool.and_eq_true]
  rintro ⟨h1, h2⟩
  obtain h | h := h
  · exact absurd h1 (by rw [h]; exact Bool.false_ne_true)
  · exact absurd h2 (by rw [h]; exact Bool.false_ne_true)

theorem fullyDecided_openIn (r : Row) : fullyDecided r = true ↔ ∀ l, openIn l r = false := by
  simp only [fullyDecided, Bool.and_eq_true, Bool.not_eq_true']
  exact ⟨fun ⟨⟨⟨h0, h1⟩, h2⟩, h3⟩ l => by cases l <;> assumption,
    fun h => ⟨⟨⟨h .l0, h .l1⟩, h .l2⟩, h .l3⟩⟩

theorem fullyDecided_of_open {r : Row} {k : Lane} (h : openIn k r = true) : fullyDecided r = false := by
  rw [← Bool.not_eq_true, fullyDecided_openIn]
  exact fun hall => Bool.false_ne_true ((hall k).symm.trans h)

theorem laneDecided_quiet {l : Lane} {n : RowNum} {v : State} (hjob : v.jbc.closePending.get l = false)
    (hstop : v.rnc.stopPending.get l = false) : laneDecided l n v = v :=
  laneDecided_none fun j => by
    cases j with
    | job => simp [laneCloseDue, jobCloseDue, hjob]
    | stop => simp [laneCloseDue, stopCloseDue, hstop]

/-- Where nothing waits for it the decision is the verdict alone. -/
theorem decided_judge {s : State} {m : MachineRecord} {l : Lane} {r : Row} {x : Reasons}
    (h : NothingWaits s l r) : decided m l r x s = judge m l r x s := by
  obtain ⟨hrnc, -, -, -, hpending⟩ := judge_blocks m l r x s
  have hquiet : laneDecided l r.number (judge m l r x s) = judge m l r x s :=
    laneDecided_quiet (by rw [hpending]; exact h.closes.1) (by rw [hrnc]; exact h.closes.2)
  have hfree : freeingTest (judge m l r x s) = judge m l r x s := by
    cases hc : (judge m l r x s).jbc.previous with
    | none => exact freeingTest_none hc
    | some c' =>
      obtain ⟨c, hprevious, hsame⟩ := judge_previous m l r x s hc
      obtain ⟨n, q, k, hlast, hq, hopen, hother⟩ := h.previous c hprevious
      obtain ⟨e, he, hfind⟩ := findRow_judge m l r x s n
      refine freeingTest_waits hc (.inl ?_)
      have hopen' := (openIn_frozenRow he r.number l k q).2 ⟨hopen, hother⟩
      simp only [lastRowDecided, hsame.lastRow, hlast, hfind, hq, Option.map_some,
        fullyDecided_of_open hopen']
  have hdrain : drainOver (judge m l r x s) = false := by
    rw [← Bool.not_eq_true, drainOver_iff, hrnc]
    rintro ⟨hrun, -, -, hempty⟩
    obtain ⟨k, hk⟩ := h.drain hrun
    exact judge_line m l r x s hk (hempty k)
  rw [decided, hquiet, afterDecision_waits hfree hdrain]

/-! ### The settled statements -/

theorem tallied_current {c : JobContext} {p : Reason} {j : Jbc} (h : j.current = some c) :
    tallied .current p j = { j with current := some { c with
      tallies := c.tallies.set p (if c.tallies.get p < 65535 then c.tallies.get p + 1 else 65535) } } := by
  simp only [tallied, h]
  rfl

theorem tallied_of_previous {c : JobContext} {p : Reason} {j : Jbc} (h : j.previous = some c) :
    tallied .previous p j = { j with previous := some { c with
      tallies := c.tallies.set p (if c.tallies.get p < 65535 then c.tallies.get p + 1 else 65535) } } := by
  simp only [tallied, h]
  rfl

theorem placeFor_full {l : Lane} {r : Row} {s : State} (h : (s.lnd.get l).arrivals.length = 16) :
    placeFor l r s = none := if_neg (by rw [h]; decide)

/-- A label finds no place in a line whose last stack takes no more and behind which none is opened
(R123). -/
theorem placeFor_noRoom {l : Lane} {r : Row} {s : State} {st : Stack}
    (hlast : (s.skc.get l).line.getLast? = some st)
    (h : (st.state = .filling ∧ (s.skc.get l).line.length ≠ 1 ∧
        (s.skc.get l).shelfLimit ≤ shelfTotal (s.skc.get l).line) ∨
      (st.state ≠ .filling ∧ ((s.skc.get l).line.length = 3 ∨
        (s.skc.get l).shelfLimit ≤ shelfTotal (s.skc.get l).line))) : placeFor l r s = none := by
  have hallot : allot l r s = none := by
    simp only [allot, hlast]
    obtain ⟨hfill, hlength, hshelf⟩ | ⟨hfill, hroom⟩ := h
    · rw [if_pos hfill, if_neg hlength, if_neg (Nat.not_lt.2 hshelf)]
    · rw [if_neg hfill]
      obtain hlength | hshelf := hroom
      · rw [if_neg (by rw [hlength]; decide)]
      · rw [if_neg (Nat.not_lt.2 hshelf), ite_self]
  unfold placeFor
  rw [hallot, ite_self]

/-- Settles O45: where nothing waits for the decision it is the verdict alone, and a verdict that finds a
reason, or no place, rejects the label. -/
theorem decisionRejectsWithItsReasons : Obligations.DecisionRejectsWithItsReasons := by
  intro s m l r x y hm hdue hnothing hreasons
  have hjudge : ∃ p, primaryReason y = some p ∧ judge m l r x s = rejected l r y p s := by
    obtain ⟨hfound, hy⟩ | ⟨hfound, rfl, hplace⟩ := hreasons
    · have hf := found_eq hfound
      obtain ⟨p, hp⟩ := primaryReason_isSome hy
      refine ⟨p, hp, ?_⟩
      rw [← hf] at hp ⊢
      exact judge_found hp
    · refine ⟨.held, rfl, judge_noPlace (found_eq hfound) ?_⟩
      obtain hfull | ⟨st, hlast, hroom⟩ := hplace
      · exact placeFor_full hfull
      · exact placeFor_noRoom hlast hroom
  obtain ⟨p, hp, hjudge⟩ := hjudge
  have hprimary : ∀ p', Primary y p' → p' = p := fun p' hp' =>
    Option.some.inj ((primaryReason_eq_some_iff.2 hp').symm.trans hp)
  refine ⟨rejected l r y p s, by rw [exec_decision hm hdue, decided_judge hnothing, hjudge], rfl, rfl,
    fun c p' hc htag hp' => ?_, fun c p' hc htag hp' => ?_, fun htag => ?_, rfl⟩
  · rw [hprimary p' hp', rejected, htag, tallied_current hc]
  · rw [hprimary p' hp', rejected, htag, tallied_of_previous hc]
  · rw [rejected, htag]
    rfl

theorem allotTo_eq (f : Count) (n : RowNum) (x : Stack) : allotTo n f x = oneMore f n x := by
  unfold allotTo oneMore
  dsimp only

theorem foundReasons_none {s : State} {l : Lane} {r : Row} {f : Count}
    (hrun : s.rnc.runState ≠ .halted) (htrail : r.trail = .done f false) (hlead : LeadGood r)
    (hzone : s.trc.zone = .run) (hinspected : Inspected s r) (hhold : (s.skc.get l).hold = false) :
    foundReasons l r s noReasons = noReasons :=
  found_eq {
    stopped := by simp [noReasons, hrun]
    knife := by
      have htrail' : TrailGood r := ⟨f, htrail⟩
      simp [noReasons, htrail', hlead]
    speed := by simp [noReasons, hzone]
    uninspected := by simp [noReasons, hinspected]
    held := by simp [noReasons, hhold]
    rest := ⟨rfl, rfl, rfl, rfl, rfl⟩ }

section
variable {l : Lane} {r : Row} {s : State} (hroom : (s.lnd.get l).arrivals.length < 16)
include hroom

/-- A FILLING last stack takes a label while it is the line's only one, or the shelf has room (R123). -/
theorem placeFor_last {st : Stack} (hlast : (s.skc.get l).line.getLast? = some st)
    (hfill : st.state = .filling) (hshelf : (s.skc.get l).line.length = 1 ∨
      shelfTotal (s.skc.get l).line < (s.skc.get l).shelfLimit) :
    placeFor l r s = some (setLine l ((s.skc.get l).line.dropLast ++
      [oneMore s.trc.front r.number st]) s, st.id) := by
  unfold placeFor
  rw [if_pos (show (s.lnd.get l).arrivals.length < Config.arrivalCapacity from hroom)]
  simp only [allot, hlast, if_pos hfill, allotLast, allotTo_eq]
  by_cases hone : (s.skc.get l).line.length = 1
  · rw [if_pos hone]
  · rw [if_neg hone, if_pos (hshelf.resolve_left hone)]

/-- A stack is opened for a label in a line whose last stack fills no more, while there is room (R123). -/
theorem placeFor_opened {tgt : Nat} (htarget : laneTarget (s.skc.get l) r.tag = some tgt)
    (hopen : ∀ st, (s.skc.get l).line.getLast? = some st → st.state ≠ .filling ∧
      (s.skc.get l).line.length < 3 ∧ shelfTotal (s.skc.get l).line < (s.skc.get l).shelfLimit) :
    placeFor l r s = some (setLane l { s.skc.get l with
      line := (s.skc.get l).line ++ [oneMore s.trc.front r.number
        (newStack (s.skc.get l).nextId r.jobId tgt r.number)],
      nextId := nextStackId (s.skc.get l).nextId } s, (s.skc.get l).nextId) := by
  have hopened : openStack l r s = some (setLane l { s.skc.get l with
      line := (s.skc.get l).line ++ [oneMore s.trc.front r.number
        (newStack (s.skc.get l).nextId r.jobId tgt r.number)],
      nextId := nextStackId (s.skc.get l).nextId } s, (s.skc.get l).nextId) := by
    simp only [openStack, htarget, allotTo_eq]
  unfold placeFor
  rw [if_pos (show (s.lnd.get l).arrivals.length < Config.arrivalCapacity from hroom), ← hopened]
  cases hlast : (s.skc.get l).line.getLast? with
  | none => simp only [allot, hlast]
  | some st =>
    obtain ⟨hfill, hlength, hshelf⟩ := hopen st hlast
    simp only [allot, hlast, if_neg hfill]
    rw [if_pos (show (s.skc.get l).line.length < Config.lineCapacity from hlength), if_pos hshelf]

end

/-- Settles O44: where nothing waits for the decision it is the verdict alone, and a verdict that finds no
reason and has a place passes the label. -/
theorem decisionPassesAGoodLabel : Obligations.DecisionPassesAGoodLabel := by
  intro s m l r x f tgt hm hdue hnothing hrun hx htrail hlead hzone hinspected hhold hroom htarget
    eye heye
  subst hx heye
  have hnone := foundReasons_none hrun htrail hlead hzone hinspected hhold
  have hfire : trailFire r = f := by rw [trailFire, htrail]
  have hexec : ∀ u id, placeFor l r s = some (u, id) →
      exec (.decision l) s = .next (passed m l r id u) := fun u id hplace => by
    rw [exec_decision hm hdue, decided_judge hnothing, judge_good hnone hplace]
  refine ⟨fun st hlast hfill hshelf => ?_, fun hopen htwo => ?_⟩
  · refine ⟨_, hexec _ _ (placeFor_last hroom hlast hfill hshelf), rfl, rfl, ?_, rfl⟩
    simp only [passed, hfire]
    rfl
  · refine ⟨_, hexec _ _ (placeFor_opened hroom htarget hopen), rfl, ?_, ?_, rfl⟩
    · have hnew : ∀ n, oneMore s.trc.front r.number (newStack n r.jobId tgt r.number) =
          { newStack n r.jobId tgt r.number with allotted := 1 } := fun n => if_neg (by
        show ¬1 = tgt
        omega)
      simp only [hnew]
      rfl
    · simp only [passed, hfire]
      rfl

end Sys2Proof.Machine
end

section
/-! Closes and freeings at decisions and resolutions (R125, R149, R150, R160, R161). -/
namespace Sys2Proof.Machine

/-! ### A short close as a line shows it -/

/-- A last stack that stays, with a grant to the FRONT. -/
theorem kept_granted {k : CloseKind} {f : Count} {q q' : List Stack}
    (hlast : ∀ x, q.getLast? = some x → x.state ≠ .filling) (h : FrontGranted q q') :
    LastClosed k f q q' ∧ RestKept q q' := by
  have hlength : q'.length = q.length := by
    obtain rfl | ⟨x, rest, c, rfl, -, rfl⟩ := h
    · rfl
    · rfl
  exact ⟨⟨fun x hx hfill => absurd hfill (hlast x hx), hlength⟩,
    fun x hx hfill => absurd hfill (hlast x hx), fun _ => h⟩

/-- A last stack that closes, with a grant to the FRONT. -/
theorem closed_granted {k : CloseKind} {f : Count} {q q' : List Stack} {x y : Stack}
    (hx : q.getLast? = some x) (hfill : x.state = .filling)
    (hy : y = { x with closeKind := some k, closePoint := some f, state := y.state })
    (hstate : y.state ≠ .filling) (h : FrontGranted (q.dropLast ++ [y]) q') :
    LastClosed k f q q' ∧ RestKept q q' := by
  have hq : q = q.dropLast ++ [x] := (List.dropLast_append_getLast? x hx).symm
  generalize q.dropLast = d at hq h
  subst hq
  have hshape : ∃ d' z, q' = d' ++ [z] ∧ FrontGranted d d' ∧
      z = { y with state := z.state, conveyor := z.conveyor } ∧ z.state ≠ .filling := by
    obtain rfl | ⟨w, rest, c, hw, hclosed, rfl⟩ := h
    · exact ⟨d, y, rfl, .inl rfl, rfl, hstate⟩
    · cases d with
      | nil =>
        obtain ⟨rfl, rfl⟩ : y = w ∧ [] = rest := by simpa using hw
        exact ⟨[], _, rfl, .inl rfl, rfl, nofun⟩
      | cons a d =>
        obtain ⟨rfl, rfl⟩ : a = w ∧ d ++ [y] = rest := by simpa using hw
        exact ⟨_ :: d, y, rfl, .inr ⟨a, d, c, rfl, hclosed, rfl⟩, rfl, hstate⟩
  obtain ⟨d', z, rfl, hd, hz, hzstate⟩ := hshape
  have hlength : d'.length = d.length := by
    obtain rfl | ⟨w, rest, c, rfl, -, rfl⟩ := hd
    · rfl
    · rfl
  rw [hy] at hz
  refine ⟨⟨fun w hw _ => ?_, by simp [hlength]⟩, fun w hw _ => ?_, fun hnot => ?_⟩
  · obtain rfl : x = w := by simpa using hw
    exact ⟨z, by simp, by rw [hz], by rw [hz], by rw [hz], hzstate, by rw [hz], by rw [hz]⟩
  · obtain rfl : x = w := by simpa using hw
    refine ⟨by simpa using hd, z, ?_⟩
    rw [List.getLast?_concat, hz]
  · exact absurd hfill (hnot x (by simp))

/-- A short close, with a grant to the FRONT after it (R125, R129). -/
theorem shortClose_granted {k : CloseKind} {l : Lane} {s : State} {q' : List Stack}
    (h : FrontGranted ((shortClose k l s).skc.get l).line q') :
    LastClosed k s.trc.front (s.skc.get l).line q' ∧ RestKept (s.skc.get l).line q' := by
  cases hlast : (s.skc.get l).line.getLast? with
  | none =>
    have heq : shortClose k l s = s := by simp only [shortClose, hlast]
    rw [heq] at h
    exact kept_granted (fun x hx => by simp [hlast] at hx) h
  | some x =>
    by_cases hfill : x.state = .filling
    · have heq : shortClose k l s = joinWaiting l (setLine l ((s.skc.get l).line.dropLast ++
          [closedShort k l x s]) s) := by
        simp only [shortClose, hlast, if_pos hfill, closedShort]
      rw [heq, (joinWaiting_keeps _ _).2.2.2.2.2.2.1, setLine_line, if_pos rfl] at h
      refine closed_granted hlast hfill rfl ?_ h
      show (if _ then _ else _) ≠ _
      split <;> exact nofun
    · have heq : shortClose k l s = s := by simp only [shortClose, hlast, if_neg hfill]
      rw [heq] at h
      exact kept_granted (fun y hy => by rwa [← Option.some.inj (hlast.symm.trans hy)]) h

/-! ### The close that a decision brings -/

theorem shortClose_line_other {k : CloseKind} {l j : Lane} (h : j ≠ l) (s : State) :
    (shortClose k l s).skc.get j = s.skc.get j := by
  obtain heq | ⟨x, -, -, heq⟩ := shortClose_cases k l s
  · rw [heq]
  · rw [heq, (joinWaiting_keeps _ _).2.2.2.2.2.2.1]
    exact Lanes.get_set_ne _ _ h

theorem endDrain_line (s : State) (k : Lane) :
    ((endDrain s).skc.get k).line = (s.skc.get k).line := by
  have hskc : (endDrain s).skc = (endContexts (emptyTrack s)).skc := by
    simp [endDrain, trackerToIdle, clearStops]
  rw [hskc, (endContexts_line _ k).1, (emptyTrack_keeps s).2.2.2.1]

@[simp] theorem endTest_line (s : State) (k : Lane) :
    ((endTest s).skc.get k).line = (s.skc.get k).line := by
  unfold endTest
  split
  · exact endDrain_line s k
  · rfl

@[simp] theorem afterDecision_line (n : RowNum) (b : Bool) (s : State) (k : Lane) :
    ((afterDecision n b s).skc.get k).line = (s.skc.get k).line := by
  unfold afterDecision
  dsimp only
  (repeat' split) <;> simp

/-- The tests after a decision take lanes from the stop pending set alone. -/
theorem afterDecision_stopPending (n : RowNum) (b : Bool) {s : State} {k : Lane}
    (h : s.rnc.stopPending.get k = false) : (afterDecision n b s).rnc.stopPending.get k = false := by
  have hend : ∀ u : State, u.rnc.stopPending.get k = false →
      (endTest u).rnc.stopPending.get k = false := by
    intro u hu
    unfold endTest
    split
    · simp [endDrain, setRunState_rnc, clearStops, Rnc.noStops]
    · exact hu
  unfold afterDecision
  dsimp only
  (repeat' split) <;> first
    | exact hend _ (by simpa using h)
    | simpa using h

theorem afterDecision_closePending (n : RowNum) (b : Bool) {s : State} {k : Lane}
    (h : s.jbc.closePending.get k = false) : (afterDecision n b s).jbc.closePending.get k = false := by
  have hfree : ∀ u : State, u.jbc.closePending.get k = false →
      (freeingTest u).jbc.closePending.get k = false := by
    intro u hu
    unfold freeingTest
    repeat' split
    · exact hu
    · simp [freePrevious]
    · exact hu
  have hend : ∀ u : State, u.jbc.closePending.get k = false →
      (endTest u).jbc.closePending.get k = false := by
    intro u hu
    unfold endTest
    split
    · simp [endDrain, clearStops, trackerToIdle, endContexts]
    · exact hu
  unfold afterDecision
  dsimp only
  (repeat' split) <;> first
    | exact hend _ (hfree _ h)
    | exact hend _ h
    | exact hfree _ h
    | exact h

section
variable {s : State} {m : MachineRecord} {l : Lane} {r : Row} {x : Reasons}
  (hm : s.rnc.record = some m) (h : DecisionDue s m l r x) (harbiter : ArbiterInv s)
include hm h harbiter

theorem judge_arbiter : ArbiterInv (judge m l r x s) :=
  ((arbiterHeld_kept False).judge s m l r x hm (List.mem_of_find?_eq_some h.next)
    ⟨harbiter, nofun⟩).1

/-- The one close due at a decision is taken on the lines that the verdict leaves, and a grant may follow. -/
theorem decided_closes {v : State} (hv : v = judge m l r x s) (j : LaneClose)
    (hdue : ∀ i, laneCloseDue l r.number i v = true ↔ i = j) (k : CloseKind)
    (hk : ∀ u, ((laneCloseAct l j u).skc = (shortClose k l u).skc)) :
    LastClosed k s.trc.front (v.skc.get l).line ((decided m l r x s).skc.get l).line ∧
      RestKept (v.skc.get l).line ((decided m l r x s).skc.get l).line := by
  have hfront : v.trc.front = s.trc.front := by rw [hv, (judge_blocks m l r x s).2.2.1]
  have hclosed : ArbiterInv (laneCloseAct l j v) := by
    have hinv : ArbiterHeld False v := ⟨hv ▸ judge_arbiter hm h harbiter, nofun⟩
    cases j with
    | job => exact ((arbiterHeld_kept False).jobClose v l hinv).1
    | stop => exact ((arbiterHeld_kept False).stopClose v l hinv).1
  have hgranted := passIfJoined_front hclosed v l
  rw [hk] at hgranted
  rw [decided, ← hv, afterDecision_line, laneDecided_one j hdue, ← hfront]
  exact shortClose_granted hgranted

end

/-- In DRAIN the decision of a waiting lane's stop row closes the lane's last stack (R160). -/
theorem decision_closes_stop {s v : State} {m : MachineRecord} {l : Lane} {r : Row} {x : Reasons}
    (hm : s.rnc.record = some m) (h : DecisionDue s m l r x) (harbiter : ArbiterInv s)
    (hpending : s.rnc.stopPending.get l = true) (hrow : s.rnc.stopRows.get l = some r.number)
    (hjob : s.jbc.closePending.get l = false) (hv : v = judge m l r x s) :
    ∃ t, exec (.decision l) s = .next t ∧ t.rnc.stopPending.get l = false ∧
      LastClosed .shortStop s.trc.front (v.skc.get l).line (t.skc.get l).line ∧
      RestKept (v.skc.get l).line (t.skc.get l).line := by
  obtain ⟨hrnc, -, -, -, hclose⟩ := judge_blocks m l r x s
  have hdue : ∀ i, laneCloseDue l r.number i v = true ↔ i = .stop := by
    rintro (_ | _)
    · simp [laneCloseDue, jobCloseDue, hv, hclose, hjob]
    · simp [laneCloseDue, stopCloseDue, hv, hrnc, hpending, hrow]
  refine ⟨_, exec_decision hm h, ?_, decided_closes hm h harbiter hv .stop hdue .shortStop fun _ => rfl⟩
  refine afterDecision_stopPending _ _ (laneDecided_stopped ?_)
  rw [← hv]
  exact (hdue .stop).2 rfl

/-- The decision of PREVIOUS's last row in a waiting lane closes the lane's last stack (R149). -/
theorem decision_closes_job {s v : State} {m : MachineRecord} {l : Lane} {r : Row} {x : Reasons}
    {c : JobContext} (hm : s.rnc.record = some m) (h : DecisionDue s m l r x)
    (harbiter : ArbiterInv s) (hc : s.jbc.previous = some c) (hlast : c.lastRow = some r.number)
    (hpending : s.jbc.closePending.get l = true) (hstop : s.rnc.stopPending.get l = false)
    (hv : v = judge m l r x s) :
    ∃ t, exec (.decision l) s = .next t ∧ t.jbc.closePending.get l = false ∧
      LastClosed .shortJob s.trc.front (v.skc.get l).line (t.skc.get l).line ∧
      RestKept (v.skc.get l).line (t.skc.get l).line := by
  obtain ⟨hrnc, -, -, -, hclose⟩ := judge_blocks m l r x s
  have hprevious : ∃ c', v.jbc.previous = some c' ∧ c'.lastRow = some r.number := by
    obtain ⟨c', hc', hsame⟩ := judge_keeps_previous m l r x s hc
    exact ⟨c', hv ▸ hc', hsame.lastRow.trans hlast⟩
  obtain ⟨c', hc', hlast'⟩ := hprevious
  have hpending' : v.jbc.closePending.get l = true := by rw [hv, hclose, hpending]
  have hdue : ∀ i, laneCloseDue l r.number i v = true ↔ i = .job := by
    rintro (_ | _)
    · simp [laneCloseDue, jobCloseDue, hc', hlast', hpending']
    · simp [laneCloseDue, stopCloseDue, hv, hrnc, hstop]
  refine ⟨_, exec_decision hm h, ?_, decided_closes hm h harbiter hv .job hdue .shortJob fun _ => rfl⟩
  refine afterDecision_closePending _ _ ?_
  rw [← hv, laneDecided_one .job hdue, (passIfJoined_keeps _ _).2.2.2.2.2.2.1]
  simp [laneCloseAct, jobClose, dropClosePending]

/-! ### The freeing of PREVIOUS (R150) -/

theorem lastRowDecided_iff (c : JobContext) (s : State) :
    lastRowDecided c s = true ↔ LastRowDone c s := by
  unfold lastRowDecided LastRowDone
  cases hlast : c.lastRow with
  | none => simp
  | some n =>
    simp only [Option.some.injEq]
    cases hfind : findRow n s with
    | none =>
      simp only [true_iff]
      rintro _ q rfl hq
      exact absurd (hfind.symm.trans hq) nofun
    | some q =>
      constructor
      · rintro hdone _ q' rfl hq'
        rwa [← Option.some.inj (hfind.symm.trans hq')]
      · exact fun h => h n q rfl hfind

theorem noOldArrivals_iff (c : JobContext) (s : State) :
    noOldArrivals c s = true ↔ ∀ k, NoneOfItsRows c (s.lnd.get k).arrivals := by
  unfold noOldArrivals NoneOfItsRows
  cases hlast : c.lastRow with
  | none => simp
  | some n =>
    simp only [List.all_eq_true, Bool.not_eq_true', Option.some.injEq]
    exact ⟨fun h k n' e a ha => e ▸ h k (mem_allLanes k) a ha, fun h k _ a ha => h k n rfl a ha⟩

theorem otherRecords_append (q : List Record) (r : Record) :
    otherRecords (q ++ [r]) = otherRecords q + if r.isStack then 0 else 1 := by
  unfold otherRecords
  cases h : r.isStack <;> simp [h]

/-- A record that is not a STACK record joins the queue or is dropped (R177). -/
theorem handedOver_queueRecord {r : Record} (hr : r.isStack = false) (s : State) :
    HandedOver r s (queueRecord r s) := by
  refine ⟨fun h => ?_, fun h => ?_⟩
  · rw [queueRecord_joins (.inr h)]
    exact ⟨rfl, rfl, rfl⟩
  · rw [queueRecord_dropped hr h]
    exact ⟨rfl, rfl, rfl⟩

theorem handedOver_of_rpw {r : Record} {s s' t t' : State} (h : HandedOver r s t)
    (hs : s'.rpw = s.rpw) (ht : t'.rpw = t.rpw) : HandedOver r s' t' := by
  unfold HandedOver at h ⊢
  rwa [hs, ht]

theorem freePrevious_freed (c : JobContext) (s : State) : PreviousFreed c s (freePrevious c s) where
  jobs := by
    refine ⟨rfl, rfl, ?_⟩
    exact (freePrevious_keeps c s).2.2.2.2.2.2.2.2.2.2.2.2.2.2.2.2.2.2.2.2.2.2.2
  record := handedOver_of_rpw (handedOver_queueRecord (r := endOf c) rfl s) rfl (by
    simp [freePrevious]
    rfl)
  rows := by
    simp [freePrevious]
    rfl
  targets := fun l => by
    simp [freePrevious]

theorem previousFreed_congr {c : JobContext} {s s' t : State} (h : PreviousFreed c s t)
    (hcurrent : s'.jbc.current = s.jbc.current) (hrpw : s'.rpw = s.rpw) (hrot : s'.rot = s.rot) :
    PreviousFreed c s' t where
  jobs := ⟨h.jobs.1, h.jobs.2.1, h.jobs.2.2.trans hcurrent.symm⟩
  record := handedOver_of_rpw h.record hrpw rfl
  rows := by rw [hrot, h.rows]
  targets := h.targets

theorem freeingTest_freed {c : JobContext} {s : State} (hc : s.jbc.previous = some c)
    (hlast : LastRowDone c s) (harrivals : ∀ k, NoneOfItsRows c (s.lnd.get k).arrivals) :
    freeingTest s = freePrevious c s := by
  unfold freeingTest
  rw [hc]
  show (if _ then _ else _) = _
  rw [if_pos]
  rw [Bool.and_eq_true, lastRowDecided_iff, noOldArrivals_iff]
  exact ⟨hlast, harrivals⟩

theorem freeingTest_kept {c : JobContext} {s : State} (hc : s.jbc.previous = some c)
    (h : ¬LastRowDone c s ∨ ∃ k, ¬NoneOfItsRows c (s.lnd.get k).arrivals) : freeingTest s = s := by
  refine freeingTest_waits hc ?_
  rw [← Bool.not_eq_true, ← Bool.not_eq_true, lastRowDecided_iff, noOldArrivals_iff, not_forall]
  exact h

theorem lastRowDone_congr {c c' : JobContext} {s s' : State} (hc : c'.lastRow = c.lastRow)
    (hrot : s'.rot = s.rot) : LastRowDone c' s' ↔ LastRowDone c s := by
  unfold LastRowDone findRow
  rw [hc, hrot]

theorem noneOfItsRows_congr {c c' : JobContext} {q : List Arrival} (hc : c'.lastRow = c.lastRow) :
    NoneOfItsRows c' q ↔ NoneOfItsRows c q := by
  unfold NoneOfItsRows
  rw [hc]

/-- Outside DRAIN a decision is followed by the freeing test, when its row is fully decided, alone. -/
theorem decided_of_run {s : State} {m : MachineRecord} {l : Lane} {r : Row} {x : Reasons}
    (hrun : s.rnc.runState ≠ .drain) (hfind : findRow r.number s = some r) :
    (((∀ k, k ≠ l → openIn k r = false) ∧ decided m l r x s =
        freeingTest (laneDecided l r.number (judge m l r x s))) ∨
      ((∃ k, k ≠ l ∧ openIn k r = true) ∧
        decided m l r x s = laneDecided l r.number (judge m l r x s))) := by
  have hkeep := laneDecided_closes l r.number (judge m l r x s)
  have hstate : (laneDecided l r.number (judge m l r x s)).rnc.runState = s.rnc.runState := by
    rw [hkeep.rnc, (judge_blocks m l r x s).1]
  obtain ⟨e, he, hfound⟩ := findRow_judge m l r x s r.number
  have hrow : findRow r.number (laneDecided l r.number (judge m l r x s)) =
      some (frozenRow r.number l e r) := by
    rw [show findRow r.number (laneDecided l r.number (judge m l r x s)) =
      findRow r.number (judge m l r x s) by simp only [findRow, hkeep.rot], hfound, hfind]
    rfl
  have hdone : rowDecided r.number (laneDecided l r.number (judge m l r x s)) = true ↔
      ∀ k, k ≠ l → openIn k r = false := by
    simp only [rowDecided, hrow, fullyDecided_openIn, ← Bool.not_eq_true, openIn_frozenRow he]
    refine forall_congr' fun k => ?_
    simp only [ne_eq, not_true_eq_false, false_or, not_and]
    exact ⟨fun h hk ho => h ho hk, fun h ho hk => h hk ho⟩
  unfold decided afterDecision
  generalize laneDecided l r.number (judge m l r x s) = v at hdone hstate
  have hend : ∀ u, u.rnc.runState = v.rnc.runState → endTest u = u := fun u hu =>
    endTest_of_not_drain (by rw [hu, hstate]; exact hrun)
  by_cases hall : ∀ k, k ≠ l → openIn k r = false
  · refine .inl ⟨hall, ?_⟩
    simp only [hdone.2 hall, Bool.true_or, if_true]
    exact hend _ (by rw [(freeingTest_keeps v).2.2.2.2.2.2.1])
  · have hopen : ∃ k, k ≠ l ∧ openIn k r = true := by simpa using hall
    refine .inr ⟨hopen, ?_⟩
    have hnot : rowDecided r.number v = false := by
      rw [← Bool.not_eq_true, hdone]
      exact hall
    simp only [hnot, Bool.false_or, Bool.false_eq_true, if_false, hend v rfl, ite_self]

/-- Outside DRAIN the decision that leaves PREVIOUS's last row decided and no arrival of its rows frees
PREVIOUS, and no other decision does (R150). -/
theorem decision_frees {s v : State} {m : MachineRecord} {l : Lane} {r : Row} {x : Reasons}
    {c c' : JobContext} (hm : s.rnc.record = some m) (h : DecisionDue s m l r x)
    (hc : s.jbc.previous = some c) (hv : v = judge m l r x s)
    (hrun : s.rnc.runState = .run ∨ s.rnc.runState = .halted) (hc' : v.jbc.previous = some c')
    (hfind : findRow r.number s = some r) :
    ((∀ k, k ≠ l → openIn k r = false) → LastRowDone c v →
      (∀ k, NoneOfItsRows c (v.lnd.get k).arrivals) →
      ∃ t, exec (.decision l) s = .next t ∧ PreviousFreed c' v t) ∧
    ((∃ k, k ≠ l ∧ openIn k r = true) ∨ ¬LastRowDone c v ∨
      (∃ k, ¬NoneOfItsRows c (v.lnd.get k).arrivals) →
      ∃ t, exec (.decision l) s = .next t ∧ t.jbc.previous = some c') := by
  have hdrain : s.rnc.runState ≠ .drain := by
    obtain e | e := hrun <;> rw [e] <;> exact nofun
  have hlast : c'.lastRow = c.lastRow := by
    obtain ⟨c₀, hc₀, hsame⟩ := judge_previous m l r x s (hv ▸ hc')
    rw [hsame.lastRow, ← Option.some.inj (hc.symm.trans hc₀)]
  have hdecided := decided_of_run (m := m) (l := l) (x := x) hdrain hfind
  have hkeep := laneDecided_closes l r.number v
  rw [← hv] at hdecided
  generalize laneDecided l r.number v = u at hdecided hkeep
  have hcu : u.jbc.previous = some c' := by rw [hkeep.jbc]; exact hc'
  have hdone : LastRowDone c' u ↔ LastRowDone c v := lastRowDone_congr hlast hkeep.rot
  have hnone : (∀ k, NoneOfItsRows c' (u.lnd.get k).arrivals) ↔
      ∀ k, NoneOfItsRows c (v.lnd.get k).arrivals := by
    rw [hkeep.lnd]
    exact forall_congr' fun k => noneOfItsRows_congr hlast
  rw [exec_decision hm h]
  refine ⟨fun hall hrow harrivals => ?_, fun hleft => ?_⟩
  · obtain ⟨-, heq⟩ | ⟨⟨k, hk, ho⟩, -⟩ := hdecided
    · rw [heq, freeingTest_freed hcu (hdone.2 hrow) (hnone.2 harrivals)]
      exact ⟨_, rfl, previousFreed_congr (freePrevious_freed c' u) (by rw [hkeep.jbc])
        hkeep.rpw.symm hkeep.rot.symm⟩
    · simp [hall k hk] at ho
  · obtain ⟨hall, heq⟩ | ⟨-, heq⟩ := hdecided
    · have hkept : freeingTest u = u := by
        refine freeingTest_kept hcu ?_
        obtain ⟨k, hk, ho⟩ | hrow | harrivals := hleft
        · simp [hall k hk] at ho
        · exact .inl (mt hdone.1 hrow)
        · refine .inr ?_
          rw [← not_forall, hnone, not_forall]
          exact harrivals
      exact ⟨_, rfl, by rw [heq, hkept, hcu]⟩
    · exact ⟨_, rfl, by rw [heq, hcu]⟩

/-- A resolution, with the freeing test that follows it. -/
theorem exec_resolves {s : State} {l : Lane} {a : Arrival} {rest : List Arrival} {cmd : Instr}
    (ha : (s.lnd.get l).arrivals = a :: rest) (h : Resolves s l a cmd) :
    ∃ b, exec cmd s = .next (resolveOldest l b s) := by
  obtain ⟨rfl, hpassed⟩ | ⟨rfl, hrun, hfront, hlow, hhigh⟩ := h
  · refine ⟨false, ?_⟩
    have hdue : windowDue l s = true := by simp only [windowDue, ha, hpassed]
    show Host.Outcome.next (windowTest l s) = _
    rw [windowTest, if_pos hdue]
  · refine ⟨true, ?_⟩
    have hmatch : matchEye l s = resolveOldest l true s := by
      simp only [matchEye, ha, withinRange, hlow, hhigh, Bool.and_self, if_true]
    show execEye l s = _
    rw [execEye, if_pos, hmatch]
    rw [Bool.and_eq_true, running_of_faultsRaised]
    exact ⟨hrun, by simp [atFront, hfront]⟩

/-- The resolution that leaves PREVIOUS's last row decided and no arrival of its rows frees PREVIOUS, and no
other resolution does (R150). -/
theorem resolution_frees {s : State} {l : Lane} {a : Arrival} {rest : List Arrival} {c : JobContext}
    {cmd : Instr} (ha : (s.lnd.get l).arrivals = a :: rest) (h : Resolves s l a cmd)
    (hc : s.jbc.previous = some c) :
    (LastRowDone c s → NoneOfItsRows c rest →
      (∀ k, k ≠ l → NoneOfItsRows c (s.lnd.get k).arrivals) →
      ∃ t, exec cmd s = .next t ∧ PreviousFreed c s t) ∧
    (¬LastRowDone c s ∨ ¬NoneOfItsRows c rest ∨
      (∃ k, k ≠ l ∧ ¬NoneOfItsRows c (s.lnd.get k).arrivals) →
      ∃ t, exec cmd s = .next t ∧ t.jbc = s.jbc ∧ t.rot = s.rot) := by
  obtain ⟨b, hexec⟩ := exec_resolves ha h
  have heq : resolveOldest l b s =
      freeingTest (passIfJoined s (resolve l a.stackId b (setArrivals l rest s))) := by
    simp only [resolveOldest, ha, afterResolution]
  rw [hexec, heq]
  generalize hu : passIfJoined s (resolve l a.stackId b (setArrivals l rest s)) = u
  have hjbc : u.jbc = s.jbc := by simp [← hu, setArrivals]
  have hrot : u.rot = s.rot := by simp [← hu, setArrivals]
  have hrpw : u.rpw = s.rpw := by simp [← hu, setArrivals]
  have hlnd : u.lnd = s.lnd.set l { s.lnd.get l with arrivals := rest } := by
    simp [← hu, setArrivals, setDecider]
  have hcu : u.jbc.previous = some c := by rw [hjbc, hc]
  have hdone : LastRowDone c u ↔ LastRowDone c s := lastRowDone_congr rfl hrot
  have harrivals : ∀ k, (u.lnd.get k).arrivals =
      if k = l then rest else (s.lnd.get k).arrivals := by
    intro k
    rw [hlnd, Lanes.get_set]
    split <;> rfl
  refine ⟨fun hrow hrest hothers => ?_, fun hleft => ?_⟩
  · have hnone : ∀ k, NoneOfItsRows c (u.lnd.get k).arrivals := by
      intro k
      rw [harrivals]
      split
      · exact hrest
      next hk => exact hothers k hk
    rw [freeingTest_freed hcu (hdone.2 hrow) hnone]
    exact ⟨_, rfl, previousFreed_congr (freePrevious_freed c u) (by rw [hjbc]) hrpw.symm hrot.symm⟩
  · have hkept : freeingTest u = u := by
      refine freeingTest_kept hcu ?_
      obtain hrow | hrest | ⟨k, hk, hother⟩ := hleft
      · exact .inl (mt hdone.1 hrow)
      · exact .inr ⟨l, by rwa [harrivals, if_pos rfl]⟩
      · exact .inr ⟨k, by rwa [harrivals, if_neg hk]⟩
    exact ⟨u, by rw [hkept], hjbc, hrot⟩

end Sys2Proof.Machine
end

section
/-! STOP and the end of DRAIN (R159 to R161). -/
namespace Sys2Proof.Machine

/-! ### The knife at STOP -/

/-- The fire test looks at travel, track, knife, jobs, the record and the run. -/
theorem fireTest_congr (gap : Bool) {s t : State} (htrc : t.trc = s.trc) (hrot : t.rot = s.rot)
    (hknt : t.knt = s.knt) (hjbc : t.jbc = s.jbc) (hrecord : t.rnc.record = s.rnc.record)
    (hrunning : running t = running s) :
    (fireTest gap t).knt = (fireTest gap s).knt ∧ (fireTest gap t).rot = (fireTest gap s).rot := by
  have hcontext : ∀ tag, contextOf tag t = contextOf tag s := by
    intro tag
    simp only [contextOf, hjbc]
  have htarget : ∀ r, fireTarget r t = fireTarget r s := by
    intro r
    simp only [fireTarget, hknt]
  have hcut : fireableCut t = fireableCut s := by
    have hnext : nextCut t = nextCut s := by simp only [nextCut, hrot]
    have hfront : atFront t = atFront s := by simp only [atFront, htrc]
    have horder : beyondLastFire t = beyondLastFire s := by
      unfold beyondLastFire
      rw [hknt, htrc]
    unfold fireableCut
    rw [hnext]
    cases nextCut s with
    | none => rfl
    | some r =>
      dsimp only
      rw [htrc, htarget, hknt, hrunning, hfront, horder]
  have hbad : ∀ r late, judgedBad r late t = judgedBad r late s := by
    intro r late
    simp only [judgedBad, hcontext]
  have htime : strokeTime t = strokeTime s := by
    simp only [strokeTime, hrecord]
  simp only [fireTest, hcut]
  cases fireableCut s with
  | none => exact ⟨hknt, hrot⟩
  | some r =>
    simp only [fireCut, latenessOf, htarget, htrc, hbad, htime, hknt]
    refine ⟨rfl, ?_⟩
    simp only [setTrack, State.setKnt_rot, hrot]
    rfl

/-- The rows that a fire test leaves: the numbers and the entries stay. -/
theorem fireTest_rows (gap : Bool) (s : State) : ∃ f : Row → Row,
    (∀ r, (f r).number = r.number ∧ (f r).entries = r.entries) ∧
    (fireTest gap s).rot = { s.rot with track := s.rot.track.map f } := by
  unfold fireTest
  split
  next r _ =>
    refine ⟨fun x => if x.number = r.number then { x with trail := .firing s.trc.front } else x,
      fun x => ?_, rfl⟩
    dsimp only
    split <;> exact ⟨rfl, rfl⟩
  next => exact ⟨id, fun r => ⟨rfl, rfl⟩, by rw [List.map_id]⟩

/-! ### Lanes in turn -/

/-- A fold over the lanes each step of which touches what one lane shows meets, at each lane, a state that
shows of the lane what the first state shows. -/
theorem foldl_lanes {α : Type} {f : State → Lane → State} (g : Lane → State → α)
    (h : ∀ a j l, l ≠ j → g l (f a j) = g l a) {P : State → Prop} (hP : ∀ a l, P a → P (f a l))
    (l : Lane) {s : State} (hs : P s) :
    ∃ a, P a ∧ g l a = g l s ∧ g l (allLanes.foldl f s) = g l (f a l) := by
  have h0 := hP s .l0 hs
  have h1 := hP _ .l1 h0
  have h2 := hP _ .l2 h1
  simp only [allLanes, List.foldl_cons, List.foldl_nil]
  cases l with
  | l0 =>
    refine ⟨s, hs, rfl, ?_⟩
    rw [h _ .l3 .l0 (by decide), h _ .l2 .l0 (by decide), h _ .l1 .l0 (by decide)]
  | l1 =>
    refine ⟨f s .l0, h0, h _ .l0 .l1 (by decide), ?_⟩
    rw [h _ .l3 .l1 (by decide), h _ .l2 .l1 (by decide)]
  | l2 =>
    refine ⟨f (f s .l0) .l1, h1, ?_, ?_⟩
    · rw [h _ .l1 .l2 (by decide), h _ .l0 .l2 (by decide)]
    · rw [h _ .l3 .l2 (by decide)]
  | l3 =>
    refine ⟨f (f (f s .l0) .l1) .l2, h2, ?_, rfl⟩
    rw [h _ .l2 .l3 (by decide), h _ .l1 .l3 (by decide), h _ .l0 .l3 (by decide)]

/-! ### The stop rows (R159) -/

/-- What STOP fixes depends on the numbers and the entries of the rows. -/
theorem stopRow_map {f : Row → Row} (h : ∀ r, (f r).number = r.number ∧ (f r).entries = r.entries)
    (l : Lane) (track : List Row) : stopRow l (track.map f) = stopRow l track := by
  simp only [stopRow, ← List.map_reverse, List.find?_map, Option.map_map]
  have hp : ((fun r : Row => (r.entries.get l).isSome) ∘ f) = fun r => (r.entries.get l).isSome :=
    funext fun r => by simp [(h r).2]
  have hn : ((fun r : Row => r.number) ∘ f) = fun r => r.number := funext fun r => (h r).1
  rw [hp, hn]

/-- A lane waits for its stop row when that is present and OPEN in it. -/
theorem stopWaits_iff (l : Lane) (s : State) : stopWaits l s = true ↔ StopRowOpen s l := by
  unfold stopWaits StopRowOpen decidedIn
  cases hrow : stopRow l s.rot.track with
  | none => simp
  | some n =>
    cases hfind : findRow n s with
    | none => simp [hfind]
    | some r => simp [hfind]

theorem stopWaits_map {f : Row → Row} (h : ∀ r, (f r).number = r.number ∧ (f r).entries = r.entries)
    {s t : State} (hrot : t.rot.track = s.rot.track.map f) (l : Lane) :
    stopWaits l t = stopWaits l s := by
  have hopen : ∀ r, openIn l (f r) = openIn l r := fun r => by simp only [openIn, (h r).2]
  have hdecided : ∀ n, decidedIn l n t = decidedIn l n s := by
    intro n
    simp only [decidedIn, findRow, hrot, find?_map_number (fun r => (h r).1)]
    cases s.rot.track.find? fun r => r.number == n with
    | none => rfl
    | some r => simp [hopen]
  simp only [stopWaits, hrot, stopRow_map h, hdecided]

/-- DRAIN as an accepted STOP has begun it. -/
structure Stopped (s t : State) : Prop where
  runState : t.rnc.runState = .drain
  rows : ∀ l, t.rnc.stopRows.get l = stopRow l s.rot.track
  waits : ∀ l, t.rnc.stopPending.get l = stopWaits l s
  still : ∀ l, stopWaits l t = stopWaits l s
  attention : s.rnc.runState ≠ .drain → t.pxm.attention.state = true
  tracker : t.mkt.state = .idle ∧ t.mkt.deglitch = none ∧ t.mkt.expected = none ∧
    t.mkt.newest = s.mkt.newest ∧ t.mkt.coastCount = 0
  lastNumber : t.rot.lastNumber = s.rot.lastNumber
  decided : (∀ r ∈ t.rot.track, fullyDecided r = true) ↔ ∀ r ∈ s.rot.track, fullyDecided r = true
  kept : t.trc = s.trc ∧ t.lnd = s.lnd ∧ t.skc = s.skc ∧ t.tka = s.tka ∧ t.jbc = s.jbc ∧
    t.rpw = s.rpw ∧ t.ntp = s.ntp

theorem stopBegun_stopped (s : State) : Stopped s (stopBegun s) := by
  obtain ⟨f, hf, hrot⟩ := fireTest_rows false (setRunState .drain s)
  have hrot' : (stopBegun s).rot = { s.rot with track := s.rot.track.map f } := by
    simp only [stopBegun, State.setRnc_rot, trackerToIdle_keeps, hrot, setRunState_keeps]
  have hfired : (trackerToIdle (fireTest false (setRunState .drain s))).rot.track =
      s.rot.track.map f := by
    simp only [trackerToIdle_keeps, hrot, setRunState_keeps]
  have hdecided : ∀ r, fullyDecided (f r) = fullyDecided r := fun r => by
    simp only [fullyDecided, openIn, (hf r).2]
  constructor
  case runState => simp [stopBegun, setRunState_rnc]
  case rows =>
    intro l
    simp only [stopBegun, State.setRnc_rnc, Lanes.get_ofFn, hfired, stopRow_map hf]
  case waits =>
    intro l
    simp only [stopBegun, State.setRnc_rnc, Lanes.get_ofFn, stopWaits_map hf hfired]
  case still => exact stopWaits_map hf (by rw [hrot'])
  case attention =>
    intro h
    simp [stopBegun, setRunState_attention, h]
  case tracker => simp [stopBegun, trackerToIdle, Mkt.toIdle]
  case lastNumber => rw [hrot']
  case decided => simp [hrot', hdecided]
  case kept =>
    have hlnd : (setRunState .drain s).lnd = s.lnd := by
      unfold setRunState
      dsimp only
      split <;> rfl
    simp [stopBegun, hlnd]

/-! ### The closes of STOP (R159) -/

theorem stopCloses_line {s : State} (h : ArbiterInv s) (l : Lane) :
    (stopWaits l s = true → FrontGranted (s.skc.get l).line ((stopCloses s).skc.get l).line) ∧
    (stopWaits l s = false →
      LastClosed .shortStop s.trc.front (s.skc.get l).line ((stopCloses s).skc.get l).line ∧
      RestKept (s.skc.get l).line ((stopCloses s).skc.get l).line) := by
  have hstep : ∀ a j, ArbiterInv a ∧ a.trc = s.trc →
      ArbiterInv (if stopWaits j s then a else shortClose .shortStop j a) ∧
      (if stopWaits j s then a else shortClose .shortStop j a).trc = s.trc := by
    rintro a j ⟨ha, htrc⟩
    split
    · exact ⟨ha, htrc⟩
    · exact ⟨(shortClose_arbiter (J := False) _ _ _ ⟨ha, nofun⟩).1, by simp [htrc]⟩
  have hother : ∀ a j k, k ≠ j →
      ((if stopWaits j s then a else shortClose .shortStop j a).skc.get k).line =
        (a.skc.get k).line := by
    intro a j k hk
    split
    · rfl
    · rw [shortClose_line_other hk]
  obtain ⟨a, ⟨-, htrc⟩, hline, hfold⟩ := foldl_lanes (fun k a => (a.skc.get k).line) hother hstep l
    (s := s) ⟨h, rfl⟩
  have hgranted : FrontGranted ((allLanes.foldl (fun a j =>
      if stopWaits j s then a else shortClose .shortStop j a) s).skc.get l).line
      ((stopCloses s).skc.get l).line :=
    passIfJoined_front (foldl_inv (P := fun a => ArbiterInv a ∧ a.trc = s.trc) hstep allLanes
      ⟨h, rfl⟩).1 s l
  rw [hfold] at hgranted
  refine ⟨fun hw => ?_, fun hw => ?_⟩
  · rw [if_pos hw, hline] at hgranted
    exact hgranted
  · rw [if_neg (by simp [hw])] at hgranted
    rw [← htrc, ← hline]
    exact shortClose_granted hgranted

theorem frontGranted_length {q q' : List Stack} (h : FrontGranted q q') : q'.length = q.length := by
  obtain rfl | ⟨x, rest, c, rfl, -, rfl⟩ := h
  · rfl
  · rfl

/-- A grant leaves a last stack that is FILLING. -/
theorem frontGranted_last {q q' : List Stack} (h : FrontGranted q q') {x : Stack}
    (hx : q.getLast? = some x) (hfill : x.state = .filling) : q'.getLast? = some x := by
  obtain rfl | ⟨y, rest, c, rfl, hclosed, rfl⟩ := h
  · exact hx
  · cases rest with
    | nil =>
      obtain rfl : y = x := by simpa using hx
      rw [hfill] at hclosed
      cases hclosed
    | cons z rest => simpa using hx

/-- The command STOP in RUN. -/
theorem exec_stop {s : State} (h : s.rnc.runState = .run) :
    exec .stop s = .next (endTest (stopCloses (stopBegun (commandOnly 2#8 .accepted s)))) := by
  show Host.Outcome.next (commandStop s) = _
  rw [commandStop, h]
  rfl

/-- The first half of O8: STOP with something left begins DRAIN (R159). -/
theorem stop_begins_drain {s : State} (hrun : s.rnc.runState = .run) (hleft : LeftToDrain s)
    (harbiter : ArbiterInv s) :
    ∃ t u, exec .stop s = .next t ∧ exec .fire s = .next u ∧
      t.rnc.runState = .drain ∧ t.pxm.attention.state = true ∧
      t.mkt.state = .idle ∧ t.mkt.deglitch = none ∧ t.mkt.expected = none ∧
      t.mkt.newest = s.mkt.newest ∧
      (∀ l, t.rnc.stopRows.get l = stopRow l s.rot.track) ∧
      (∀ l, t.rnc.stopPending.get l = true ↔ StopRowOpen s l) ∧
      (∀ l, StopRowOpen s l →
        (t.skc.get l).line.length = (s.skc.get l).line.length ∧
        ∀ x, (s.skc.get l).line.getLast? = some x → x.state = .filling →
          (t.skc.get l).line.getLast? = some x) ∧
      (∀ l, StopRowOpen s l → FrontGranted (s.skc.get l).line (t.skc.get l).line) ∧
      (∀ l, ¬StopRowOpen s l →
        LastClosed .shortStop s.trc.front (s.skc.get l).line (t.skc.get l).line ∧
        RestKept (s.skc.get l).line (t.skc.get l).line) ∧
      ReactionFrame (commandOnly 2#8 .accepted s) t ∧ t.knt = u.knt ∧ t.lnd = s.lnd ∧
      t.rot = u.rot ∧ t.jbc = s.jbc ∧ t.rpw = s.rpw ∧ t.ntp = s.ntp := by
  generalize hv : commandOnly 2#8 .accepted s = v
  have hblocks : v.skc = s.skc ∧ v.rot = s.rot ∧ v.mkt = s.mkt ∧ v.trc = s.trc ∧ v.lnd = s.lnd ∧
      v.jbc = s.jbc ∧ v.rpw = s.rpw ∧ v.ntp = s.ntp ∧ v.knt = s.knt ∧ v.tka = s.tka := by
    subst hv
    exact ⟨rfl, rfl, rfl, rfl, rfl, rfl, rfl, rfl, rfl, rfl⟩
  obtain ⟨hskc, hrot, hmkt, htrc, hlnd, hjbc, hrpw, hntp, hknt, htka⟩ := hblocks
  have hstop := stopBegun_stopped v
  have hreacts := (stopBegun_reacts v).trans (stopCloses_reacts _)
  have hbegun : ArbiterInv (stopBegun v) := by
    have hinv : ArbiterHeld False v := hv ▸ ⟨{ harbiter with }, nofun⟩
    exact ((arbiterHeld_kept False).stopBegun v (by rw [← hv]; exact hrun) hinv).1
  have hwaits : ∀ l, stopWaits l (stopBegun v) = true ↔ StopRowOpen s l := fun l => by
    rw [hstop.still, stopWaits_iff]
    unfold StopRowOpen findRow
    rw [hrot]
  have hfire : (stopBegun v).knt = (fireTest false s).knt ∧
      (stopBegun v).rot = (fireTest false s).rot := by
    have hrunning : running (setRunState .drain v) = running s := by
      simp [running, setRunState_rnc, hrun]
    have h := fireTest_congr false (s := s) (t := setRunState .drain v) (by simp [htrc])
      (by simp [hrot]) (by simp [hknt]) (by simp [hjbc])
      (by rw [← hv]; simp [setRunState_rnc, commandOnly]) hrunning
    simpa [stopBegun] using h
  obtain ⟨hidle, hdeglitch, hexpected, hnewest, -⟩ := hstop.tracker
  obtain ⟨htrc', hlnd', hskc', -, hjbc', hrpw', hntp'⟩ := hstop.kept
  have hlines := stopCloses_line hbegun
  rw [htrc', htrc, hskc', hskc] at hlines
  have hends : endTest (stopCloses (stopBegun v)) = stopCloses (stopBegun v) := by
    refine endTest_waits ?_
    rw [← Bool.not_eq_true, drainOver_iff]
    rintro ⟨-, hdecided, -, hempty⟩
    obtain ⟨r, hr, hopen⟩ | ⟨l, hl⟩ := hleft
    · rw [(stopCloses_keeps _).2.2.1, hstop.decided, hrot] at hdecided
      rw [hdecided r hr] at hopen
      cases hopen
    · have hlength : ((stopCloses (stopBegun v)).skc.get l).line.length =
          (s.skc.get l).line.length := by
        cases hw : stopWaits l (stopBegun v) with
        | true => exact frontGranted_length ((hlines l).1 hw)
        | false => exact ((hlines l).2 hw).1.2
      rw [hempty l] at hlength
      exact hl (List.eq_nil_of_length_eq_zero hlength.symm)
  refine ⟨_, _, by rw [exec_stop hrun, hv, hends], rfl, ?_⟩
  obtain ⟨hktrc, hkmkt, hkrot, hkknt, hkntp, hklnd, hkjbc, hkrnc, hkpxm, hkrpw, -⟩ :=
    stopCloses_keeps (stopBegun v)
  rw [hkmkt, hkrot, hkknt, hkntp, hklnd, hkjbc, hkrnc, hkpxm, hkrpw]
  refine ⟨hstop.runState, hstop.attention (by rw [← hv]; simp [commandOnly, hrun]), hidle, hdeglitch,
    hexpected, hnewest.trans (by rw [hmkt]), fun l => by rw [hstop.rows, hrot],
    fun l => by rw [hstop.waits, ← hstop.still, hwaits], fun l hopen => ?_,
    fun l hopen => (hlines l).1 ((hwaits l).2 hopen),
    fun l hopen => (hlines l).2 (by rw [← Bool.not_eq_true, hwaits]; exact hopen), hreacts, hfire.1,
    hlnd'.trans hlnd, hfire.2, hjbc'.trans hjbc, hrpw'.trans hrpw, hntp'.trans hntp⟩
  have hgranted := (hlines l).1 ((hwaits l).2 hopen)
  exact ⟨frontGranted_length hgranted, fun x hx hfill => frontGranted_last hgranted hx hfill⟩

/-- Settles O8: DRAIN as STOP begins it, and the close that a waiting lane's stop row brings. -/
theorem stopFixesStopRows : Obligations.StopFixesStopRows :=
  ⟨fun _ hrun hleft harbiter => stop_begins_drain hrun hleft harbiter,
    fun _ _ _ _ _ _ hm hdue harbiter _ hpending hrow hjob hv =>
      decision_closes_stop hm hdue harbiter hpending hrow hjob hv⟩

/-! ### The end of DRAIN (R161) -/

theorem endDrain_rnc (u : State) :
    (endDrain u).rnc = { u.rnc.noStops with runState := .ready } := by
  simp [endDrain, setRunState_rnc, clearStops]

theorem endDrain_ended {s u : State} (hrun : u.rnc.runState = .drain)
    (hnumber : u.rot.lastNumber = s.rot.lastNumber) : DrainEnded s (endDrain u) where
  runState := by
    refine ⟨by rw [endDrain_rnc], by simp [halt, endDrain_rnc], ?_⟩
    simp [endDrain, setRunState_attention, clearStops, hrun, Rnc.noStops]
  track := by simp [endDrain, emptyTrack, hnumber]
  tracker := by
    simp [endDrain, trackerToIdle, emptyTrack, Mkt.toIdle, Mkt.noNewest, clearStops]
  jobs := by simp [endDrain, endContexts, clearStops]
  stops := by simp [endDrain_rnc, Rnc.noStops]
  lanes := fun l => by
    have hskc : (endDrain u).skc = (endContexts (emptyTrack u)).skc := by
      simp [endDrain, trackerToIdle, clearStops]
    have hlnd : (endDrain u).lnd = (u.lnd.map Lnd.rejectFlap) := by
      have hflaps : ∀ v : State, (setRunState .ready v).lnd = v.lnd.map Lnd.rejectFlap := by
        intro v
        unfold setRunState flapsToReject
        dsimp only
        split <;> rfl
      rw [endDrain, hflaps]
      simp [trackerToIdle, clearStops]
    rw [hskc, hlnd]
    exact ⟨by simp [Lnd.rejectFlap], (endContexts_line _ l).2.2.1, (endContexts_line _ l).2.2.2⟩

theorem endDrain_rpw (u : State) : (endDrain u).rpw =
    (queueJobEnd u.jbc.current (queueJobEnd u.jbc.previous (emptyTrack u))).rpw := by
  simp [endDrain, endContexts, trackerToIdle, clearStops]

theorem queueJobEnd_room {c : JobContext} {s : State} (h : otherRecords s.rpw.queue < 4) :
    (queueJobEnd (some c) s).rpw.queue = s.rpw.queue ++ [endOf c] := by
  rw [queueJobEnd, queueRecord_joins (.inr h)]
  rfl

theorem endDrain_one {u : State} {c : JobContext} (hc : u.jbc.current = some c)
    (hp : u.jbc.previous = none) (hroom : otherRecords u.rpw.queue < 4) :
    (endDrain u).rpw.queue = u.rpw.queue ++ [endOf c] := by
  have hempty : (emptyTrack u).rpw = u.rpw := by simp
  rw [endDrain_rpw, hc, hp]
  show (queueJobEnd (some c) (emptyTrack u)).rpw.queue = _
  rw [queueJobEnd_room (by rw [hempty]; exact hroom), hempty]

theorem endDrain_two {u : State} {c d : JobContext} (hc : u.jbc.current = some c)
    (hd : u.jbc.previous = some d) (hroom : otherRecords u.rpw.queue < 3) :
    (endDrain u).rpw.queue = u.rpw.queue ++ [endOf d, endOf c] := by
  have hempty : (emptyTrack u).rpw = u.rpw := by simp
  have hfirst := queueJobEnd_room (c := d) (s := emptyTrack u) (by rw [hempty]; omega)
  rw [hempty] at hfirst
  have hothers : otherRecords (queueJobEnd (some d) (emptyTrack u)).rpw.queue < 4 := by
    rw [hfirst, otherRecords_append]
    split <;> omega
  rw [endDrain_rpw, hc, hd, queueJobEnd_room hothers, hfirst]
  simp

/-! ### STOP of an empty part -/

theorem shortClose_empty {k : CloseKind} {l : Lane} {s : State} (h : (s.skc.get l).line = []) :
    shortClose k l s = s := by
  unfold shortClose
  rw [h]
  rfl

theorem stopCloses_empty {s : State} (h : ∀ l, (s.skc.get l).line = []) : stopCloses s = s := by
  have hfold : allLanes.foldl (fun a l => if stopWaits l s then a else shortClose .shortStop l a) s =
      s := by
    refine List.foldlRecOn allLanes _ (motive := fun a => a = s) rfl fun a ha l _ => ?_
    rw [ha, shortClose_empty (h l), ite_self]
  unfold stopCloses
  rw [hfold]
  exact if_pos rfl

/-- STOP of a part with no entry OPEN and no stack ends DRAIN at once (R159, R161). -/
theorem stop_ends_drain {s : State} (hrun : s.rnc.runState = .run)
    (hdecided : ∀ r ∈ s.rot.track, fullyDecided r = true) (hempty : ∀ l, (s.skc.get l).line = []) :
    ∃ t, exec .stop s = .next t ∧ DrainEnded s t ∧
      (∀ c, s.jbc.current = some c → s.jbc.previous = none → otherRecords s.rpw.queue < 4 →
        t.rpw.queue = s.rpw.queue ++ [endOf c]) ∧
      ∀ c d, s.jbc.current = some c → s.jbc.previous = some d → otherRecords s.rpw.queue < 3 →
        t.rpw.queue = s.rpw.queue ++ [endOf d, endOf c] := by
  have hstop := stopBegun_stopped (commandOnly 2#8 .accepted s)
  have hexec := exec_stop hrun
  generalize stopBegun (commandOnly 2#8 .accepted s) = w at hstop hexec
  obtain ⟨-, -, hskc, -, hjbc, hrpw, -⟩ := hstop.kept
  have hlines : ∀ l, (w.skc.get l).line = [] := by
    rw [hskc]
    exact hempty
  have hwaits : ∀ l, w.rnc.stopPending.get l = false := by
    intro l
    rw [hstop.waits, ← Bool.not_eq_true, stopWaits_iff]
    rintro ⟨n, r, -, hr, ho⟩
    have hr' : r ∈ s.rot.track := List.mem_of_find?_eq_some hr
    rw [(fullyDecided_openIn r).1 (hdecided r hr') l] at ho
    cases ho
  have hover : drainOver w = true :=
    (drainOver_iff w).2 ⟨hstop.runState, hstop.decided.2 hdecided, hwaits, hlines⟩
  rw [stopCloses_empty hlines, endTest_over hover] at hexec
  have hj : w.jbc = s.jbc := hjbc
  have hr : w.rpw = s.rpw := hrpw
  refine ⟨_, hexec, endDrain_ended hstop.runState hstop.lastNumber, fun c hc hp hroom => ?_,
    fun c d hc hd hroom => ?_⟩
  · rw [endDrain_one (hj ▸ hc) (hj ▸ hp) (by rwa [hr]), hr]
  · rw [endDrain_two (hj ▸ hc) (hj ▸ hd) (by rwa [hr]), hr]

/-! ### The decision of the last OPEN entry -/

/-- Over an empty line the closes at a lane decided event leave the lines and the arbiter. -/
theorem laneDecided_empty {l : Lane} {n : RowNum} {v : State} (h : (v.skc.get l).line = []) :
    (laneDecided l n v).skc = v.skc ∧ (laneDecided l n v).tka = v.tka := by
  have hkept := takeDue_inv (P := fun u => u.skc = v.skc ∧ u.tka = v.tka)
    (fun _ _ hu => hu) (due := laneCloseDue l n) (act := laneCloseAct l) (fun k u hu => by
      have hline : (u.skc.get l).line = [] := by rw [hu.1, h]
      cases k with
      | job =>
        simp only [laneCloseAct, jobClose, shortClose_empty hline]
        exact hu
      | stop =>
        simp only [laneCloseAct, stopClose, shortClose_empty hline]
        exact hu) [.job, .stop] ⟨rfl, rfl⟩
  unfold laneDecided passIfJoined
  rw [if_pos (by rw [hkept.2])]
  exact hkept

/-- Where the stop rows that wait are the one decided, no lane waits after its lane decided event. -/
theorem laneDecided_stops {l : Lane} {n : RowNum} {v : State}
    (h : ∀ k, v.rnc.stopPending.get k = true → k = l ∧ v.rnc.stopRows.get l = some n) (k : Lane) :
    (laneDecided l n v).rnc.stopPending.get k = false := by
  cases hk : v.rnc.stopPending.get k with
  | true =>
    obtain ⟨rfl, hrow⟩ := h k hk
    exact laneDecided_stopped (by simp [stopCloseDue, hk, hrow])
  | false =>
    obtain e | e := (laneDecided_closes l n v).pending
    · rw [e, hk]
    · rw [e, Lanes.get_set]
      split
      · rfl
      · exact hk

theorem decision_ends_drain {s : State} {m : MachineRecord} {l : Lane} {r : Row} {x y : Reasons}
    (hm : s.rnc.record = some m) (h : DecisionDue s m l r x) (hrun : s.rnc.runState = .drain)
    (hempty : ∀ k, (s.skc.get k).line = []) (hfound : Found s l r x y) (hy : y ≠ noReasons)
    (honly : ∀ q ∈ s.rot.track, ∀ k, openIn k q = true → q.number = r.number ∧ k = l)
    (hstops : ∀ k, s.rnc.stopPending.get k = true → k = l ∧ s.rnc.stopRows.get l = some r.number) :
    ∃ t, exec (.decision l) s = .next t ∧ DrainEnded s t ∧
      ∀ c p, s.jbc.current = some c → s.jbc.previous = none → r.tag = .current → Primary y p →
        otherRecords s.rpw.queue < 4 → t.rpw.queue = s.rpw.queue ++ [endOf { c with
          tallies := c.tallies.set p (if c.tallies.get p < 65535 then c.tallies.get p + 1
            else 65535) }] := by
  obtain ⟨p, hp⟩ := primaryReason_isSome hy
  have hjudge : judge m l r x s = rejected l r y p s := by
    rw [← found_eq hfound] at hp ⊢
    exact judge_found hp
  generalize hu : laneDecided l r.number (rejected l r y p s) = u
  have hkeep : ClosesKeep l (rejected l r y p s) u := hu ▸ laneDecided_closes l r.number _
  have hskc : u.skc = s.skc := hu ▸ (laneDecided_empty (v := rejected l r y p s) (hempty l)).1
  have hpending : ∀ k, u.rnc.stopPending.get k = false := hu ▸ laneDecided_stops hstops
  have hdrain : u.rnc.runState = .drain := by rw [hkeep.rnc]; exact hrun
  have htrack : u.rot.track = s.rot.track.map (frozenRow r.number l (.reject y)) := by
    rw [hkeep.rot]
    rfl
  have hclosed : ∀ q ∈ s.rot.track, ∀ k, openIn k (frozenRow r.number l (.reject y) q) = false := by
    intro q hq k
    rw [← Bool.not_eq_true, openIn_frozenRow rfl]
    rintro ⟨ho, hother⟩
    obtain ⟨hn, hk⟩ := honly q hq k ho
    exact hother.elim (· hn) (· hk)
  have hdone : rowDecided r.number u = true := by
    obtain ⟨q, hq⟩ : ∃ q, findRow r.number s = some q := by
      refine Option.isSome_iff_exists.1 (List.find?_isSome.2 ⟨r, ?_, by simp⟩)
      exact List.mem_of_find?_eq_some h.next
    have hfind : findRow r.number u = some (frozenRow r.number l (.reject y) q) := by
      rw [findRow, htrack, find?_map_number (frozenRow_number _ _ _), ← findRow, hq]
      rfl
    simp only [rowDecided, hfind, fullyDecided_openIn]
    exact hclosed q (List.mem_of_find?_eq_some hq)
  have hover : drainOver (freeingTest u) = true := by
    rw [drainOver_iff, (freeingTest_keeps u).2.2.2.2.2.2.1]
    refine ⟨hdrain, fun q hq => ?_, hpending, fun k => by rw [freeingTest_line, hskc]; exact hempty k⟩
    rw [fullyDecided_openIn]
    intro k
    by_contra ho
    obtain ⟨q', hq', ho', -⟩ := freeingTest_open k u q hq (by simpa using ho)
    rw [htrack, List.mem_map] at hq'
    obtain ⟨q₀, hq₀, rfl⟩ := hq'
    rw [hclosed q₀ hq₀ k] at ho'
    cases ho'
  have hend : decided m l r x s = endDrain (freeingTest u) := by
    rw [decided, hjudge, hu]
    simp only [afterDecision, hdone, Bool.true_or, if_true, endTest_over hover]
  refine ⟨_, by rw [exec_decision hm h, hend], endDrain_ended ?_ ?_, fun c p' hc hprev htag hp' hroom => ?_⟩
  · rw [(freeingTest_keeps u).2.2.2.2.2.2.1, hdrain]
  · rw [(freeingTest_keeps u).2.2.2.2.2.2.2.2.2.2.2.2.2.2.2.2.2.2.2.2.2.1, hkeep.rot]
    rfl
  · have hpp : p' = p := Option.some.inj ((primaryReason_eq_some_iff.2 hp').symm.trans hp)
    subst hpp
    have hjbc : (rejected l r y p' s).jbc = tallied .current p' s.jbc := by rw [← htag]; rfl
    rw [tallied_current hc] at hjbc
    have hprev' : u.jbc.previous = none := by
      rw [hkeep.jbc, hjbc]
      exact hprev
    have hqueue : u.rpw.queue = s.rpw.queue := by rw [hkeep.rpw]; rfl
    rw [freeingTest_none hprev', endDrain_one (by rw [hkeep.jbc, hjbc]) hprev' (by rwa [hqueue]), hqueue]

/-! ### The delivery and the removal of the last stack -/

section
variable {s : State} {c : Conveyor} {l : Lane} {n : Nat} {x : Stack} (hwaits : DrainWaitsFor s l)
  (harbiter : ArbiterInv s) (hc : s.tka.conveyors.get c = .pushing l n)
  (hline : (s.skc.get l).line = [x])
include hwaits harbiter hc hline

/-- While DRAIN waits for a pushed stack alone, no lane waits for a grant. -/
theorem noneWaits_last (d : Conveyor) (k : Lane) : (s.tka.waiting.get d).get k = none := by
  by_contra hw
  obtain ⟨⟨y, hy, hclosed⟩, -⟩ := harbiter.waiting d k (Option.isSome_iff_ne_none.2 hw)
  by_cases hk : k = l
  · subst hk
    obtain ⟨z, hz, hpushing, -⟩ := harbiter.pushing c k n hc
    rw [Option.some.inj (hy.symm.trans hz), hpushing] at hclosed
    cases hclosed
  · simp [frontOf, hwaits.2.2.2 k hk] at hy

/-- The departure of the last stack leaves DRAIN nothing to wait for. -/
theorem lastGone (next : ConveyorState) (b : Bool) :
    ∃ w, setConveyor c next (departFront l (handOver l b s)) = w ∧ drainOver w = true ∧
      w.tka.conveyors.get c = next ∧ (∀ d k, (w.tka.waiting.get d).get k = none) ∧
      w.jbc = s.jbc ∧ w.rot = s.rot ∧ w.rnc = s.rnc ∧ w.rpw = (queueRecord (.stack l x b) s).rpw := by
  have hdepart := departFront_departure hc hline next b
  have hnone := noneWaits_last hwaits harbiter hc hline
  have hopen : ¬frontClosed ([] : List Stack) = true := by simp [frontClosed]
  rw [if_neg hopen, departure, hline, List.tail_cons, if_neg hopen, frontGone_eq hline] at hdepart
  refine ⟨_, rfl, ?_⟩
  rw [hdepart]
  obtain ⟨-, -, hrot, -, -, -, -, -, hjbc, hrnc, -⟩ := queueRecord_keeps (.stack l x b) s
  refine ⟨?_, by simp, hnone, hjbc, hrot, hrnc, rfl⟩
  obtain ⟨hdrain, hdecided, hstops, hempty⟩ := hwaits
  rw [drainOver_iff]
  refine ⟨hrnc ▸ hdrain, hrot ▸ hdecided, fun k => hrnc ▸ hstops k, fun k => ?_⟩
  dsimp only
  rw [Lanes.get_set]
  split
  · rfl
  next hk => exact hempty k hk

theorem delivery_ends_drain : ∃ t, exec (.delivery c) s = .next t ∧ DrainEnded s t ∧
    t.tka.conveyors.get c = .available ∧
    ∀ j, s.jbc.current = some j → s.jbc.previous = none → otherRecords s.rpw.queue < 4 →
      t.rpw.queue = s.rpw.queue ++ [.stack l x false, endOf j] := by
  obtain ⟨w, hw, hover, hconveyor, hnone, hjbc, hrot, hrnc, hrpw⟩ :=
    lastGone hwaits harbiter hc hline .available false
  have hexec : exec (.delivery c) s = .next (endDrain w) := by
    show execDelivery c s = _
    have hidle : grantPass w = w := grantPass_idle fun d => .inr (.inr fun k => hnone d k)
    simp only [execDelivery, hc, deliver, hw, hidle, endTest_over hover]
  refine ⟨_, hexec, endDrain_ended (by rw [hrnc]; exact hwaits.1) (by rw [hrot]), ?_,
    fun j hj hp hroom => ?_⟩
  · rw [(endDrain_keeps w).2.2.1, hconveyor]
  · have hqueue : w.rpw.queue = s.rpw.queue ++ [.stack l x false] := by
      rw [hrpw, queueRecord_joins (.inl rfl)]
    rw [endDrain_one (hjbc ▸ hj) (hjbc ▸ hp) (by
      rw [hqueue, otherRecords_append]
      exact hroom), hqueue]
    simp

theorem removal_ends_drain : ∃ t, exec (.removal c) s = .next t ∧ DrainEnded s t ∧
    t.tka.conveyors.get c = .out ∧
    ∀ j, s.jbc.current = some j → s.jbc.previous = none → otherRecords s.rpw.queue < 3 →
      t.rpw.queue = s.rpw.queue ++ [.stack l x true,
        .fault (.conveyorTimeout c) false s.trc.front (newestNumber s), endOf j] := by
  obtain ⟨w, hw, hover, hconveyor, -, hjbc, hrot, hrnc, hrpw⟩ :=
    lastGone hwaits harbiter hc hline .out true
  generalize hv : raiseTimeout c s.trc.front w = v
  have hover' : drainOver v = true := by
    rw [drainOver_iff] at hover ⊢
    rw [← hv]
    simpa using hover
  have hexec : exec (.removal c) s = .next (endDrain v) := by
    show execRemoval c s = _
    simp only [execRemoval, hc, remove, hw, hv, endTest_over hover']
  refine ⟨_, hexec, endDrain_ended ?_ ?_, ?_, fun j hj hp hroom => ?_⟩
  · rw [← hv]
    simpa [hrnc] using hwaits.1
  · rw [← hv]
    simp [hrot]
  · rw [(endDrain_keeps v).2.2.1, ← hv]
    simpa using hconveyor
  · have hqueue : w.rpw.queue = s.rpw.queue ++ [.stack l x true] := by
      rw [hrpw, queueRecord_joins (.inl rfl)]
    have hothers : otherRecords w.rpw.queue = otherRecords s.rpw.queue := by
      rw [hqueue, otherRecords_append]
      rfl
    have htimeout : raiseTimeout c s.trc.front w = queueRecord (.fault (.conveyorTimeout c) false
        s.trc.front (newestNumber s)) (flagFault w) := by
      have hstate : s.rnc.runState = .drain := hwaits.1
      unfold raiseTimeout newestNumber newestRow
      rw [hrnc, hrot, hstate]
      rfl
    have hroom' : otherRecords w.rpw.queue < 4 := by omega
    have hvqueue : v.rpw.queue = w.rpw.queue ++ [.fault (.conveyorTimeout c) false s.trc.front
        (newestNumber s)] := by
      rw [← hv, htimeout, queueRecord_joins (s := flagFault w) (.inr hroom')]
      rfl
    have hvjbc : v.jbc = s.jbc := by
      rw [← hv]
      simp [hjbc]
    rw [endDrain_one (hvjbc ▸ hj) (hvjbc ▸ hp) (by
      rw [hvqueue, otherRecords_append]
      show _ + 1 < 4
      omega), hvqueue, hqueue]
    simp

end

/-- Settles O9: each event that leaves DRAIN nothing to wait for ends it, with the JOB_ENDs of the
contexts. -/
theorem stopOfAnEmptyPartEndsDrain : Obligations.StopOfAnEmptyPartEndsDrain :=
  ⟨fun _ => stop_ends_drain,
    fun _ _ _ _ _ _ => decision_ends_drain,
    fun _ _ _ _ _ hwaits harbiter hc hline =>
      ⟨delivery_ends_drain hwaits harbiter hc hline, removal_ends_drain hwaits harbiter hc hline⟩⟩

end Sys2Proof.Machine
end

section
/-! JOB notes: activation (R142, R146, R147), with the end of a note's event that queues a record (R170). -/
namespace Sys2Proof.Machine

/-! ### The end of a note's event -/

/-- The requests and the count of free choices alone have changed. -/
def OnlyRequests (s t : State) : Prop :=
  t = { s with pxm := { s.pxm with requests := t.pxm.requests }, choices := t.choices }

theorem OnlyRequests.refl (s : State) : OnlyRequests s s := rfl

theorem OnlyRequests.trans {s t u : State} (h : OnlyRequests s t) (k : OnlyRequests t u) :
    OnlyRequests s u := by
  unfold OnlyRequests at *
  rw [k, h]

theorem requestBurst_mem {b c : BurstSource} {s : State} (h : c ∈ s.pxm.requests) :
    c ∈ (requestBurst b s).pxm.requests := by
  show c ∈ withRequest b s.pxm.requests
  unfold withRequest
  split
  · exact h
  · exact List.mem_append_left _ h

/-- The fate write is requested at the end of a note's event, together with a report write that the event
brought, and nothing else changes. -/
theorem requestTogether_only (before s : State) :
    OnlyRequests s (requestTogether before s) ∧
      BurstSource.notes ∈ (requestTogether before s).pxm.requests := by
  unfold requestTogether
  split
  · have hframe : OnlyRequests (withdrawBurst .reports s)
        (takeDue requestDue requestBurst [.notes, .reports] (withdrawBurst .reports s)) :=
      takeDue_rel (act := requestBurst) OnlyRequests.refl OnlyRequests.trans (fun _ _ => rfl)
        (fun _ _ => rfl) _ _
    have hwithdrawn : OnlyRequests s (withdrawBurst .reports s) := rfl
    refine ⟨hwithdrawn.trans hframe, ?_⟩
    generalize withdrawBurst .reports s = v
    by_cases hmem : BurstSource.notes ∈ v.pxm.requests
    · exact takeDue_inv (P := fun u => BurstSource.notes ∈ u.pxm.requests) (fun _ _ h => h)
        (fun _ _ h => requestBurst_mem h) _ hmem
    · obtain ⟨p, n, hperm, -, htaken⟩ :=
        takeDue_takenInSomeOrder requestDue requestBurst [.notes, .reports] v
      have hp : BurstSource.notes ∈ p := by
        rw [hperm.mem_iff, List.mem_filter]
        exact ⟨by simp, by simp [requestDue, hmem]⟩
      rw [htaken]
      exact takeAll_reaches (act := requestBurst) (P := fun _ => True)
        (Q := fun u => BurstSource.notes ∈ u.pxm.requests) hp (fun _ _ _ => .inl trivial)
        (fun _ _ h => requestBurst_mem h) (fun u _ => mem_withRequest _ _) trivial
  · exact ⟨rfl, mem_withRequest _ _⟩

/-- The page work, the requests and the count of free choices alone have changed. -/
def OnlyNoteEnd (s t : State) : Prop :=
  t = { s with ntp := { s.ntp with inWork := t.ntp.inWork, work := t.ntp.work },
               pxm := { s.pxm with requests := t.pxm.requests }, choices := t.choices }

theorem OnlyNoteEnd.blocks {u t : State} (h : OnlyNoteEnd u t) : t.trc = u.trc ∧ t.mkt = u.mkt ∧
    t.rot = u.rot ∧ t.knt = u.knt ∧ t.lnd = u.lnd ∧ t.skc = u.skc ∧ t.tka = u.tka ∧ t.jbc = u.jbc ∧
    t.rnc = u.rnc ∧ t.rpw = u.rpw ∧ t.pxm.memory = u.pxm.memory ∧
    t.pxm.attention = u.pxm.attention ∧ t.ntp.horizon = u.ntp.horizon ∧ t.ntp.spans = u.ntp.spans ∧
    t.ntp.guardPoint = u.ntp.guardPoint := by
  unfold OnlyNoteEnd at h
  rw [h]
  exact ⟨rfl, rfl, rfl, rfl, rfl, rfl, rfl, rfl, rfl, rfl, rfl, rfl, rfl, rfl, rfl⟩

/-- A note's event that leaves a work list to go on with, and an empty port, ends with the note's fate. -/
theorem giveFate_done {s u : State} (page : Page) (i : Nat) (w : List NoteBurst) (f : Fate) (d : Nat)
    (hwaiting : u.pxm.waiting = []) (hhalf : u.rpw.halfWork = []) :
    OnlyNoteEnd u (afterBurst (giveFate s page i w (u, f, d))) ∧
      (afterBurst (giveFate s page i w (u, f, d))).ntp.inWork = u.ntp.inWork ∧
      (afterBurst (giveFate s page i w (u, f, d))).ntp.work = .fateWrite page i f d :: w ∧
      Requested (afterBurst (giveFate s page i w (u, f, d))) := by
  generalize hv : (popRequest u).setNtp { (popRequest u).ntp with work := .fateWrite page i f d :: w } = v
  have hgive : giveFate s page i w (u, f, d) = requestTogether s v := by rw [← hv]; rfl
  obtain ⟨honly, hmem⟩ := requestTogether_only s v
  have hrpw : (requestTogether s v).rpw.halfWork = [] := by rw [honly, ← hv]; exact hhalf
  have hpxm : (requestTogether s v).pxm.waiting = [] := by rw [honly, ← hv]; exact hwaiting
  rw [hgive, afterBurst_idle _ hpxm hrpw]
  refine ⟨?_, by rw [honly, ← hv]; rfl, by rw [honly, ← hv]; rfl, fun _ => hmem⟩
  unfold OnlyNoteEnd
  rw [honly, ← hv]
  rfl

/-- The event of a note at its read, or at its job copy, ends with its fate. -/
theorem finishNote_done {s u : State} {p : PageInWork} {b : NoteBurst} {rest : List NoteBurst} (f : Fate)
    (d : Nat) (hwork : u.ntp.work = b :: rest) (hwaiting : u.pxm.waiting = [])
    (hhalf : u.rpw.halfWork = []) :
    NoteDone (afterBurst (finishNote s p (u, f, d))) p rest f d ∧
      OnlyNoteEnd u (afterBurst (finishNote s p (u, f, d))) := by
  generalize hv : u.setNtp { u.ntp with inWork := some { p with next := p.next + 1 } } = v
  have hfinish : finishNote s p (u, f, d) =
      giveFate s p.page p.next (workAfterNote p u.ntp.work) (v, f, d) := by rw [← hv]; rfl
  obtain ⟨honly, hin, hw, hreq⟩ := giveFate_done (s := s) (u := v) p.page p.next
    (workAfterNote p u.ntp.work) f d (by rw [← hv]; exact hwaiting) (by rw [← hv]; exact hhalf)
  rw [hfinish]
  refine ⟨⟨by rw [hin, ← hv]; rfl, by rw [hw, hwork]; rfl, hreq⟩, ?_⟩
  generalize afterBurst (giveFate s p.page p.next (workAfterNote p u.ntp.work) (v, f, d)) = t at honly
  unfold OnlyNoteEnd at honly ⊢
  rw [honly, ← hv]
  rfl

theorem afterBurst_only {s v : State} (h : OnlyPageWork s v) (hw : v.pxm.waiting = [])
    (hh : v.rpw.halfWork = []) : OnlyPageWork s (afterBurst v) := by
  rwa [afterBurst_idle v hw hh]

/-- A note's event without an effect changes the page work and the requests alone. -/
theorem finishNote_same {s : State} {p : PageInWork} {b : NoteBurst} {rest : List NoteBurst} (f : Fate)
    (d : Nat) (hturn : NoteTurn s b rest) (hhalf : s.rpw.halfWork = []) :
    NoteDone (afterBurst (finishNote s p (s, f, d))) p rest f d ∧
      OnlyPageWork s (afterBurst (finishNote s p (s, f, d))) := by
  obtain ⟨-, -, hwaiting, hwork⟩ := hturn
  refine ⟨(finishNote_done f d hwork hwaiting hhalf).1, ?_⟩
  rw [finishNote_eq p f d rfl]
  exact afterBurst_only rfl hwaiting hhalf

theorem finishLate_same {s : State} {pg : Page} {i : Nat} {b : NoteBurst} {rest : List NoteBurst}
    (f : Fate) (d : Nat) (hturn : NoteTurn s b rest) (hhalf : s.rpw.halfWork = []) :
    OnlyPageWork s (afterBurst (finishLate s pg i (s, f, d))) ∧
      (afterBurst (finishLate s pg i (s, f, d))).ntp.inWork = s.ntp.inWork ∧
      (afterBurst (finishLate s pg i (s, f, d))).ntp.work = .fateWrite pg i f d :: rest ∧
      Requested (afterBurst (finishLate s pg i (s, f, d))) := by
  obtain ⟨-, -, hwaiting, hwork⟩ := hturn
  have htail : s.ntp.work.tail = rest := by rw [hwork]; rfl
  have hlate : finishLate s pg i (s, f, d) = giveFate s pg i rest (s, f, d) := by
    rw [← htail]
    rfl
  obtain ⟨-, hin, hw, hreq⟩ := giveFate_done (s := s) pg i rest f d hwaiting hhalf
  rw [hlate]
  refine ⟨?_, hin, hw, hreq⟩
  have hgive : giveFate s pg i rest (s, f, d) = requestBurst .notes ((popRequest s).setNtp
      { (popRequest s).ntp with work := .fateWrite pg i f d :: rest }) :=
    requestTogether_eq (List.tail_subset _)
  rw [hgive]
  exact afterBurst_only rfl hwaiting hhalf

/-! ### Shelf limits (R122) -/

/-- A lane with its shelf limit set to a goal, when there is one. -/
def withGoal (g : Option Nat) (x : SkcLane) : SkcLane :=
  match g with
  | some g => { x with shelfLimit := max g (shelfTotal x.line) }
  | none => x

theorem setShelfLimit_get (l k : Lane) (s : State) : (setShelfLimit l s).skc.get k =
    if k = l then withGoal (shelfGoal l s) (s.skc.get l) else s.skc.get k := by
  unfold setShelfLimit
  cases shelfGoal l s with
  | some g => exact Lanes.get_set _ _ _ _
  | none =>
    dsimp only
    split
    next h => rw [h]; rfl
    next => rfl

theorem shelfGoal_setShelfLimit (l k : Lane) (s : State) :
    shelfGoal k (setShelfLimit l s) = shelfGoal k s := by
  simp only [shelfGoal, setShelfLimit_keeps]

theorem setShelfLimits_get (l : Lane) (s : State) :
    (setShelfLimits s).skc.get l = withGoal (shelfGoal l s) (s.skc.get l) := by
  cases l <;> simp [setShelfLimits, setShelfLimit_get, shelfGoal_setShelfLimit]

theorem withGoal_keeps (g : Option Nat) (x : SkcLane) : (withGoal g x).line = x.line ∧
    (withGoal g x).targetCurrent = x.targetCurrent ∧
    (withGoal g x).targetPrevious = x.targetPrevious ∧ (withGoal g x).hold = x.hold ∧
    (withGoal g x).nextId = x.nextId := by
  cases g <;> exact ⟨rfl, rfl, rfl, rfl, rfl⟩

/-! ### Activation (R147) -/

/-- What activation leaves of a lane. -/
theorem withFirstJob_lane (j : JobRecord) {s : State} (hprevious : s.jbc.previous = none) (l : Lane) :
    (withFirstJob j s).skc.get l = withGoal (if j.active l then some (j.lane.get l).shelfMax else none)
      { s.skc.get l with targetCurrent := if j.active l then some (j.lane.get l).target else none,
                         targetPrevious := none } := by
  have hgoal : ∀ v : State, v.jbc = { s.jbc with current := some (newContext j) } →
      shelfGoal l v = if j.active l then some (j.lane.get l).shelfMax else none := by
    intro v hv
    simp only [shelfGoal, hv, hprevious, shelfMaxIn, newContext]
    cases j.active l <;> rfl
  unfold withFirstJob
  dsimp only
  rw [setShelfLimits_get, hgoal _ (by simp)]
  simp [activationTargets, JobRecord.targetIn]

theorem activateJob_blocks (j : JobRecord) (s : State) :
    (activateJob j s).jbc = { s.jbc with current := some (newContext j) } ∧
    (activateJob j s).rnc = { s.rnc with runState := .run } ∧
    (activateJob j s).mkt = { s.mkt with
      state := .acquire, stretch := 65536, coastCount := 0, expected := none } ∧
    (activateJob j s).skc = (withFirstJob j s).skc ∧ (activateJob j s).rot = s.rot ∧
    (activateJob j s).trc = s.trc ∧ (activateJob j s).knt = s.knt ∧ (activateJob j s).lnd = s.lnd ∧
    (activateJob j s).tka = s.tka ∧ (activateJob j s).ntp = s.ntp := by
  have hlnd : ∀ u : State, (setRunState .run u).lnd = u.lnd := by
    intro u
    unfold setRunState
    dsimp only
    split <;> rfl
  rw [activateJob_eq]
  simp only [queueRecord_keeps]
  simp [withFirstJob, setRunState_rnc, hlnd]
  rfl

theorem activateJob_port (j : JobRecord) {s : State} (hrun : s.rnc.runState = .ready) :
    (activateJob j s).pxm.attention.state = true ∧ (activateJob j s).pxm.memory = s.pxm.memory ∧
    (activateJob j s).pxm.waiting = s.pxm.waiting ∧
    (activateJob j s).rpw.halfWork = s.rpw.halfWork ∧
    HandedOver (.jobStart j.jobId (rowSucc s.rot.lastNumber)) s (activateJob j s) := by
  have hnumber : (withFirstJob j s).rot.lastNumber = s.rot.lastNumber := by simp [withFirstJob]
  rw [activateJob_eq, hnumber]
  refine ⟨?_, by simp [withFirstJob], by simp [withFirstJob], by simp [withFirstJob],
    handedOver_of_rpw (handedOver_queueRecord rfl _) (by simp [withFirstJob]) rfl⟩
  simp [withFirstJob, setRunState_attention, hrun]

/-! ### JOB notes at their bursts (R142, R146) -/

theorem jobStanding_busy {s : State} (h : s.rnc.runState = .off ∨ s.rnc.runState = .drain ∨
    s.rnc.runState = .halted ∨ s.jbc.previous ≠ none) : jobStanding s = .busy := by
  unfold jobStanding
  obtain h | h | h | h := h
  · rw [h]
  · rw [h]
  · rw [h]
  · have hsome : s.jbc.previous.isNone = false := by
      rw [← Bool.not_eq_true, Option.isNone_iff_eq_none]
      exact h
    cases s.rnc.runState <;> simp [hsome]

theorem jobStanding_ready {s : State} (hrun : s.rnc.runState = .ready) (hc : s.jbc.current = none)
    (hp : s.jbc.previous = none) : jobStanding s = .activates := by
  simp [jobStanding, hrun, hc, hp]

theorem jobStanding_run {s : State} (hrun : s.rnc.runState = .run) (hp : s.jbc.previous = none) :
    jobStanding s = .changes := by
  simp [jobStanding, hrun, hp]

section
variable {s : State} {rest : List NoteBurst}

theorem exec_jobNote_copied {p : PageInWork} {slot : Nat} (h : JobCopied s p rest slot) :
    exec .jobNote s = .next (afterBurst (finishNote s p (jobOutcome slot s))) := by
  obtain ⟨hwork, hturn, -⟩ := h
  show Host.Outcome.next (jobNoteStep s) = _
  simp only [jobNoteStep, freeMemory_of_turn hturn, noteTurn_of_turn hturn, hwork]

section
variable {p : PageInWork} {slot : Nat} (h : NoteAtTurn s p rest)
  (hn : decodeNote s.pxm.memory p.noteBase = .inl (.job slot))
include h hn

theorem exec_jobNote_busy (hbusy : jobStanding s = .busy) :
    exec .jobNote s = .next (afterBurst (finishNote s p (s, .busy, 0))) := by
  have hkind : noteKind s.pxm.memory p.noteBase = .job := noteKind_of_decodeNote hn
  obtain ⟨hturn, hwork, -⟩ := h
  show Host.Outcome.next (jobNoteStep s) = _
  simp only [jobNoteStep, freeMemory_of_turn hturn, noteTurn_of_turn hturn, hwork, hkind, if_true,
    jobNoteRead, hn, hbusy]

theorem exec_jobNote_asks (hbusy : jobStanding s ≠ .busy) :
    exec .jobNote s = .next (afterBurst (serveRead (.jobCopy slot :: rest) s)) := by
  have hkind : noteKind s.pxm.memory p.noteBase = .job := noteKind_of_decodeNote hn
  obtain ⟨hturn, hwork, -⟩ := h
  have htail : s.ntp.work.tail = rest := by rw [hturn.2.2.2]; rfl
  show Host.Outcome.next (jobNoteStep s) = _
  cases hstanding : jobStanding s with
  | busy => exact absurd hstanding hbusy
  | activates | changes =>
    simp only [jobNoteStep, freeMemory_of_turn hturn, noteTurn_of_turn hturn, hwork, hkind, if_true,
      jobNoteRead, hn, hstanding, htail]

end

theorem exec_jobNote_lateCopied {pg : Page} {i slot : Nat} (hturn : NoteTurn s (.lateCopy pg i slot) rest) :
    exec .jobNote s = .next (afterBurst (finishLate s pg i (jobOutcome slot s))) := by
  show Host.Outcome.next (jobNoteStep s) = _
  simp only [jobNoteStep, freeMemory_of_turn hturn, noteTurn_of_turn hturn]

/-- The job copy is requested at the end of the note read. -/
theorem serveRead_copy {b : NoteBurst} (c : NoteBurst) (hturn : NoteTurn s b rest)
    (hhalf : s.rpw.halfWork = []) :
    OnlyPageWork s (afterBurst (serveRead (c :: rest) s)) ∧
      (afterBurst (serveRead (c :: rest) s)).ntp.work = c :: rest ∧
      Requested (afterBurst (serveRead (c :: rest) s)) ∧
      (afterBurst (serveRead (c :: rest) s)).ntp.inWork = s.ntp.inWork := by
  obtain ⟨-, hburst, hwaiting, -⟩ := hturn
  have hserved := serveRead_eq (s := s) (c :: rest) hburst
  rw [if_neg (List.cons_ne_nil _ _)] at hserved
  generalize serveRead (c :: rest) s = u at hserved ⊢
  rw [afterBurst_idle u (by rw [hserved]; exact hwaiting) (by rw [hserved]; exact hhalf), hserved]
  exact ⟨rfl, rfl, fun _ => mem_withRequest _ _, rfl⟩

end

theorem jobOutcome_activates {s : State} {m : MachineRecord} {slot : Nat} (hm : s.rnc.record = some m)
    (h : jobStanding s = .activates) :
    (∀ i, jobIndex (readJobRecord s.pxm.memory slot) m = some i → jobOutcome slot s = (s, .refused, i)) ∧
    (jobIndex (readJobRecord s.pxm.memory slot) m = none →
      jobOutcome slot s = (activateJob (readJobRecord s.pxm.memory slot) s, .done, 0)) := by
  refine ⟨fun i hi => ?_, fun hnone => ?_⟩
  · simp only [jobOutcome, h, hm, hi]
  · simp only [jobOutcome, h, hm, hnone]

/-- The first part of O40: the JOB note of a valid job activates it. -/
theorem jobNote_activates {s : State} {p : PageInWork} {rest : List NoteBurst} {slot : Nat}
    {m : MachineRecord} {j : JobRecord} (h : JobCopied s p rest slot) (hm : s.rnc.record = some m)
    (hrun : s.rnc.runState = .ready) (hc : s.jbc.current = none) (hp : s.jbc.previous = none)
    (hj : j = readJobRecord s.pxm.memory slot) (hvalid : jobIndex j m = none) :
    ∃ t, exec .jobNote s = .next t ∧ NoteDone t p rest .done 0 ∧
      t.rnc.runState = .run ∧ t.pxm.attention.state = true ∧
      t.jbc.current = some ⟨j, none, none, zeroTallies⟩ ∧ t.jbc.previous = none ∧
      t.mkt = { s.mkt with
        state := .acquire, stretch := 65536, coastCount := 0, expected := none } ∧
      (∀ l, (t.skc.get l).targetCurrent =
          (if j.active l = true then some (j.lane.get l).target else none) ∧
        (t.skc.get l).targetPrevious = none ∧
        (t.skc.get l).line = (s.skc.get l).line ∧
        (j.active l = true → (t.skc.get l).shelfLimit =
          max (j.lane.get l).shelfMax (shelfTotal (s.skc.get l).line)) ∧
        (j.active l = false → (t.skc.get l).shelfLimit = (s.skc.get l).shelfLimit) ∧
        (t.skc.get l).hold = (s.skc.get l).hold) ∧
      HandedOver (.jobStart j.jobId (rowSucc s.rot.lastNumber)) s t ∧
      t.rot = s.rot ∧ t.trc = s.trc ∧ t.knt = s.knt ∧ t.lnd = s.lnd ∧ t.tka = s.tka ∧
      t.pxm.memory = s.pxm.memory ∧ t.ntp.horizon = s.ntp.horizon := by
  have hexec := exec_jobNote_copied h
  rw [(jobOutcome_activates hm (jobStanding_ready hrun hc hp)).2 (hj ▸ hvalid), ← hj] at hexec
  obtain ⟨-, ⟨-, -, hwaiting, hwork⟩, hhalf⟩ := h
  obtain ⟨hjbc, hrnc, hmkt, hskc, hrot, htrc, hknt, hlnd, htka, hntp⟩ := activateJob_blocks j s
  obtain ⟨hattention, hmemory, hpwaiting, hphalf, hrecord⟩ := activateJob_port j hrun
  obtain ⟨hdone, honly⟩ := finishNote_done (s := s) (p := p) .done 0 (u := activateJob j s)
    (by rw [hntp]; exact hwork) (by rw [hpwaiting, hwaiting]) (by rw [hphalf, hhalf])
  refine ⟨_, hexec, hdone, ?_⟩
  obtain ⟨ttrc, tmkt, trot, tknt, tlnd, tskc, ttka, tjbc, trnc, trpw, tmemory, tattention, thorizon, -⟩ :=
    honly.blocks
  rw [ttrc, tmkt, trot, tknt, tlnd, tskc, ttka, tjbc, trnc, tmemory, tattention, thorizon, hjbc, hrnc, hntp]
  refine ⟨rfl, hattention, rfl, hp, hmkt, fun l => ?_, handedOver_of_rpw hrecord rfl trpw, hrot, htrc,
    hknt, hlnd, htka, hmemory, rfl⟩
  rw [hskc, withFirstJob_lane j hp l]
  cases hactive : j.active l with
  | true => exact ⟨rfl, rfl, rfl, fun _ => rfl, fun e => (nomatch e), rfl⟩
  | false => exact ⟨rfl, rfl, rfl, fun e => (nomatch e), fun _ => rfl, rfl⟩

/-- The fourth part of O40: the JOB note that START found requested meets the emptied state (R166). -/
theorem jobNote_late {s : State} {pg : Page} {i slot : Nat} {rest : List NoteBurst} {m : MachineRecord}
    {j : JobRecord} (hturn : NoteTurn s (.lateCopy pg i slot) rest) (hhalf : s.rpw.halfWork = [])
    (hm : s.rnc.record = some m) (hrun : s.rnc.runState = .ready) (hc : s.jbc.current = none)
    (hp : s.jbc.previous = none) (hj : j = readJobRecord s.pxm.memory slot) :
    (jobIndex j m = none → ∃ t, exec .jobNote s = .next t ∧ t.rnc.runState = .run ∧
      t.jbc.current = some ⟨j, none, none, zeroTallies⟩ ∧ t.mkt.state = .acquire ∧
      HandedOver (.jobStart j.jobId (rowSucc s.rot.lastNumber)) s t ∧
      t.ntp.work = .fateWrite pg i .done 0 :: rest ∧ Requested t ∧ t.ntp.inWork = s.ntp.inWork) ∧
    ∀ k, jobIndex j m = some k → ∃ t, exec .jobNote s = .next t ∧ OnlyPageWork s t ∧
      t.ntp.work = .fateWrite pg i .refused k :: rest ∧ Requested t ∧
      t.ntp.inWork = s.ntp.inWork := by
  have hexec := exec_jobNote_lateCopied hturn
  have houtcome := jobOutcome_activates (slot := slot) hm (jobStanding_ready hrun hc hp)
  refine ⟨fun hvalid => ?_, fun k hk => ?_⟩
  · rw [houtcome.2 (hj ▸ hvalid), ← hj] at hexec
    obtain ⟨-, -, hwaiting, hwork⟩ := hturn
    obtain ⟨hjbc, hrnc, hmkt, -, -, -, -, -, -, hntp⟩ := activateJob_blocks j s
    obtain ⟨-, -, hpwaiting, hphalf, hrecord⟩ := activateJob_port j hrun
    have htail : (activateJob j s).ntp.work.tail = rest := by rw [hntp, hwork]; rfl
    obtain ⟨honly, hin, hw, hreq⟩ := giveFate_done (s := s) (u := activateJob j s) pg i rest .done 0
      (by rw [hpwaiting, hwaiting]) (by rw [hphalf, hhalf])
    have hlate : finishLate s pg i (activateJob j s, .done, 0) =
        giveFate s pg i rest (activateJob j s, .done, 0) := by
      rw [finishLate, htail]
    rw [hlate] at hexec
    obtain ⟨-, tmkt, -, -, -, -, -, tjbc, trnc, trpw, -⟩ := honly.blocks
    exact ⟨_, hexec, by rw [trnc, hrnc], by rw [tjbc, hjbc]; rfl, by rw [tmkt, hmkt],
      handedOver_of_rpw hrecord rfl trpw, hw, hreq, by rw [hin, hntp]⟩
  · rw [houtcome.1 k (hj ▸ hk)] at hexec
    obtain ⟨honly, hin, hw, hreq⟩ := finishLate_same (pg := pg) (i := i) .refused k hturn hhalf
    exact ⟨_, hexec, honly, hw, hreq, hin⟩

/-- The command of a note's kind meets the note that START cut short: UNAPPLIED, but for a JOB note (R82). -/
theorem exec_noteCommand_late {s : State} {pg : Page} {i : Nat} {rest : List NoteBurst} {k : NoteKind}
    (hturn : NoteTurn s (.lateRead pg i) rest)
    (hk : noteKind s.pxm.memory (noteAddress pg i) = k) (hjob : k ≠ .job) :
    exec (noteCommand k) s = .next (afterBurst (finishLate s pg i (s, .unapplied, 0))) := by
  have hstep : ∀ apply, noteStep k apply s = afterBurst (finishLate s pg i (s, .unapplied, 0)) := by
    intro apply
    simp only [noteStep, freeMemory_of_turn hturn, noteTurn_of_turn hturn, hk, if_true]
  cases k with
  | span => exact congrArg Host.Outcome.next (hstep spanOutcome)
  | row => exact congrArg Host.Outcome.next (hstep rowOutcome)
  | lane => exact congrArg Host.Outcome.next (hstep laneOutcome)
  | conveyor => exact congrArg Host.Outcome.next (hstep conveyorOutcome)
  | unknown => exact congrArg Host.Outcome.next (hstep badOutcome)
  | job => exact absurd rfl hjob

theorem exec_jobNote_lateRead {s : State} {pg : Page} {i : Nat} {rest : List NoteBurst}
    (hturn : NoteTurn s (.lateRead pg i) rest)
    (hk : noteKind s.pxm.memory (noteAddress pg i) = .job) :
    exec .jobNote s = .next (afterBurst (jobNoteRead (noteAddress pg i) (finishLate s pg i)
      (.lateCopy pg i) s)) := by
  show Host.Outcome.next (jobNoteStep s) = _
  simp only [jobNoteStep, freeMemory_of_turn hturn, noteTurn_of_turn hturn, hk, if_true]

/-- Settles O40: the JOB note at each of its bursts, by the run state and the contexts that it meets. -/
theorem jobNoteActivatesAValidJob : Obligations.JobNoteActivatesAValidJob := by
  refine ⟨fun s p rest slot m h hm hrun hc hp => ⟨fun i hi => ?_, fun hvalid j hj => ?_⟩,
    fun s p rest slot h hn hbusy => ?_, fun s p rest slot h hn hrun hp hready => ?_,
    fun s pg i slot rest m j hturn hhalf hm hrun hc hp hj => jobNote_late hturn hhalf hm hrun hc hp hj,
    fun s pg i rest k hturn hhalf hk => ?_⟩
  · refine ⟨_, ?_, finishNote_same .refused i h.2.1 h.2.2⟩
    rw [exec_jobNote_copied h, (jobOutcome_activates hm (jobStanding_ready hrun hc hp)).1 i hi]
  · exact jobNote_activates h hm hrun hc hp hj (hj ▸ hvalid)
  · refine ⟨_, ?_, finishNote_same .busy 0 h.1 h.2.2⟩
    rw [exec_jobNote_busy h hn (jobStanding_busy hbusy)]
  · have hcopy := serveRead_copy (.jobCopy slot) h.1 h.2.2
    have hexec : exec .jobNote s = .next (afterBurst (serveRead (.jobCopy slot :: rest) s)) := by
      refine exec_jobNote_asks h hn ?_
      obtain hrun | hrun := hrun
      · rw [jobStanding_run hrun hp]
        exact nofun
      · rw [jobStanding_ready hrun (hready hrun) hp]
        exact nofun
    exact ⟨_, hexec, hcopy.2.1, hcopy.2.2.1, hcopy.2.2.2.trans h.2.1, hcopy.1⟩
  · have hkind : noteKind s.pxm.memory (noteAddress pg i) = k := hk.symm
    by_cases hjob : k = .job
    · subst hjob
      have hexec := exec_jobNote_lateRead hturn hkind
      have htail : s.ntp.work.tail = rest := by rw [hturn.2.2.2]; rfl
      show ∃ t, exec .jobNote s = .next t ∧ _
      have hend : ∀ f d, jobNoteRead (noteAddress pg i) (finishLate s pg i) (.lateCopy pg i) s =
          finishLate s pg i (s, f, d) → ∃ t, exec .jobNote s = .next t ∧ OnlyPageWork s t ∧
            Requested t ∧ t.ntp.inWork = s.ntp.inWork ∧ t.ntp.work = .fateWrite pg i f d :: rest := by
        intro f d he
        obtain ⟨honly, hin, hw, hreq⟩ := finishLate_same (pg := pg) (i := i) f d hturn hhalf
        exact ⟨_, by rw [hexec, he], honly, hreq, hin, hw⟩
      rw [show pageBase pg + 16 + 16 * i = noteAddress pg i from rfl]
      cases hn : decodeNote s.pxm.memory (noteAddress pg i) with
      | inr f =>
        obtain ⟨t, ht, honly, hreq, hin, hw⟩ := hend .bad f (by simp only [jobNoteRead, hn])
        refine ⟨t, ht, honly, hreq, hin, fun e => absurd rfl e, fun f' _ e => ?_, fun slot _ e => (nomatch e)⟩
        cases e
        exact hw
      | inl n =>
        obtain ⟨slot, rfl⟩ : ∃ slot, n = .job slot := by
          have := (noteKind_of_decodeNote hn).symm.trans hkind
          cases n <;> first | exact ⟨_, rfl⟩ | cases this
        cases hstanding : jobStanding s with
        | busy =>
          obtain ⟨t, ht, honly, hreq, hin, hw⟩ := hend .busy 0 (by simp only [jobNoteRead, hn, hstanding])
          refine ⟨t, ht, honly, hreq, hin, fun e => absurd rfl e, fun f' _ e => (nomatch e),
            fun slot' _ e => ?_⟩
          cases e
          refine ⟨fun hrun hc hp => ?_, fun _ => hw⟩
          rw [jobStanding_ready hrun hc hp] at hstanding
          cases hstanding
        | activates | changes =>
          obtain ⟨honly, hw, hreq, hin⟩ := serveRead_copy (.lateCopy pg i slot) hturn hhalf
          refine ⟨_, by rw [hexec]; simp only [jobNoteRead, hn, hstanding, htail], honly, hreq, hin,
            fun e => absurd rfl e, fun f' _ e => (nomatch e), fun slot' _ e => ?_⟩
          cases e
          refine ⟨fun _ _ _ => hw, fun h => ?_⟩
          rw [jobStanding_busy (by tauto)] at hstanding
          cases hstanding
    · obtain ⟨honly, hin, hw, hreq⟩ := finishLate_same (pg := pg) (i := i) .unapplied 0 hturn hhalf
      exact ⟨_, exec_noteCommand_late hturn hkind hjob, honly, hreq, hin, fun _ => hw,
        fun _ e => absurd e hjob, fun _ e => absurd e hjob⟩

end Sys2Proof.Machine
end

section
/-! JOB notes: changeover (R148 to R150). -/
namespace Sys2Proof.Machine

/-! ### Grants over a line -/

/-- A stack as a grant can leave it. -/
def Granted (x y : Stack) : Prop :=
  y = { x with state := y.state, conveyor := y.conveyor } ∧ (y.state = x.state ∨ y.state = .pushing)

theorem Granted.refl (x : Stack) : Granted x x := ⟨rfl, .inl rfl⟩

theorem Granted.trans {x y z : Stack} (h : Granted x y) (k : Granted y z) : Granted x z := by
  refine ⟨by rw [k.1, h.1], ?_⟩
  obtain k | k := k.2
  · rw [k]
    exact h.2
  · exact .inr k

theorem granted_trans {q q' q'' : List Stack} (h : List.Forall₂ Granted q q')
    (k : List.Forall₂ Granted q' q'') : List.Forall₂ Granted q q'' := by
  induction h generalizing q'' with
  | nil => exact k
  | cons h _ ih =>
    cases k with
    | cons k ks => exact .cons (h.trans k) (ih ks)

theorem granted_refl (q : List Stack) : List.Forall₂ Granted q q :=
  List.forall₂_same.2 fun x _ => .refl x

theorem grantTurn_stacks (c : Conveyor) (s : State) (k : Lane) :
    List.Forall₂ Granted (s.skc.get k).line ((grantTurn c s).skc.get k).line := by
  obtain e | ⟨m, l, -, -, -, -, e⟩ := grantTurn_cases c s
  · rw [e]
    exact granted_refl _
  · rw [e, grant_line]
    split
    next hk =>
      subst hk
      cases (s.skc.get k).line with
      | nil => exact .nil
      | cons x rest => exact .cons ⟨rfl, .inr rfl⟩ (granted_refl rest)
    next => exact granted_refl _

/-- Grants make FRONT stacks PUSHING and change no other stack. -/
theorem passIfJoined_stacks (b s : State) (k : Lane) :
    List.Forall₂ Granted (s.skc.get k).line ((passIfJoined b s).skc.get k).line := by
  unfold passIfJoined
  split
  · exact granted_refl _
  · exact granted_trans (grantTurn_stacks .c0 s k) (grantTurn_stacks .c1 _ k)

theorem forall₂_getLast {α β : Type} {R : α → β → Prop} {q : List α} {q' : List β}
    (h : List.Forall₂ R q q') {x : α} (hx : q.getLast? = some x) :
    ∃ y, q'.getLast? = some y ∧ R x y := by
  induction h with
  | nil => cases hx
  | @cons a b q q' hab h ih =>
    cases h with
    | nil =>
      obtain rfl : a = x := by simpa using hx
      exact ⟨b, rfl, hab⟩
    | cons h1 h2 =>
      rw [List.getLast?_cons_cons] at hx
      obtain ⟨y, hy, hr⟩ := ih hx
      exact ⟨y, by rw [List.getLast?_cons_cons]; exact hy, hr⟩

theorem lastClosed_granted {k : CloseKind} {f : Count} {q q' q'' : List Stack}
    (h : LastClosed k f q q') (hg : List.Forall₂ Granted q' q'') : LastClosed k f q q'' := by
  refine ⟨fun x hx hfill => ?_, (hg.length_eq.symm).trans h.2⟩
  obtain ⟨y, hy, hid, hallotted, htarget, hstate, hkind, hpoint⟩ := h.1 x hx hfill
  obtain ⟨z, hz, heq, hz'⟩ := forall₂_getLast hg hy
  refine ⟨z, hz, by rw [heq, hid], by rw [heq, hallotted], by rw [heq, htarget], ?_,
    by rw [heq, hkind], by rw [heq, hpoint]⟩
  obtain e | e := hz'
  · rw [e]
    exact hstate
  · rw [e]
    exact nofun

/-! ### A lane whose line alone changes -/

/-- A lane of the Stack Controller whose line alone may have changed. -/
def LineOnly (x y : SkcLane) : Prop := y = { x with line := y.line }

theorem LineOnly.refl (x : SkcLane) : LineOnly x x := rfl

theorem LineOnly.trans {x y z : SkcLane} (h : LineOnly x y) (k : LineOnly y z) : LineOnly x z := by
  unfold LineOnly at *
  rw [k, h]

theorem shortClose_lineOnly (k : CloseKind) (l j : Lane) (s : State) :
    LineOnly (s.skc.get j) ((shortClose k l s).skc.get j) := by
  obtain e | ⟨x, -, -, e⟩ := shortClose_cases k l s
  · rw [e]
    exact .refl _
  · rw [e, (joinWaiting_keeps _ _).2.2.2.2.2.2.1, setLine, setLane, State.setSkc_skc, Lanes.get_set]
    split
    next h => rw [h]; rfl
    next => exact .refl _

theorem passIfJoined_lineOnly (b s : State) (j : Lane) :
    LineOnly (s.skc.get j) ((passIfJoined b s).skc.get j) := by
  unfold passIfJoined
  split
  · exact .refl _
  · exact LineOnly.trans (grantTurn_lineAlone .c0 s j) (grantTurn_lineAlone .c1 _ j)

/-! ### The closes due at a changeover (R149) -/

/-- What the closes of lanes leave of the state: all but the lines, the arbiter and the close pending
set. -/
structure LanesClosed (v t : State) : Prop where
  trc : t.trc = v.trc
  mkt : t.mkt = v.mkt
  rot : t.rot = v.rot
  knt : t.knt = v.knt
  ntp : t.ntp = v.ntp
  lnd : t.lnd = v.lnd
  rnc : t.rnc = v.rnc
  pxm : t.pxm = v.pxm
  rpw : t.rpw = v.rpw
  jbc : t.jbc = { v.jbc with closePending := t.jbc.closePending }
  lanes : ∀ l, LineOnly (v.skc.get l) (t.skc.get l)
  arbiter : ArbiterInv v → ArbiterInv t

theorem LanesClosed.refl (v : State) : LanesClosed v v :=
  ⟨rfl, rfl, rfl, rfl, rfl, rfl, rfl, rfl, rfl, rfl, fun _ => .refl _, id⟩

theorem LanesClosed.trans {s t u : State} (h : LanesClosed s t) (k : LanesClosed t u) :
    LanesClosed s u :=
  ⟨k.trc.trans h.trc, k.mkt.trans h.mkt, k.rot.trans h.rot, k.knt.trans h.knt, k.ntp.trans h.ntp,
   k.lnd.trans h.lnd, k.rnc.trans h.rnc, k.pxm.trans h.pxm, k.rpw.trans h.rpw, by rw [k.jbc, h.jbc],
   fun l => (h.lanes l).trans (k.lanes l), fun hs => k.arbiter (h.arbiter hs)⟩

theorem shortClose_closed (k : CloseKind) (l : Lane) (s : State) : LanesClosed s (shortClose k l s) where
  trc := by simp
  mkt := by simp
  rot := by simp
  knt := by simp
  ntp := by simp
  lnd := by simp
  rnc := by simp
  pxm := by simp
  rpw := by simp
  jbc := by simp
  lanes := fun j => shortClose_lineOnly k l j s
  arbiter := fun h => (shortClose_arbiter (J := False) k l s ⟨h, nofun⟩).1

theorem passIfJoined_closed (b s : State) : LanesClosed s (passIfJoined b s) where
  trc := by simp
  mkt := by simp
  rot := by simp
  knt := by simp
  ntp := by simp
  lnd := by simp
  rnc := by simp
  pxm := by simp
  rpw := by simp
  jbc := by simp
  lanes := passIfJoined_lineOnly b s
  arbiter := fun h => ((arbiterHeld_kept False).passIfJoined b s ⟨h, nofun⟩).1

theorem dropClosePending_closed (l : Lane) (s : State) : LanesClosed s (dropClosePending l s) where
  trc := rfl
  mkt := rfl
  rot := rfl
  knt := rfl
  ntp := rfl
  lnd := rfl
  rnc := rfl
  pxm := rfl
  rpw := rfl
  jbc := rfl
  lanes := fun _ => .refl _
  arbiter := fun h => { h with }

theorem closeIfDecided_closed (n : RowNum) (s : State) (l : Lane) :
    LanesClosed s (closeIfDecided n s l) := by
  unfold closeIfDecided
  split
  · exact (shortClose_closed _ l s).trans (dropClosePending_closed l _)
  · exact .refl s

theorem dueJobCloses_closed (last : Option RowNum) (s : State) :
    LanesClosed s (dueJobCloses last s) := by
  unfold dueJobCloses
  split
  · exact .refl s
  · exact (foldl_inv (P := fun t => LanesClosed s t)
      (fun t l ht => ht.trans (closeIfDecided_closed _ t l)) allLanes (.refl s)).trans
      (passIfJoined_closed _ _)

/-- A lane whose entry of the last row is decided is closed at a changeover and leaves the close pending
set; of the others a FRONT alone can change. -/
theorem dueJobCloses_lane {n : RowNum} {v : State} (l : Lane) :
    (dueJobCloses (some n) v).jbc.closePending.get l =
      (v.jbc.closePending.get l && !decidedIn l n v) ∧
    ((v.jbc.closePending.get l && decidedIn l n v) = true →
      LastClosed .shortJob v.trc.front (v.skc.get l).line
        ((dueJobCloses (some n) v).skc.get l).line ∧
      (ArbiterInv v → RestKept (v.skc.get l).line ((dueJobCloses (some n) v).skc.get l).line)) ∧
    ((v.jbc.closePending.get l && decidedIn l n v) = false →
      List.Forall₂ Granted (v.skc.get l).line ((dueJobCloses (some n) v).skc.get l).line ∧
      (ArbiterInv v → FrontGranted (v.skc.get l).line
        ((dueJobCloses (some n) v).skc.get l).line)) := by
  have hother : ∀ a j k, k ≠ j →
      (((closeIfDecided n a j).skc.get k).line, (closeIfDecided n a j).jbc.closePending.get k) =
        ((a.skc.get k).line, a.jbc.closePending.get k) := by
    intro a j k hk
    unfold closeIfDecided
    split
    · refine Prod.ext ?_ ?_
      · show ((shortClose .shortJob j a).skc.get k).line = _
        rw [shortClose_line_other hk]
      · simp [dropClosePending, Lanes.get_set_ne _ _ hk]
    · rfl
  obtain ⟨a, ha, hshown, hfold⟩ := foldl_lanes
    (fun k a => ((a.skc.get k).line, a.jbc.closePending.get k)) hother
    (P := fun a => LanesClosed v a)
    (fun a j ha => ha.trans (closeIfDecided_closed n a j)) l (.refl v)
  obtain ⟨hline, hpending⟩ := Prod.mk.inj hshown
  obtain ⟨hfline, hfpending⟩ := Prod.mk.inj hfold
  have hfolded : LanesClosed v (allLanes.foldl (closeIfDecided n) v) :=
    foldl_inv (P := fun t => LanesClosed v t)
      (fun t l ht => ht.trans (closeIfDecided_closed n t l)) allLanes (.refl v)
  have hdecided : decidedIn l n a = decidedIn l n v := by
    simp only [decidedIn, findRow, ha.rot]
  have hstacks : List.Forall₂ Granted ((closeIfDecided n a l).skc.get l).line
      ((dueJobCloses (some n) v).skc.get l).line :=
    hfline ▸ passIfJoined_stacks v _ l
  have hfront : ArbiterInv v → FrontGranted ((closeIfDecided n a l).skc.get l).line
      ((dueJobCloses (some n) v).skc.get l).line := fun h =>
    hfline ▸ passIfJoined_front (hfolded.arbiter h) v l
  have hlast : (dueJobCloses (some n) v).jbc.closePending.get l =
      (closeIfDecided n a l).jbc.closePending.get l := by
    rw [← hfpending]
    show (passIfJoined _ _).jbc.closePending.get l = _
    rw [(passIfJoined_keeps _ _).2.2.2.2.2.2.1]
  by_cases hclose : (v.jbc.closePending.get l && decidedIn l n v) = true
  · have heq : closeIfDecided n a l = dropClosePending l (shortClose .shortJob l a) :=
      if_pos (by rw [hpending, hdecided]; exact hclose)
    rw [heq] at hstacks hfront hlast
    obtain ⟨-, hd⟩ := Bool.and_eq_true_iff.1 hclose
    refine ⟨by rw [hlast, hd]; simp [dropClosePending], fun _ => ⟨?_, fun h => ?_⟩, fun e => ?_⟩
    · rw [← hline, ← ha.trc]
      exact lastClosed_granted (shortClose_granted (frontGranted_refl _)).1 hstacks
    · rw [← hline]
      exact (shortClose_granted (hfront h)).2
    · rw [hclose] at e
      cases e
  · have heq : closeIfDecided n a l = a := if_neg (by rw [hpending, hdecided]; exact hclose)
    rw [heq] at hstacks hfront hlast
    rw [hline] at hstacks hfront
    refine ⟨?_, fun e => absurd e hclose, fun _ => ⟨hstacks, hfront⟩⟩
    rw [hlast, hpending]
    cases hp : v.jbc.closePending.get l with
    | false => rfl
    | true =>
      rw [hp, Bool.true_and, Bool.not_eq_true] at hclose
      simp [hclose]

/-! ### The changeover before its closes (R148) -/

theorem withNextJob_blocks (j : JobRecord) (s : State) :
    (withNextJob j s).mkt = { s.mkt with state := .acquire, coastCount := 0, expected := none } ∧
    (withNextJob j s).rot = { s.rot with track := retag .current .previous s.rot.track } ∧
    (withNextJob j s).jbc = { current := some (newContext j), previous := s.jbc.current,
                              closePending := formClosePending s.jbc.current } ∧
    (withNextJob j s).trc = s.trc ∧ (withNextJob j s).knt = s.knt ∧ (withNextJob j s).ntp = s.ntp ∧
    (withNextJob j s).lnd = s.lnd ∧ (withNextJob j s).rnc = s.rnc ∧ (withNextJob j s).pxm = s.pxm ∧
    (withNextJob j s).rpw = s.rpw := by
  have hrot : ∀ (q : List Row) (u : State), (setTrack q u).rot = { u.rot with track := q } :=
    fun _ _ => rfl
  simp [withNextJob, Mkt.reenter, hrot]

theorem withNextJob_lane (j : JobRecord) (s : State) (l : Lane) : ∃ limit,
    (withNextJob j s).skc.get l = { s.skc.get l with
      targetCurrent := if j.active l then some (j.lane.get l).target else none,
      targetPrevious := (s.skc.get l).targetCurrent, shelfLimit := limit } := by
  have hgoal : ∀ (g : Option Nat) (x : SkcLane), ∃ limit,
      withGoal g x = { x with shelfLimit := limit } := by
    intro g x
    cases g with
    | none => exact ⟨x.shelfLimit, rfl⟩
    | some g => exact ⟨max g (shelfTotal x.line), rfl⟩
  unfold withNextJob
  dsimp only
  rw [State.setJbc_skc, setShelfLimits_get]
  generalize shelfGoal l _ = g
  obtain ⟨limit, h⟩ := hgoal g _
  exact ⟨limit, by rw [h]; simp [changeoverTargets, JobRecord.targetIn]⟩

theorem findRow_retag (old new : JobTag) (n : RowNum) (track : List Row) :
    (retag old new track).find? (fun r => r.number == n) =
      (track.find? fun r => r.number == n).map fun r => if r.tag = old then { r with tag := new } else r :=
  find?_map_number (fun r => by split <;> rfl) n track

theorem decidedIn_retag {old new : JobTag} {s t : State}
    (h : t.rot.track = retag old new s.rot.track) (l : Lane) (n : RowNum) :
    decidedIn l n t = decidedIn l n s := by
  have hopen : ∀ r : Row, openIn l (if r.tag = old then { r with tag := new } else r) = openIn l r := by
    intro r
    split <;> rfl
  simp only [decidedIn, findRow, h, findRow_retag]
  cases s.rot.track.find? fun r => r.number == n with
  | none => rfl
  | some r => simp only [Option.map_some, hopen]

/-- The freeing of PREVIOUS leaves of a lane all but the PREVIOUS target and the shelf limit. -/
theorem freeingTest_target (s : State) (l : Lane) :
    ((freeingTest s).skc.get l).targetCurrent = (s.skc.get l).targetCurrent ∧
    ((freeingTest s).skc.get l).hold = (s.skc.get l).hold ∧
    ((freeingTest s).skc.get l).line = (s.skc.get l).line := by
  have hfree : ∀ c, ∃ g, (freePrevious c s).skc.get l =
      withGoal g { s.skc.get l with targetPrevious := none } := by
    intro c
    unfold freePrevious
    dsimp only
    rw [State.setJbc_skc, setShelfLimits_get]
    exact ⟨_, by simp [clearPreviousTargets]; rfl⟩
  unfold freeingTest
  repeat' split
  · exact ⟨rfl, rfl, rfl⟩
  next c _ _ =>
    obtain ⟨g, hg⟩ := hfree c
    rw [hg]
    obtain ⟨h1, h2, -, h4, -⟩ := withGoal_keeps g { s.skc.get l with targetPrevious := none }
    exact ⟨h2, h4, h1⟩
  · exact ⟨rfl, rfl, rfl⟩

/-! ### The changeover -/

/-- The changeover before its freeing test. -/
def changed (j : JobRecord) (s : State) : State :=
  queueRecord (.jobStart j.jobId (rowSucc
    (dueJobCloses (lastRowOf s.jbc.current) (withNextJob j s)).rot.lastNumber))
    (dueJobCloses (lastRowOf s.jbc.current) (withNextJob j s))

theorem changeover_changed (j : JobRecord) (s : State) : changeover j s = freeingTest (changed j s) :=
  changeover_eq j s

/-- What stands once the new job is CURRENT, the due closes are taken and JOB_START is handed over. -/
structure Changed (j : JobRecord) (s u : State) : Prop where
  mkt : u.mkt = { s.mkt with state := .acquire, coastCount := 0, expected := none }
  rot : u.rot = { s.rot with track := retag .current .previous s.rot.track }
  current : u.jbc.current = some (newContext j)
  previous : u.jbc.previous = s.jbc.current
  kept : u.trc = s.trc ∧ u.knt = s.knt ∧ u.ntp = s.ntp ∧ u.lnd = s.lnd ∧ u.rnc = s.rnc ∧
    u.pxm.memory = s.pxm.memory ∧ u.pxm.waiting = s.pxm.waiting ∧ u.rpw.halfWork = s.rpw.halfWork
  record : HandedOver (.jobStart j.jobId (rowSucc s.rot.lastNumber)) s u
  lanes : ∀ l, (u.skc.get l).targetCurrent =
      (if j.active l = true then some (j.lane.get l).target else none) ∧
    (u.skc.get l).targetPrevious = (s.skc.get l).targetCurrent ∧
    (u.skc.get l).hold = (s.skc.get l).hold
  closes : u.jbc.closePending =
    (dueJobCloses (lastRowOf s.jbc.current) (withNextJob j s)).jbc.closePending
  lines : u.skc = (dueJobCloses (lastRowOf s.jbc.current) (withNextJob j s)).skc

theorem changed_changed (j : JobRecord) (s : State) : Changed j s (changed j s) := by
  obtain ⟨hmkt, hrot, hjbc, htrc, hknt, hntp, hlnd, hrnc, hpxm, hrpw⟩ := withNextJob_blocks j s
  have hclosed := dueJobCloses_closed (lastRowOf s.jbc.current) (withNextJob j s)
  unfold changed
  generalize hv : dueJobCloses (lastRowOf s.jbc.current) (withNextJob j s) = v at hclosed
  have hnumber : v.rot.lastNumber = s.rot.lastNumber := by rw [hclosed.rot, hrot]
  rw [hnumber]
  have hvjbc := hclosed.jbc
  rw [hjbc] at hvjbc
  have hujbc : (queueRecord (.jobStart j.jobId (rowSucc s.rot.lastNumber)) v).jbc = v.jbc := by simp
  exact {
    mkt := by simp [hclosed.mkt, hmkt]
    rot := by simp [hclosed.rot, hrot]
    current := congrArg Jbc.current (hujbc.trans hvjbc)
    previous := congrArg Jbc.previous (hujbc.trans hvjbc)
    kept := by
      simp [hclosed.trc, hclosed.knt, hclosed.ntp, hclosed.lnd, hclosed.rnc, hclosed.pxm, hclosed.rpw,
        htrc, hknt, hntp, hlnd, hrnc, hpxm, hrpw]
    record := handedOver_of_rpw (handedOver_queueRecord rfl v) (by rw [hclosed.rpw, hrpw]) rfl
    lanes := fun l => by
      obtain ⟨limit, hlane⟩ := withNextJob_lane j s l
      have hl := hclosed.lanes l
      unfold LineOnly at hl
      rw [hlane] at hl
      rw [(queueRecord_keeps _ v).2.2.2.2.2.2.1, hl]
      exact ⟨rfl, rfl, rfl⟩
    closes := by rw [hujbc, hv]
    lines := by rw [(queueRecord_keeps _ v).2.2.2.2.2.2.1, hv] }

/-- The first part of O41: the changeover (R148). -/
theorem jobNote_changes {s : State} {p : PageInWork} {rest : List NoteBurst} {slot : Nat}
    {m : MachineRecord} {old : JobContext} {j : JobRecord} (h : JobCopied s p rest slot)
    (hm : s.rnc.record = some m) (hrun : s.rnc.runState = .run) (hc : s.jbc.current = some old)
    (hp : s.jbc.previous = none) (hj : j = readJobRecord s.pxm.memory slot)
    (hvalid : jobIndex j m = none) :
    ∃ t, exec .jobNote s = .next t ∧ NoteDone t p rest .done 0 ∧ t.rnc = s.rnc ∧
      t.jbc.current = some ⟨j, none, none, zeroTallies⟩ ∧
      t.mkt = { s.mkt with state := .acquire, coastCount := 0, expected := none } ∧
      (∀ l, (t.skc.get l).targetCurrent =
          (if j.active l = true then some (j.lane.get l).target else none) ∧
        (t.skc.get l).hold = (s.skc.get l).hold ∧
        (t.skc.get l).line.length = (s.skc.get l).line.length) ∧
      trackNumbers t = trackNumbers s ∧ t.knt = s.knt ∧ t.trc = s.trc ∧ t.lnd = s.lnd ∧
      t.pxm.memory = s.pxm.memory ∧
      (∀ n r, old.lastRow = some n → findRow n s = some r → fullyDecided r = false →
        t.jbc.previous = some old ∧
        (∀ l, (t.skc.get l).targetPrevious = (s.skc.get l).targetCurrent) ∧
        (∀ l, t.jbc.closePending.get l = true ↔ old.job.active l = true ∧ openIn l r = true) ∧
        (∀ l, old.job.active l = true → openIn l r = false →
          LastClosed .shortJob s.trc.front (s.skc.get l).line (t.skc.get l).line ∧
          (ArbiterInv s → RestKept (s.skc.get l).line (t.skc.get l).line)) ∧
        (ArbiterInv s → ∀ l, ¬(old.job.active l = true ∧ openIn l r = false) →
          FrontGranted (s.skc.get l).line (t.skc.get l).line) ∧
        t.rot.track = s.rot.track.map (fun x =>
          if x.tag = .current then { x with tag := .previous } else x) ∧
        HandedOver (.jobStart j.jobId (rowSucc s.rot.lastNumber)) s t) ∧
      (old.lastRow = none → t.jbc.previous = none ∧ t.jbc.closePending = Lanes.fill false ∧
        (∀ l, (t.skc.get l).targetPrevious = none) ∧
        (otherRecords s.rpw.queue < 3 → t.rpw.queue = s.rpw.queue ++
          [.jobStart j.jobId (rowSucc s.rot.lastNumber),
           .jobEnd old.job.jobId (old.firstRow.getD 0#32) 0#32 old.tallies])) := by
  have houtcome : jobOutcome slot s = (changeover j s, .done, 0) := by
    simp only [jobOutcome, jobStanding_run hrun hp, hm, ← hj, hvalid]
  have hexec := exec_jobNote_copied h
  rw [houtcome, changeover_changed] at hexec
  obtain ⟨-, ⟨-, -, hwaiting, hwork⟩, hhalf⟩ := h
  have hu := changed_changed j s
  have hlanes := fun n l => dueJobCloses_lane (n := n) (v := withNextJob j s) l
  have harbiter : ArbiterInv s → ArbiterInv (withNextJob j s) := fun h =>
    (hj ▸ (arbiterHeld_kept False).nextJob s m slot hrun hm (hj ▸ hvalid) ⟨h, nofun⟩ :
      ArbiterHeld False (withNextJob j s)).1
  generalize changed j s = u at hu hexec
  obtain ⟨htrc, hknt, hntp, hlnd, hrnc, hmemory, hpwaiting, hphalf⟩ := hu.kept
  obtain ⟨fktrc, fkmkt, fkknt, fkntp, fklnd, -, fkrnc, -, -, fkmemory, -, -, fkwaiting, -, -, -, -, -, -,
    -, fkhalf, -, -, fkcurrent⟩ := freeingTest_keeps u
  obtain ⟨hdone, honly⟩ := finishNote_done (s := s) (p := p) .done 0 (u := freeingTest u)
    (by rw [fkntp, hntp]; exact hwork) (by rw [fkwaiting, hpwaiting, hwaiting])
    (by rw [fkhalf, hphalf, hhalf])
  generalize afterBurst (finishNote s p (freeingTest u, .done, 0)) = t at hdone honly hexec
  obtain ⟨ttrc, tmkt, trot, tknt, tlnd, tskc, ttka, tjbc, trnc, trpw, tmemory, -⟩ := honly.blocks
  have hline : ∀ l, ((withNextJob j s).skc.get l).line = (s.skc.get l).line := by
    intro l
    obtain ⟨limit, hlane⟩ := withNextJob_lane j s l
    rw [hlane]
  obtain ⟨-, hwrot, hwjbc, hwtrc, -⟩ := withNextJob_blocks j s
  have htline : ∀ l, (t.skc.get l).line =
      ((dueJobCloses old.lastRow (withNextJob j s)).skc.get l).line := by
    intro l
    rw [tskc, (freeingTest_target u l).2.2, hu.lines, hc]
    rfl
  have hlength : ∀ l, (t.skc.get l).line.length = (s.skc.get l).line.length := by
    intro l
    rw [htline, ← hline]
    cases hlast : old.lastRow with
    | none => rfl
    | some n =>
      obtain ⟨-, hclosed, hkept⟩ := hlanes n l
      cases hcase : (withNextJob j s).jbc.closePending.get l && decidedIn l n (withNextJob j s) with
      | true => exact (hclosed hcase).1.2
      | false => exact (hkept hcase).1.length_eq.symm
  have hnumbers : trackNumbers t = trackNumbers s := by
    have hu' : trackNumbers u = trackNumbers s := by
      simp only [trackNumbers_eq, hu.rot, numbersOf_retag]
    rw [← hu', ← freeingTest_numbers u]
    simp only [trackNumbers, trot]
  refine ⟨t, hexec, hdone, by rw [trnc, fkrnc, hrnc], by rw [tjbc, fkcurrent, hu.current]; rfl,
    by rw [tmkt, fkmkt, hu.mkt], fun l => ⟨?_, ?_, hlength l⟩, hnumbers, by rw [tknt, fkknt, hknt],
    by rw [ttrc, fktrc, htrc], by rw [tlnd, fklnd, hlnd], by rw [tmemory, fkmemory, hmemory],
    fun n r hlast hr hopen => ?_, fun hlast => ?_⟩
  · rw [tskc, (freeingTest_target u l).1, (hu.lanes l).1]
  · rw [tskc, (freeingTest_target u l).2.1, (hu.lanes l).2.2]
  · have hprevious : u.jbc.previous = some old := hu.previous.trans hc
    have hfree : freeingTest u = u := by
      refine freeingTest_kept hprevious (.inl fun hdone => ?_)
      have hfind : findRow n u = some (if r.tag = .current then { r with tag := .previous } else r) := by
        rw [findRow, hu.rot, findRow_retag, ← findRow, hr]
        rfl
      have hdecided := hdone n _ hlast hfind
      split at hdecided <;> exact Bool.false_ne_true (hopen.symm.trans hdecided)
    rw [hfree] at tjbc tskc trot trpw
    have hdecided : ∀ l, decidedIn l n (withNextJob j s) = !openIn l r := by
      intro l
      rw [decidedIn_retag (s := s) (old := .current) (new := .previous) (by rw [hwrot])]
      simp only [decidedIn, hr]
    have hpending : ∀ l, (withNextJob j s).jbc.closePending.get l = old.job.active l := by
      intro l
      rw [hwjbc, hc]
      simp [formClosePending, hlast]
    have hlane := hlanes n
    simp only [hdecided, hpending, hline, hwtrc] at hlane
    have htline' : ∀ l, (t.skc.get l).line =
        ((dueJobCloses (some n) (withNextJob j s)).skc.get l).line := hlast ▸ htline
    refine ⟨by rw [tjbc, hprevious], fun l => by rw [tskc, (hu.lanes l).2.1], fun l => ?_,
      fun l hactive hdone => ?_, fun hinv l hnot => ?_, by rw [trot, hu.rot]; rfl,
      handedOver_of_rpw hu.record rfl trpw⟩
    · rw [tjbc, hu.closes, hc]
      show (dueJobCloses old.lastRow _).jbc.closePending.get l = true ↔ _
      rw [hlast, (hlane l).1]
      simp
    · rw [htline']
      obtain ⟨hclosed, hrest⟩ := (hlane l).2.1 (by simp [hactive, hdone])
      exact ⟨hclosed, fun hinv => hrest (harbiter hinv)⟩
    · rw [htline']
      refine ((hlane l).2.2 ?_).2 (harbiter hinv)
      simpa using hnot
  · have hprevious : u.jbc.previous = some old := hu.previous.trans hc
    have hfree : freeingTest u = freePrevious old u := by
      refine freeingTest_freed hprevious (fun n q e => ?_) fun k n e => ?_
      · rw [hlast] at e
        cases e
      · rw [hlast] at e
        cases e
    have hfreed := freePrevious_freed old u
    rw [hfree] at tjbc tskc trpw
    refine ⟨by rw [tjbc]; exact hfreed.jobs.1, by rw [tjbc]; exact hfreed.jobs.2.1,
      fun l => by rw [tskc]; exact hfreed.targets l, fun hroom => ?_⟩
    have hqueue : u.rpw.queue = s.rpw.queue ++ [.jobStart j.jobId (rowSucc s.rot.lastNumber)] :=
      (hu.record.1 (by omega)).1
    have hothers : otherRecords u.rpw.queue < 4 := by
      rw [hqueue, otherRecords_append]
      show _ + 1 < 4
      omega
    rw [trpw, (hfreed.record.1 hothers).1, hqueue, endOf, hlast]
    simp

/-- Settles O41: the changeover, and the closes and the freeing of the old job that decisions and resolutions
bring. -/
theorem jobNoteMakesAChangeover : Obligations.JobNoteMakesAChangeover :=
  ⟨fun _ _ _ _ _ _ _ h hm hrun hc hp hj hvalid => jobNote_changes h hm hrun hc hp hj hvalid,
    fun _ _ _ _ _ _ _ hm hdue hc hv =>
      ⟨fun hlast hpending hstop harbiter =>
          decision_closes_job hm hdue harbiter hc hlast hpending hstop hv,
        fun hrun _ hc' =>
          ⟨fun hall hdone hnone hfind => (decision_frees hm hdue hc hv hrun hc' hfind).1 hall hdone hnone,
            fun hleft hfind => (decision_frees hm hdue hc hv hrun hc' hfind).2 hleft⟩⟩,
    fun _ _ _ _ _ _ ha hres hc => resolution_frees ha hres hc⟩

end Sys2Proof.Machine
end

section
/-! LANE notes (R127). -/
namespace Sys2Proof.Machine

/-! ### The short closes of some lanes -/

/-- The lanes of a set short-closed, with the grant pass of the joinings since `b` (R125, R129). -/
def closeSome (k : CloseKind) (p : Lane → Bool) (b s : State) : State :=
  passIfJoined b (allLanes.foldl (fun a l => if p l then shortClose k l a else a) s)

theorem closeOne_closed (k : CloseKind) (p : Lane → Bool) (s : State) (l : Lane) :
    LanesClosed s (if p l then shortClose k l s else s) := by
  split
  · exact shortClose_closed k l s
  · exact .refl s

theorem closeFold_closed (k : CloseKind) (p : Lane → Bool) (s : State) :
    LanesClosed s (allLanes.foldl (fun a l => if p l then shortClose k l a else a) s) :=
  foldl_inv (P := fun t => LanesClosed s t) (fun t l ht => ht.trans (closeOne_closed k p t l)) allLanes
    (.refl s)

theorem closeSome_closed (k : CloseKind) (p : Lane → Bool) (b s : State) :
    LanesClosed s (closeSome k p b s) :=
  (closeFold_closed k p s).trans (passIfJoined_closed b _)

/-- The lines that the closes leave: the last stack of a lane of the set closes, and of the others a FRONT
alone can change. -/
theorem closeSome_line (k : CloseKind) (p : Lane → Bool) (b s : State) (l : Lane) :
    (p l = true →
      LastClosed k s.trc.front (s.skc.get l).line ((closeSome k p b s).skc.get l).line ∧
      (ArbiterInv s → RestKept (s.skc.get l).line ((closeSome k p b s).skc.get l).line)) ∧
    (p l = false →
      List.Forall₂ Granted (s.skc.get l).line ((closeSome k p b s).skc.get l).line ∧
      (ArbiterInv s → FrontGranted (s.skc.get l).line ((closeSome k p b s).skc.get l).line)) := by
  have hother : ∀ a j k', k' ≠ j → ((if p j then shortClose k j a else a).skc.get k').line =
      (a.skc.get k').line := by
    intro a j k' hk
    split
    · rw [shortClose_line_other hk]
    · rfl
  obtain ⟨a, ha, hline, hfold⟩ := foldl_lanes (fun k a => (a.skc.get k).line) hother
    (P := fun a => LanesClosed s a) (fun a j ha => ha.trans (closeOne_closed k p a j)) l (.refl s)
  have hstacks : List.Forall₂ Granted ((if p l then shortClose k l a else a).skc.get l).line
      ((closeSome k p b s).skc.get l).line := hfold ▸ passIfJoined_stacks b _ l
  have hfront : ArbiterInv s → FrontGranted ((if p l then shortClose k l a else a).skc.get l).line
      ((closeSome k p b s).skc.get l).line := fun h =>
    hfold ▸ passIfJoined_front ((closeFold_closed k p s).arbiter h) b l
  refine ⟨fun hp => ?_, fun hp => ?_⟩
  · rw [if_pos hp] at hstacks hfront
    rw [← hline, ← ha.trc]
    exact ⟨lastClosed_granted (shortClose_granted (frontGranted_refl _)).1 hstacks,
      fun h => (shortClose_granted (hfront h)).2⟩
  · rw [if_neg (by rw [hp]; exact Bool.false_ne_true), hline] at hstacks hfront
    exact ⟨hstacks, hfront⟩

/-- The closes leave every line its number of stacks. -/
theorem closeSome_length (k : CloseKind) (p : Lane → Bool) (b s : State) (l : Lane) :
    ((closeSome k p b s).skc.get l).line.length = (s.skc.get l).line.length := by
  obtain ⟨hclosed, hkept⟩ := closeSome_line k p b s l
  cases hp : p l with
  | true => exact (hclosed hp).1.2
  | false => exact (hkept hp).1.length_eq.symm

theorem closeSome_jbc (k : CloseKind) (p : Lane → Bool) (b s : State) :
    (closeSome k p b s).jbc = s.jbc := by
  have hfold : (allLanes.foldl (fun a l => if p l then shortClose k l a else a) s).jbc = s.jbc :=
    foldl_inv (P := fun t => t.jbc = s.jbc) (fun t l ht => by
      split
      · simpa using ht
      · exact ht) allLanes rfl
  rw [closeSome, (passIfJoined_keeps _ _).2.2.2.2.2.2.1, hfold]

theorem closeLanes_eq (lanes : LaneSet) (s : State) :
    closeLanes lanes s = closeSome .shortCmd lanes.get s s := by
  unfold closeLanes closeSome lanesOf
  rw [List.foldl_filter]

/-! ### The actions of a LANE note (R127) -/

/-- A hold flag after HOLD and RELEASE. -/
def heldAfter (named : Bool) (x : LaneActions) (h : Bool) : Bool :=
  if named && x.release then false else if named && x.hold then true else h

/-- HOLD and RELEASE, in this order. -/
def holdsSet (lanes : LaneSet) (x : LaneActions) (s : State) : State :=
  s.setSkc (Lanes.ofFn fun l =>
    { s.skc.get l with hold := heldAfter (lanes.get l) x (s.skc.get l).hold })

theorem holdsSet_eq (lanes : LaneSet) (x : LaneActions) (s : State) :
    (if x.release then setHolds lanes false (if x.hold then setHolds lanes true s else s)
      else if x.hold then setHolds lanes true s else s) = holdsSet lanes x s := by
  have hskc : (if x.release then setHolds lanes false (if x.hold then setHolds lanes true s else s)
      else if x.hold then setHolds lanes true s else s).skc = (holdsSet lanes x s).skc := by
    refine Lanes.ext_get fun l => ?_
    cases hr : x.release <;> cases hh : x.hold <;> cases hl : lanes.get l <;>
      simp [setHolds, holdsSet, heldAfter, hr, hh, hl]
  cases hr : x.release <;> cases hh : x.hold <;> rw [hr, hh] at hskc <;>
    exact congrArg s.setSkc hskc

theorem applyActions_eq (j : JobRecord) (lanes : LaneSet) (x : LaneActions) (n : Nat) (s : State) :
    applyActions j lanes x n s =
      (let v := if x.closeShort then closeSome .shortCmd lanes.get (holdsSet lanes x s)
          (holdsSet lanes x s) else holdsSet lanes x s
       if x.target then setTargets j lanes n v else v) := by
  unfold applyActions
  dsimp only
  rw [holdsSet_eq, closeLanes_eq]

section
variable (j : JobRecord) (lanes : LaneSet) (x : LaneActions) (n : Nat) (s : State)

/-- What the actions leave of the blocks. -/
theorem applyActions_blocks :
    (applyActions j lanes x n s).trc = s.trc ∧ (applyActions j lanes x n s).mkt = s.mkt ∧
    (applyActions j lanes x n s).rot = s.rot ∧ (applyActions j lanes x n s).knt = s.knt ∧
    (applyActions j lanes x n s).ntp = s.ntp ∧ (applyActions j lanes x n s).lnd = s.lnd ∧
    (applyActions j lanes x n s).jbc = s.jbc ∧ (applyActions j lanes x n s).rnc = s.rnc ∧
    (applyActions j lanes x n s).pxm = s.pxm ∧ (applyActions j lanes x n s).rpw = s.rpw ∧
    (x.closeShort = false → (applyActions j lanes x n s).tka = s.tka) := by
  rw [applyActions_eq]
  cases x.closeShort with
  | true =>
    have hclosed := closeSome_closed .shortCmd lanes.get (holdsSet lanes x s) (holdsSet lanes x s)
    have hjbc := closeSome_jbc .shortCmd lanes.get (holdsSet lanes x s) (holdsSet lanes x s)
    have htargets : ∀ u : State, (if x.target then setTargets j lanes n u else u) =
        { u with skc := (if x.target then setTargets j lanes n u else u).skc } := by
      intro u
      split <;> rfl
    dsimp only
    rw [htargets]
    exact ⟨hclosed.trc, hclosed.mkt, hclosed.rot, hclosed.knt, hclosed.ntp, hclosed.lnd, hjbc,
      hclosed.rnc, hclosed.pxm, hclosed.rpw, fun e => nomatch e⟩
  | false => cases x.target <;> simp [holdsSet, setTargets]

/-- What the actions leave of a lane. -/
theorem applyActions_lane (l : Lane) :
    (applyActions j lanes x n s).skc.get l = { s.skc.get l with
      line := ((applyActions j lanes x n s).skc.get l).line
      hold := heldAfter (lanes.get l) x (s.skc.get l).hold
      targetCurrent := if (x.target && lanes.get l && j.active l) = true then some n
        else (s.skc.get l).targetCurrent } := by
  have hhold : (holdsSet lanes x s).skc.get l =
      { s.skc.get l with hold := heldAfter (lanes.get l) x (s.skc.get l).hold } := by
    simp [holdsSet]
  have hclosed :=
    (closeSome_closed .shortCmd lanes.get (holdsSet lanes x s) (holdsSet lanes x s)).lanes l
  unfold LineOnly at hclosed
  rw [hhold] at hclosed
  have hline : ∃ q, (if x.closeShort then closeSome .shortCmd lanes.get (holdsSet lanes x s)
      (holdsSet lanes x s) else holdsSet lanes x s).skc.get l =
      { s.skc.get l with line := q, hold := heldAfter (lanes.get l) x (s.skc.get l).hold } := by
    split
    · exact ⟨_, hclosed⟩
    · exact ⟨_, hhold⟩
  obtain ⟨q, hq⟩ := hline
  rw [applyActions_eq]
  dsimp only
  cases ht : x.target with
  | true =>
    rw [if_pos rfl]
    simp only [setTargets, State.setSkc_skc, Lanes.get_ofFn, Bool.true_and]
    rw [hq]
    split <;> rfl
  | false =>
    rw [if_neg Bool.false_ne_true, hq]
    simp

/-- The lines that the actions leave are those that CLOSE_SHORT leaves. -/
theorem applyActions_line (l : Lane) : ((applyActions j lanes x n s).skc.get l).line =
    if x.closeShort then ((closeSome .shortCmd lanes.get (holdsSet lanes x s)
      (holdsSet lanes x s)).skc.get l).line else (s.skc.get l).line := by
  have htargets : ∀ u : State, ((setTargets j lanes n u).skc.get l).line = (u.skc.get l).line := by
    intro u
    simp only [setTargets, State.setSkc_skc, Lanes.get_ofFn]
    split <;> rfl
  have hhold : ((holdsSet lanes x s).skc.get l).line = (s.skc.get l).line := by simp [holdsSet]
  rw [applyActions_eq]
  cases x.closeShort <;> cases x.target <;> simp [htargets, hhold]

end

theorem exec_laneNote_of_turn {s : State} {p : PageInWork} {rest : List NoteBurst} {lanes : LaneSet}
    {x : LaneActions} {target : Nat} (h : NoteAtTurn s p rest)
    (hn : decodeNote s.pxm.memory p.noteBase = .inl (.lane lanes x target)) :
    exec .laneNote s = .next (afterBurst (finishNote s p (applyLaneNote lanes x target s))) := by
  have hstep := noteStep_of_turn laneOutcome h hn
  simp only [Note.kind, laneOutcome] at hstep
  simp only [exec, execLaneNote, hstep]

theorem targetFails_iff (j : JobRecord) (lanes : LaneSet) (target : Nat) (l : Lane) :
    targetFails j lanes target l = true ↔
      lanes.get l = true ∧ j.active l = true ∧ target ≤ (j.lane.get l).shelfMax := by
  simp [targetFails, and_assoc]

/-- Settles O38: a LANE note is refused by its target, or acts on its lanes by the actions in their order. -/
theorem laneNoteActsOnItsLanes : Obligations.LaneNoteActsOnItsLanes := by
  intro s p rest lanes a target hturn hn
  have hexec := exec_laneNote_of_turn hturn hn
  refine ⟨fun hnone => ?_, fun c hc => ⟨fun l ha hl hactive hfails => ?_, fun hpasses => ?_⟩⟩
  · refine ⟨_, ?_, finishNote_same .noJob 0 hturn.1 hturn.2.2⟩
    rw [hexec]
    simp only [applyLaneNote, hnone]
  · have hany : allLanes.any (targetFails c.job lanes target) = true :=
      List.any_eq_true.2 ⟨l, mem_allLanes l, (targetFails_iff _ _ _ _).2 ⟨hl, hactive, hfails⟩⟩
    refine ⟨_, ?_, finishNote_same .bad 3 hturn.1 hturn.2.2⟩
    rw [hexec]
    simp only [applyLaneNote, hc, ha, hany, Bool.and_self, if_true]
  · have hany : (a.target && allLanes.any (targetFails c.job lanes target)) = false := by
      rw [← Bool.not_eq_true, Bool.and_eq_true, List.any_eq_true]
      rintro ⟨ha, l, -, hl⟩
      obtain ⟨hnamed, hactive, hfails⟩ := (targetFails_iff _ _ _ _).1 hl
      exact absurd hfails (Nat.not_le.2 (hpasses l ha hnamed hactive))
    have happly : applyLaneNote lanes a target s = (applyActions c.job lanes a target s, .done, 0) := by
      simp only [applyLaneNote, hc, hany, Bool.false_eq_true, if_false]
    obtain ⟨htrc, hmkt, hrot, hknt, hntp, hlnd, hjbc, hrnc, hpxm, hrpw, htka⟩ :=
      applyActions_blocks c.job lanes a target s
    have hlane := applyActions_lane c.job lanes a target s
    have hline := applyActions_line c.job lanes a target s
    rw [happly] at hexec
    generalize applyActions c.job lanes a target s = u at *
    obtain ⟨hdone, honly⟩ := noteDone_afterBurst .done 0 hturn hpxm hntp hrpw
    generalize afterBurst (finishNote s p (u, .done, 0)) = t at hexec hdone honly
    unfold OnlyPageWork at honly
    have hskc : t.skc = u.skc := by rw [honly]
    have hheld : (holdsSet lanes a s).trc = s.trc ∧
        (ArbiterInv s → ArbiterInv (holdsSet lanes a s)) ∧
        ∀ l, ((holdsSet lanes a s).skc.get l).line = (s.skc.get l).line := by
      refine ⟨rfl, fun h => ?_, fun l => by simp [holdsSet]⟩
      have hset : ∀ (b v : Bool) (u : State), ArbiterHeld False u →
          ArbiterHeld False (if b then setHolds lanes v u else u) := by
        intro b v u hu
        split
        · exact (arbiterHeld_kept False).holds u _ _ hu
        · exact hu
      rw [← holdsSet_eq]
      exact (hset _ _ _ (hset _ _ _ ⟨h, nofun⟩)).1
    obtain ⟨hheldtrc, hheldinv, hheldline⟩ := hheld
    have hcloses := closeSome_line .shortCmd lanes.get (holdsSet lanes a s) (holdsSet lanes a s)
    have hlength := closeSome_length .shortCmd lanes.get (holdsSet lanes a s) (holdsSet lanes a s)
    simp only [hheldline, hheldtrc] at hcloses hlength
    refine ⟨t, hexec, hdone, fun l => ?_, fun l => ?_, fun l hl hclose => ?_, fun hinv l hl => ?_,
      fun l => ⟨?_, ?_, ?_, ?_⟩, fun hclose => ⟨?_, fun l => ?_⟩, by rw [honly, hmkt], by rw [honly, hknt],
      by rw [honly, htrc], by rw [honly, hjbc], by rw [honly, hrnc], by rw [honly, hrot],
      by rw [honly, hlnd], by rw [honly, hrpw], by rw [honly, hpxm]⟩
    · rw [hskc, hlane]
      simp only [heldAfter, Bool.and_eq_true]
    · rw [hskc, hlane]
      refine if_congr ?_ rfl rfl
      simp only [Bool.and_eq_true, and_assoc]
      exact and_left_comm
    · rw [hskc, hline, if_pos hclose]
      exact ⟨((hcloses l).1 hl).1, fun h => ((hcloses l).1 hl).2 (hheldinv h)⟩
    · rw [hskc, hline]
      split
      · exact ((hcloses l).2 hl).2 (hheldinv hinv)
      · exact frontGranted_refl _
    · rw [hskc, hline]
      split
      · exact hlength l
      · rfl
    · rw [hskc, hlane]
    · rw [hskc, hlane]
    · rw [hskc, hlane]
    · rw [honly]
      exact htka hclose
    · rw [hskc, hline, if_neg (by rw [hclose]; exact Bool.false_ne_true)]

end Sys2Proof.Machine
end

section
/-! Live status: the table of its fields and its burst (R175, R183, R186). -/
namespace Sys2Proof.Machine

/-! ### Reading what a burst wrote -/

section
variable {ws : List Word} {m : Memory} {a : Nat}

/-- A 32-bit field read within a run of written words. -/
theorem readCount_writeWords (h : m.wf = true) (ha : a + 2 * ws.length ≤ 8192) (i : Nat) (c : Count)
    (hlow : ws[i]? = some (c.extractLsb' 0 16)) (hhigh : ws[i + 1]? = some (c.extractLsb' 16 16)) :
    Memory.readCount (Memory.writeWords m a ws) (a + 2 * i) = c := by
  have h1 := Memory.readWord_writeWords h ha _ _ hlow
  have h2 := Memory.readWord_writeWords h ha _ _ hhigh
  unfold Memory.readCount
  rw [h1, show a + 2 * i + 2 = a + 2 * (i + 1) by omega, h2]
  exact BitVec.extractLsb'_append_extractLsb'_eq_extractLsb' (x := c) rfl |>.trans
    (BitVec.extractLsb'_eq_self)

/-- Two byte fields read within a run of written words. -/
theorem readBytes_writeWords (h : m.wf = true) (ha : a + 2 * ws.length ≤ 8192) (i low high : Nat)
    (hi : ws[i]? = some (bytePair low high)) :
    Memory.readByte (Memory.writeWords m a ws) (a + 2 * i) = BitVec.ofNat 8 low ∧
    Memory.readByte (Memory.writeWords m a ws) (a + 2 * i + 1) = BitVec.ofNat 8 high := by
  have hword := Memory.readWord_writeWords h ha _ _ hi
  unfold Memory.readWord at hword
  constructor
  · rw [← bytePair_low low high, ← hword]
    exact BitVec.extractLsb'_append_eq_right.symm
  · rw [← bytePair_high low high, ← hword]
    exact BitVec.extractLsb'_append_eq_left.symm

end

/-! ### Live status (R175, R183, R186) -/

/-- The encodings of the named values (R183 to R185), code by code. -/
theorem encodingsTabled : EncodingsTabled :=
  ⟨rfl, rfl, rfl, fun _ => rfl, fun _ => rfl, rfl, rfl, rfl, rfl, rfl, rfl, rfl⟩

/-- A requested refresh at its turn finds the memory free. -/
theorem freeMemory_of_refresh {s : State} {q : List BurstSource} (hq : s.pxm.requests = .refresh :: q)
    (hb : s.pxm.burst = none) (hw : s.pxm.waiting = []) : freeMemory s = s :=
  freeMemory_self s hb hw (beginNext_noTurn s (by simp [hasTurn, hq]))

theorem lastStackCode_le (line : List Stack) : lastStackCode line ≤ 4 := by
  unfold lastStackCode
  split
  next x _ => cases x.state <;> decide
  next => exact Nat.zero_le 4

/-- A lane's byte taken apart: its state code, its hold flag and the zeros between. -/
theorem laneByte_parts (x : SkcLane) (b : Byte) (h : b = BitVec.ofNat 8 (laneByte x)) :
    (b.extractLsb' 0 3).toNat = lastStackCode x.line ∧ b.getLsbD 7 = x.hold ∧
    b.extractLsb' 3 4 = 0#4 := by
  have hcode := lastStackCode_le x.line
  unfold laneByte at h
  generalize lastStackCode x.line = n at h hcode ⊢
  generalize x.hold = f at h ⊢
  subst h
  interval_cases n <;> cases f <;> decide

/-- The presence byte taken apart. -/
theorem presenceByte_parts (n : Ntp) (b : Byte) (h : b = BitVec.ofNat 8 (presenceByte n)) :
    b.getLsbD 0 = n.horizon.isSome ∧ b.getLsbD 1 = n.guardPoint.isSome ∧
    b.extractLsb' 2 6 = 0#6 := by
  unfold presenceByte at h
  generalize n.horizon.isSome = x at h ⊢
  generalize n.guardPoint.isSome = y at h ⊢
  subst h
  cases x <;> cases y <;> decide

theorem toNat_byte {n : Nat} (b : Byte) (h : b = BitVec.ofNat 8 n) (hn : n < 256) : b.toNat = n := by
  rw [h, BitVec.toNat_ofNat]
  exact Nat.mod_eq_of_lt hn

/-- The lanes' words and bytes, as the burst writes them. -/
theorem laneShown_of_written {s : State} {mem : Memory}
    (hwords : ∀ l, Memory.readWord mem (0x2C + 4 * laneIndex l) = wordOf (frontAllotted (s.skc.get l).line)
      ∧ Memory.readWord mem (0x2E + 4 * laneIndex l) = wordOf (shelfTotal (s.skc.get l).line))
    (hbytes : ∀ l, Memory.readByte mem (0x3C + laneIndex l) = BitVec.ofNat 8 (laneByte (s.skc.get l)))
    (l : Lane) : LaneShown mem s l := by
  obtain ⟨hfront, hshelf⟩ := hwords l
  obtain ⟨hlast, hhold, hzeros⟩ := laneByte_parts _ _ (hbytes l)
  refine ⟨?_, hshelf, ?_, hhold, hzeros⟩
  · rw [hfront]
    unfold frontAllotted
    cases (s.skc.get l).line <;> rfl
  · rw [hlast]
    unfold lastStackCode
    cases (s.skc.get l).line.getLast? <;> rfl

/-- Settles O52: the refresh is one burst of 32 words, each read back as it was written. -/
theorem liveStatusIsWrittenFromTheBlocks : Obligations.LiveStatusIsWrittenFromTheBlocks := by
  refine ⟨encodingsTabled, fun s hreset => ⟨fun hnone => ?request, fun b hb hsource => ?ended⟩,
    fun s hturn => ?noTurn, fun s q hwf hq hb hw => ?burst⟩
  case request =>
    have hidle : inProgress .refresh s = false := by
      rw [Bool.eq_false_iff, Ne, inProgress_iff]
      rintro ⟨b, hb, he⟩
      exact hnone b hb he
    refine ⟨requestBurst .refresh s, ?_, ?_, fun hmem => ?_, rfl⟩
    · simp [exec, execRefreshTimerExpiry, hreset, hidle]
    · exact mem_withRequest _ _
    · simp [requestBurst, withRequest, hmem, setRequests, State.setPxm]
  case ended =>
    have hprogress : inProgress .refresh s = true := (inProgress_iff _ s).2 ⟨b, hb, hsource⟩
    have hidle : inProgress .refresh (settleMemory s) = false := by
      rw [Bool.eq_false_iff, Ne, inProgress_iff]
      exact fun h => nomatch settleMemory_bursts h
    simp [exec, execRefreshTimerExpiry, (settleMemory_memoryFrame s).resetAsserted, hreset, hidle,
      hprogress]
  case noTurn =>
    simp [exec, execLiveStatusRefresh, hasTurn, hturn]
  case burst =>
    have hlength := liveStatusWords_length s
    have hfit : 0 + 2 * (liveStatusWords s).length ≤ 8192 := by omega
    have count := readCount_writeWords hwf hfit
    have word := Memory.readWord_writeWords hwf hfit
    have bytes := readBytes_writeWords hwf hfit
    refine ⟨burstWrite 0 (liveStatusWords s) (beginBurst .refresh s), ?_, ?_⟩
    · simp [exec, execLiveStatusRefresh, freeMemory_of_refresh hq hb hw, hasTurn, hq]
    have hmem : (burstWrite 0 (liveStatusWords s) (beginBurst .refresh s)).pxm.memory =
        Memory.writeWords s.pxm.memory 0 (liveStatusWords s) := by
      simp only [burstWrite, beginBurst, State.setPxm]
    rw [hmem]
    generalize hws : liveStatusWords s = ws at *
    simp only [liveStatusWords, countWords, optionalWords, laneWords, List.cons_append,
      List.nil_append] at hws
    subst hws
    refine ⟨count 0 _ rfl rfl, count 2 _ rfl rfl, fun h => ?_, count 6 _ rfl rfl, count 8 _ rfl rfl,
      count 10 _ rfl rfl, count 12 _ rfl rfl, fun h => ?_, ?_, ?_, ?_, ?_, fun h => ?_, fun h => ?_,
      word 19 (wordOf _) rfl, word 20 (wordOf _) rfl, word 21 (wordOf _) rfl,
      laneShown_of_written (fun l => ?_) (fun l => ?_),
      fun k hk => ?_, ?_⟩
    · exact (congrArg BitVec.toNat (count 4 (BitVec.ofNat 32 s.mkt.stretch) rfl rfl)).trans
        (Nat.mod_eq_of_lt h)
    · exact (congrArg BitVec.toNat (word 14 (wordOf s.trc.speed) rfl)).trans
        (Nat.mod_eq_of_lt (by omega))
    · exact toNat_byte _ (bytes 15 _ _ rfl).1 (by cases s.trc.zone <;> decide)
    · exact toNat_byte _ (bytes 15 _ _ rfl).2 (by cases s.rnc.runState <;> decide)
    · refine toNat_byte _ (bytes 16 _ _ rfl).1 ?_
      obtain _ | f := s.rnc.faultCode
      · decide
      · cases f <;> decide
    · exact toNat_byte _ (bytes 16 _ _ rfl).2 (by cases s.ntp.expectedPage <;> decide)
    · have hle : s.rot.track.countP (fun r => !fullyDecided r) ≤ s.rot.track.length :=
        List.countP_le_length
      refine ⟨toNat_byte _ (bytes 17 _ _ rfl).1 (by omega), ?_⟩
      rw [← List.countP_eq_length_filter]
      exact toNat_byte _ (bytes 17 _ _ rfl).2 (by omega)
    · exact ⟨toNat_byte _ (bytes 18 _ _ rfl).1 (by omega),
        presenceByte_parts _ _ (bytes 18 _ _ rfl).2⟩
    · cases l
      · exact ⟨word 22 _ rfl, word 23 _ rfl⟩
      · exact ⟨word 24 _ rfl, word 25 _ rfl⟩
      · exact ⟨word 26 _ rfl, word 27 _ rfl⟩
      · exact ⟨word 28 _ rfl, word 29 _ rfl⟩
    · cases l
      · exact (bytes 30 _ _ rfl).1
      · exact (bytes 30 _ _ rfl).2
      · exact (bytes 31 _ _ rfl).1
      · exact (bytes 31 _ _ rfl).2
    · exact Memory.readByte_writeWords_ne (by omega)
    · simp only [burstWrite, beginBurst, State.setPxm, hq, List.tail_cons]

end Sys2Proof.Machine
end

section
/-! Reports: the layout of the records, the write of the oldest one (R179, R181, R183, R186). -/
namespace Sys2Proof.Machine

/-! ### The layout of the records (R183) -/

/-- A header word taken apart. -/
theorem headerIs_wordOf (dropped secondary : Bool) {kind upper : Nat} (hk : kind < 8) (hu : upper < 256) :
    HeaderIs (wordOf (kind + 8 * dropped.toNat + (16 * secondary.toNat + 256 * upper))) kind dropped
      secondary upper := by
  have hbit : ∀ i, (wordOf (kind + 8 * dropped.toNat + (16 * secondary.toNat + 256 * upper))).getLsbD i =
      (decide (i < 16) && (kind + 8 * dropped.toNat + (16 * secondary.toNat + 256 * upper)).testBit i) :=
    fun i => BitVec.getLsbD_ofNat _ _ _
  have hd : dropped.toNat = if dropped then 1 else 0 := by cases dropped <;> rfl
  have hs : secondary.toNat = if secondary then 1 else 0 := by cases secondary <;> rfl
  refine ⟨?_, ?_, ?_, ?_, ?_⟩
  · rw [BitVec.extractLsb'_toNat, wordOf, BitVec.toNat_ofNat, Nat.shiftRight_eq_div_pow]
    omega
  · rw [hbit, Nat.testBit_eq_decide_div_mod_eq, hd, hs]
    cases dropped <;> cases secondary <;> simp <;> omega
  · rw [hbit, Nat.testBit_eq_decide_div_mod_eq, hd, hs]
    cases dropped <;> cases secondary <;> simp <;> omega
  · apply BitVec.eq_of_toNat_eq
    rw [BitVec.extractLsb'_toNat, wordOf, BitVec.toNat_ofNat, Nat.shiftRight_eq_div_pow, hd, hs]
    cases dropped <;> cases secondary <;> simp <;> omega
  · rw [BitVec.extractLsb'_toNat, wordOf, BitVec.toNat_ofNat, Nat.shiftRight_eq_div_pow, hd, hs]
    cases dropped <;> cases secondary <;> simp <;> omega

theorem laneIndex_lt (l : Lane) : laneIndex l < 4 := by cases l <;> decide
theorem conveyorCode_lt (c : Conveyor) : conveyorCode c < 2 := by cases c <;> decide
theorem closeKindCode_lt (k : CloseKind) : closeKindCode k < 6 := by cases k <;> decide

/-- Behind its last field a record is 0 (R186). -/
theorem recordWords_zero (r : Record) (dropped : Bool) (i : Nat) (h : (recordFields r).length < i) :
    (recordWords r dropped).getD i 0#16 = 0#16 := by
  unfold recordWords
  dsimp only
  rw [List.getD_eq_getElem?_getD, List.getElem?_append_right (by simpa using h)]
  rw [List.getElem?_replicate]
  split <;> rfl

/-- Every record's words are those of its layout, with 0 behind its last field. -/
theorem recordWords_laidOut (r : Record) (dropped : Bool) :
    RecordLaidOut r dropped fun i => (recordWords r dropped).getD i 0#16 := by
  cases r with
  | stack l x notCleared =>
    refine ⟨fun c k hc hk => ?_, rfl, rfl, rfl, rfl, rfl, rfl, rfl, ⟨rfl, rfl⟩, ⟨rfl, rfl⟩, ⟨rfl, rfl⟩,
      fun p hp => ?_⟩
    · have hl := laneIndex_lt l
      have hcode := conveyorCode_lt c
      have hkind := closeKindCode_lt k
      have hn : notCleared.toNat ≤ 1 := Bool.toNat_le notCleared
      have h := headerIs_wordOf dropped false (kind := 1) (by decide) (show laneIndex l +
        4 * conveyorCode c + 8 * notCleared.toNat + 16 * closeKindCode k < 256 by omega)
      have hword : (recordWords (.stack l x notCleared) dropped).getD 0 0#16 =
          wordOf (1 + 8 * dropped.toNat + (16 * false.toNat + 256 * (laneIndex l +
            4 * conveyorCode c + 8 * notCleared.toNat + 16 * closeKindCode k))) := by
        show wordOf (1 + 8 * dropped.toNat + (256 * laneIndex l + 1024 * stackConveyorCode x.conveyor +
          2048 * notCleared.toNat + 4096 * closeCode x.closeKind)) = _
        rw [hc, hk]
        refine congrArg wordOf ?_
        simp only [stackConveyorCode, closeCode, Bool.toNat_false]
        omega
      rwa [← hword] at h
    · have hword : WordsHold (fun i => (recordWords (.stack l x notCleared) dropped).getD i 0#16) 14
        (x.closePoint.getD 0#32) := ⟨rfl, rfl⟩
      rwa [hp] at hword
  | suspect l id row =>
    have hl := laneIndex_lt l
    have h := headerIs_wordOf dropped false (kind := 2) (by decide) (show laneIndex l < 256 by omega)
    rw [Bool.toNat_false, Nat.mul_zero, Nat.zero_add] at h
    refine ⟨h, rfl, ⟨rfl, rfl⟩, fun i hi => ?_⟩
    exact recordWords_zero _ _ _ (by simp [recordFields, countWords]; omega)
  | fault cause secondary f newest =>
    have h := headerIs_wordOf dropped secondary (kind := 3) (upper := 0) (by decide) (by decide)
    have hcause : causeCode cause < 256 := by
      cases cause with
      | halting x => cases x <;> decide
      | conveyorTimeout c => exact (by decide : 6 < 256)
    refine ⟨h, ?_, ?_, ⟨rfl, rfl⟩, ⟨rfl, rfl⟩, fun i hi => ?_⟩
    · exact (congrArg BitVec.toNat (bytePair_low _ _)).trans (Nat.mod_eq_of_lt hcause)
    · refine (congrArg BitVec.toNat (bytePair_high _ _)).trans ?_
      cases cause with
      | halting x => rfl
      | conveyorTimeout c => exact Nat.mod_eq_of_lt ((conveyorCode_lt c).trans (by decide))
    · exact recordWords_zero _ _ _ (by simp [recordFields, countWords]; omega)
  | jobStart id first =>
    have h := headerIs_wordOf dropped false (kind := 4) (upper := 0) (by decide) (by decide)
    refine ⟨h, rfl, ⟨rfl, rfl⟩, fun i hi => ?_⟩
    exact recordWords_zero _ _ _ (by simp [recordFields, countWords]; omega)
  | jobEnd id first last t =>
    have h := headerIs_wordOf dropped false (kind := 5) (upper := 0) (by decide) (by decide)
    refine ⟨h, rfl, ⟨rfl, rfl⟩, ⟨rfl, rfl⟩, fun i x hx => ?_⟩
    have hword : (tallyWords t ++ List.replicate 0 0#16)[i]? = some (wordOf (t.get x)) := by
      simp [tallyWords, hx]
    rw [Nat.add_comm 6 i]
    show ((tallyWords t ++ List.replicate 0 0#16)[i]?).getD 0#16 = _
    rw [hword]
    rfl

/-! ### The write of the oldest record (R179) -/

/-- The burst of a record write: the record in its slot and the header's count, the record out of the
queue. -/
def recordStored (h : Half) (r : Record) (rest : List Record) (s : State) : State :=
  let slot := slotAddress h s.rpw.fillIndex
  let stored := Memory.writeWords s.pxm.memory slot (recordWords r s.rpw.dropPending)
  { s with
    rpw := s.rpw.written rest (ageStarted s)
    pxm := { s.pxm with
      memory := Memory.writeWord stored (halfBase h + 2) (wordOf (s.rpw.fillIndex + 1))
      requests := s.pxm.requests.tail
      burst := some ⟨.reports, overwritten s.pxm.memory slot (recordWords r s.rpw.dropPending).length ++
        overwritten stored (halfBase h + 2) 1⟩ } }

theorem writeRecord_eq (h : Half) (r : Record) (rest : List Record) (s : State) :
    writeRecord h r rest (beginBurst .reports s) =
      if s.rpw.fillIndex + 1 = 48 then closeHalf h (releaseFor r (recordStored h r rest s))
      else releaseFor r (recordStored h r rest s) := rfl

theorem exec_reportWrite_of_turn {s : State} {h : Half} {r : Record} {rest : List Record}
    (hw : s.rpw.writer = .filling h) (hq : s.rpw.queue = r :: rest)
    (hturn : s.pxm.requests.head? = some .reports) (hidle : MemoryIdle s) :
    exec .reportWrite s = .next (writeRecord h r rest (beginBurst .reports s)) := by
  have hfree : freeMemory s = s :=
    freeMemory_self s hidle.burst hidle.waiting (by simp [beginNext, hidle.halfWork])
  simp [exec, execReportWrite, hfree, hidle.halfWork, hw, hq, hasTurn, hturn]

/-- The blocks that a reservation given back leaves (R130). -/
theorem releaseFor_rest (r : Record) (s : State) : (releaseFor r s).trc = s.trc ∧
    (releaseFor r s).mkt = s.mkt ∧ (releaseFor r s).rot = s.rot ∧ (releaseFor r s).knt = s.knt ∧
    (releaseFor r s).lnd = s.lnd ∧ (releaseFor r s).jbc = s.jbc ∧ (releaseFor r s).rnc = s.rnc := by
  unfold releaseFor
  split <;> simp

/-- With no lane waiting a grant pass grants nothing. -/
theorem grantPass_noneWaits {s : State} (h : NoneWaits s) : grantPass s = s :=
  grantPass_idle fun c => .inr (.inr (h c))

/-- The end of a burst of the Report Writer: its next one is requested when it needs one (R170, R179). -/
def reportsEnded (u : State) : State :=
  { u with pxm := { u.pxm with
      burst := none
      requests := if u.rpw.needsBurst = true then withRequest .reports u.pxm.requests
        else u.pxm.requests } }

/-- With no access waiting, only a half state access can follow the end of a burst of the Report Writer at
once. -/
theorem settleMemory_ended {u : State} {ws : List Overwritten}
    (hb : u.pxm.burst = some ⟨.reports, ws⟩) (hw : u.pxm.waiting = []) :
    settleMemory u = beginNext (reportsEnded u) := by
  have hended : endBurst u = reportsEnded u := by
    unfold endBurst reportsEnded
    rw [hb]
    show askFor .reports u.rpw.needsBurst _ = _
    cases u.rpw.needsBurst <;> rfl
  have hread : readBurst u = false := by simp [readBurst, hb]
  unfold settleMemory afterBurst
  rw [if_neg (by simp [hread]), hended, serveWaiting_none (reportsEnded u) hw]

/-- A burst of the Report Writer that ends with a record left to write requests its next one. -/
theorem settleMemory_reports {u : State} {k : Half} {ws : List Overwritten}
    (hb : u.pxm.burst = some ⟨.reports, ws⟩) (hw : u.pxm.waiting = []) (hh : u.rpw.halfWork = [])
    (hwriter : u.rpw.writer = .filling k) (hq : u.rpw.queue ≠ []) :
    BurstSource.reports ∈ (settleMemory u).pxm.requests := by
  obtain ⟨r, rest, hq⟩ := List.exists_cons_of_ne_nil hq
  have hneeds : u.rpw.needsBurst = true := by simp only [Rpw.needsBurst, hh, hwriter, hq]
  have hidle : beginNext (reportsEnded u) = reportsEnded u := beginNext_none (reportsEnded u) hh
  rw [settleMemory_ended hb hw, hidle, reportsEnded, if_pos hneeds]
  exact mem_withRequest .reports u.pxm.requests

section
variable {s : State} (h : Half) (r : Record) (rest : List Record)

theorem halfBase_le (h : Half) : 4096 ≤ halfBase h ∧ halfBase h + 2048 ≤ 8192 := by
  cases h <;> decide

/-- The slots lie behind the header of their half. -/
theorem slotAddress_bounds (i : Nat) (hi : i < 48) : halfBase h + 32 ≤ slotAddress h i ∧
    slotAddress h i + 32 ≤ 8192 := by
  have := halfBase_le h
  unfold slotAddress
  omega

/-- The words of the record in their slot. -/
theorem recordStored_slot (hwf : s.pxm.memory.wf = true) (hi : s.rpw.fillIndex < 48) (i : Nat)
    (h16 : i < 16) :
    Memory.readWord (recordStored h r rest s).pxm.memory (slotAddress h s.rpw.fillIndex + 2 * i) =
      (recordWords r s.rpw.dropPending).getD i 0#16 := by
  have hbounds := slotAddress_bounds h _ hi
  have hlength := recordWords_length r s.rpw.dropPending
  refine (Memory.readWord_writeWord_ne (by omega)).trans ?_
  refine Memory.readWord_writeWords hwf (by omega) i _ ?_
  rw [List.getD_eq_getElem?_getD, List.getElem?_eq_getElem (by omega)]
  rfl

/-- The header counts the record. -/
theorem recordStored_count (hwf : s.pxm.memory.wf = true) (hi : s.rpw.fillIndex < 48) :
    Memory.readWord (recordStored h r rest s).pxm.memory (halfBase h + 2) =
      wordOf (s.rpw.fillIndex + 1) := by
  have hbounds := slotAddress_bounds h _ hi
  have hlength := recordWords_length r s.rpw.dropPending
  exact Memory.readWord_writeWord_self (Memory.wf_writeWords hwf (by omega)) (by omega)

/-- No other byte is written. -/
theorem recordStored_sameOutside (k : Nat)
    (hslot : k < slotAddress h s.rpw.fillIndex ∨ slotAddress h s.rpw.fillIndex + 32 ≤ k)
    (hheader : k < halfBase h + 2 ∨ halfBase h + 4 ≤ k) :
    Memory.readByte (recordStored h r rest s).pxm.memory k = Memory.readByte s.pxm.memory k := by
  have hlength := recordWords_length r s.rpw.dropPending
  exact (Memory.readByte_writeWord_ne (by omega) (by omega)).trans
    (Memory.readByte_writeWords_ne (by omega))

end

/-- Settles O50: the record's burst, and the reservation given back with its grant pass. -/
theorem reportWriteStoresTheOldestRecord : Obligations.ReportWriteStoresTheOldestRecord := by
  refine ⟨recordWords_laidOut, ?_⟩
  rintro s h r rest slot hwf hwriter hqueue hturn hidle hi rfl
  have hexec := exec_reportWrite_of_turn hwriter hqueue hturn hidle
  rw [writeRecord_eq, if_neg (by omega)] at hexec
  obtain ⟨hpxm, hntp, hrpw⟩ := releaseFor_keeps r (recordStored h r rest s)
  obtain ⟨htrc, hmkt, hrot, hknt, hlnd, hjbc, hrnc⟩ := releaseFor_rest r (recordStored h r rest s)
  have htimer : (recordStored h r rest s).rpw.ageTimer =
    if s.rpw.fillIndex = 0 then ageStarted s else s.rpw.ageTimer := rfl
  refine ⟨_, hexec, ?_⟩
  rw [hpxm, hntp, hrpw, htrc, hmkt, hrot, hknt, hlnd, hjbc, hrnc]
  refine ⟨recordStored_slot h r rest hwf (by omega), ?_, recordStored_sameOutside h r rest, rfl,
    fun h0 => ?_, fun m h0 hm => ?_, rfl, fun hrest => ?_, fun hstack => ?_, fun hstack hnone => ?_,
    fun m hstack hm => ?_, rfl, rfl, rfl, rfl, rfl, rfl, rfl, rfl, rfl⟩
  · rw [recordStored_count h r rest hwf (by omega)]
    exact Nat.mod_eq_of_lt (by omega)
  · rw [htimer, if_neg h0]
  · rw [htimer, if_pos h0, ageStarted, hm]
    rfl
  · exact settleMemory_reports (k := h) (by rw [hpxm]; rfl) (by rw [hpxm]; exact hidle.waiting)
      (by rw [hrpw]; exact hidle.halfWork) (by rw [hrpw]; exact hwriter) (by rw [hrpw]; exact hrest)
  · rw [releaseFor, if_neg (by simp [hstack])]
    exact ⟨rfl, rfl⟩
  · rw [releaseFor, if_pos hstack, releaseReservation, grantPass_noneWaits (by exact hnone)]
    exact ⟨rfl, rfl⟩
  · rw [releaseFor, if_pos hstack]
    have hpass := grantPass_turns (s := (recordStored h r rest s).setTka { s.tka with
      reservations := s.tka.reservations - 1 }) (m := m) hm
    exact grantPass_congr hpass ⟨rfl, rfl⟩ ⟨rfl, rfl⟩

end Sys2Proof.Machine
end

section
/-! Halves closed by age and by count (R178 to R180). -/
namespace Sys2Proof.Machine

/-! ### The closing of a half -/

/-- The half's close begun: ATTENTION.REPORTS set, and its half state accesses due, the first of them
requested unless a burst of the Report Writer still runs. -/
theorem closeHalf_eq (h : Half) (s : State) : closeHalf h s = { s with
    rpw := { s.rpw with ageTimer := none, halfWork := [.writeClosed h, .look (otherHalf h)] }
    pxm := { s.pxm with
      requests := if inProgress .reports s then s.pxm.requests else withRequest .reports s.pxm.requests
      attention := { s.pxm.attention with reports := true } } } := by
  unfold closeHalf updateReportRequest askFor
  have hneeds : (s.setRpw { s.rpw with
    ageTimer := none, halfWork := [.writeClosed h, .look (otherHalf h)] }).rpw.needsBurst = true := rfl
  have hprogress : inProgress .reports (s.setRpw { s.rpw with
    ageTimer := none, halfWork := [.writeClosed h, .look (otherHalf h)] }) = inProgress .reports s := rfl
  rw [hneeds, hprogress]
  cases inProgress .reports s <;> rfl

/-- A half's state word written, in a burst that has the memory. -/
def stateWritten (h : Half) (w : Word) (rest : List HalfAccess) (s : State) : State :=
  { s with
    rpw := { s.rpw with halfWork := rest }
    pxm := { s.pxm with
      memory := Memory.writeWord s.pxm.memory (halfBase h) w
      requests := s.pxm.requests.tail
      burst := some ⟨.reports, overwritten s.pxm.memory (halfBase h) 1⟩ } }

/-- A half's state word read, in a burst of its own, and the Report Writer after the look. -/
def looked (x : Rpw) (s : State) : State :=
  { s with
    rpw := x
    pxm := { s.pxm with requests := s.pxm.requests.tail, burst := some ⟨.reports, []⟩ } }

/-- The Report Writer that has taken a half it found EMPTY: FILLING is to be written. -/
def takenBy (h : Half) (x : Rpw) : Rpw :=
  { x with writer := .filling h, fillIndex := 0, ageTimer := none, halfWork := [.writeFilling h] }

theorem halfAccess_closed (h : Half) (rest : List HalfAccess) (s : State) :
    halfAccess (.writeClosed h) rest s = stateWritten h halfClosed rest s := rfl

theorem halfAccess_filling (h : Half) (rest : List HalfAccess) (s : State) :
    halfAccess (.writeFilling h) rest s = stateWritten h halfFilling rest s := rfl

theorem halfAccess_look_taken {h : Half} {s : State} (rest : List HalfAccess)
    (he : Memory.readWord s.pxm.memory (halfBase h) = 0#16) :
    halfAccess (.look h) rest s = looked (takenBy h s.rpw) s := if_pos he

theorem halfAccess_look_awaited {h : Half} {s : State} (rest : List HalfAccess)
    (he : Memory.readWord s.pxm.memory (halfBase h) ≠ 0#16) :
    halfAccess (.look h) rest s = looked { s.rpw with writer := .waiting h, halfWork := rest } s :=
  if_neg he

theorem beginNext_turn {s : State} {x : HalfAccess} {rest : List HalfAccess}
    (hh : s.rpw.halfWork = x :: rest) (hb : s.pxm.burst = none)
    (hturn : s.pxm.requests.head? = some .reports) : beginNext s = halfAccess x rest s := by
  simp [beginNext, hh, hb, hasTurn, hturn]

/-! ### The accesses that follow the close -/

/-- The Report Writer's burst ends with a half state access due and nothing else requested: the access
begins at once. -/
theorem settleMemory_access {u : State} {ws : List Overwritten} {x : HalfAccess}
    {rest : List HalfAccess} (hb : u.pxm.burst = some ⟨.reports, ws⟩) (hw : u.pxm.waiting = [])
    (hq : u.pxm.requests = []) (hh : u.rpw.halfWork = x :: rest) :
    settleMemory u = halfAccess x rest (reportsEnded u) := by
  have hneeds : u.rpw.needsBurst = true := by simp only [Rpw.needsBurst, hh]
  rw [settleMemory_ended hb hw]
  refine beginNext_turn (s := reportsEnded u) hh rfl ?_
  simp [reportsEnded, hneeds, hq, withRequest]

/-- The Report Writer's burst ends with no half state access due. -/
theorem settleMemory_last {u : State} {ws : List Overwritten}
    (hb : u.pxm.burst = some ⟨.reports, ws⟩) (hw : u.pxm.waiting = []) (hh : u.rpw.halfWork = []) :
    settleMemory u = reportsEnded u := by
  rw [settleMemory_ended hb hw]
  exact beginNext_none (reportsEnded u) hh

theorem settleBursts_burst {n : Nat} {u : State} {b : Burst} (hb : u.pxm.burst = some b) :
    settleBursts (n + 1) u = settleBursts n (settleMemory u) := if_pos (by simp [hb])

theorem settleBursts_idle {n : Nat} {u : State} (hb : u.pxm.burst = none) : settleBursts n u = u := by
  cases n with
  | zero => rfl
  | succ n => exact if_neg (by simp [hb])

section
variable {u : State} {ws : List Overwritten} {k : Half}

/-- A burst that ends with a half state access due and nothing else requested leaves one request. -/
theorem reportsEnded_requests {x : HalfAccess} {rest : List HalfAccess} (hq : u.pxm.requests = [])
    (hh : u.rpw.halfWork = x :: rest) : (reportsEnded u).pxm.requests = [.reports] := by
  have hneeds : u.rpw.needsBurst = true := by simp only [Rpw.needsBurst, hh]
  simp [reportsEnded, hneeds, hq, withRequest]

variable (n : Nat) (hb : u.pxm.burst = some ⟨.reports, ws⟩) (hw : u.pxm.waiting = [])
  (hq : u.pxm.requests = []) (hh : u.rpw.halfWork = [.look k])
include hb hw hq hh

/-- The half that the look finds EMPTY is FILLING once its access has ended. -/
theorem settleBursts_taken (he : Memory.readWord u.pxm.memory (halfBase k) = 0#16) :
    settleBursts (n + 3) u = reportsEnded (stateWritten k halfFilling []
      (reportsEnded (looked (takenBy k u.rpw) (reportsEnded u)))) := by
  have hlook : settleMemory u = looked (takenBy k u.rpw) (reportsEnded u) :=
    (settleMemory_access hb hw hq hh).trans (halfAccess_look_taken (s := reportsEnded u) [] he)
  have hnone : (looked (takenBy k u.rpw) (reportsEnded u)).pxm.requests = [] :=
    congrArg List.tail (reportsEnded_requests hq hh)
  have hwritten : settleMemory (looked (takenBy k u.rpw) (reportsEnded u)) = _ :=
    settleMemory_access rfl hw hnone rfl
  rw [settleBursts_burst hb, hlook, settleBursts_burst rfl, hwritten, halfAccess_filling,
    settleBursts_burst rfl, settleMemory_last rfl (by exact hw) rfl]
  exact settleBursts_idle rfl

/-- The half that the look finds taken is awaited. -/
theorem settleBursts_awaited (he : Memory.readWord u.pxm.memory (halfBase k) ≠ 0#16) :
    settleBursts (n + 3) u =
      reportsEnded (looked { u.rpw with writer := .waiting k, halfWork := [] } (reportsEnded u)) := by
  have hlook : settleMemory u = looked { u.rpw with writer := .waiting k, halfWork := [] } (reportsEnded u) :=
    (settleMemory_access hb hw hq hh).trans (halfAccess_look_awaited (s := reportsEnded u) [] he)
  rw [settleBursts_burst hb, hlook, settleBursts_burst rfl, settleMemory_last rfl (by exact hw) rfl]
  exact settleBursts_idle rfl

end

/-- The half states' words lie apart. -/
theorem halfBase_apart (h : Half) : halfBase h + 2 ≤ halfBase (otherHalf h) ∨
    halfBase (otherHalf h) + 2 ≤ halfBase h := by
  cases h <;> decide

/-- Once CLOSED is written and its burst about to end, with nothing else requested, the look and what it
brings about complete the close. -/
theorem halfClosed_of_look {s u : State} {ws : List Overwritten} {h : Half} (n : Nat)
    (hb : u.pxm.burst = some ⟨.reports, ws⟩) (hw : u.pxm.waiting = []) (hq : u.pxm.requests = [])
    (hh : u.rpw.halfWork = [.look (otherHalf h)]) (hwf : u.pxm.memory.wf = true)
    (hattention : u.pxm.attention = { s.pxm.attention with reports := true })
    (htimer : u.rpw.ageTimer = none) (hclosed : Memory.readWord u.pxm.memory (halfBase h) = 2#16)
    (hother : Memory.readWord u.pxm.memory (halfBase (otherHalf h)) =
      Memory.readWord s.pxm.memory (halfBase (otherHalf h))) :
    HalfClosed s (settleBursts (n + 3) u) h ∧
    SameOutside (halfBase (otherHalf h)) 2 u.pxm.memory (settleBursts (n + 3) u).pxm.memory := by
  obtain ⟨-, hbound⟩ := halfBase_le (otherHalf h)
  have hnone : (reportsEnded u).pxm.requests.tail = [] :=
    congrArg List.tail (reportsEnded_requests hq hh)
  by_cases he : Memory.readWord u.pxm.memory (halfBase (otherHalf h)) = 0#16
  · rw [settleBursts_taken n hb hw hq hh he]
    refine ⟨⟨?_, hattention, rfl, ⟨rfl, rfl⟩, fun _ => ⟨rfl, rfl, ?_, fun hqueue => ?_⟩,
      fun hne => absurd (hother ▸ he) hne⟩, fun k hk => ?_⟩
    · exact (Memory.readWord_writeWord_ne (halfBase_apart h)).trans hclosed
    · exact Memory.readWord_writeWord_self hwf (by omega)
    · obtain ⟨r, rest, hqueue⟩ := List.exists_cons_of_ne_nil hqueue
      generalize hv : stateWritten (otherHalf h) halfFilling []
        (reportsEnded (looked (takenBy (otherHalf h) u.rpw) (reportsEnded u))) = v at hqueue ⊢
      have hneeds : v.rpw.needsBurst = true := by
        have hqueue : v.rpw.queue = r :: rest := hqueue
        have hwriter : v.rpw.writer = .filling (otherHalf h) := by rw [← hv]; rfl
        have hwork : v.rpw.halfWork = [] := by rw [← hv]; rfl
        simp only [Rpw.needsBurst, hqueue, hwriter, hwork]
      rw [reportsEnded, if_pos hneeds]
      exact mem_withRequest .reports v.pxm.requests
    · exact Memory.readByte_writeWord_ne (by omega) (by omega)
  · rw [settleBursts_awaited n hb hw hq hh he]
    refine ⟨⟨hclosed, hattention, htimer, ⟨rfl, rfl⟩, fun h0 => absurd (hother.trans h0) he,
      fun _ => ⟨rfl, ?_, hother⟩⟩, fun k hk => rfl⟩
    show BurstSource.reports ∉ (reportsEnded u).pxm.requests.tail
    rw [hnone]
    exact List.not_mem_nil

/-! ### The expiry of the age timer -/

/-- The requests of the Report Writer's close, made with no burst running. -/
theorem closeHalf_requests {h : Half} {s : State} (hb : s.pxm.burst = none) :
    (closeHalf h s).pxm.requests = withRequest .reports s.pxm.requests := by
  have hidle : inProgress .reports s = false := by simp [inProgress, hb]
  rw [closeHalf_eq, hidle]
  rfl

/-- With no burst running and no other request before it, CLOSED is written at once. -/
theorem beginNext_closeHalf {h : Half} {s : State} (hb : s.pxm.burst = none)
    (hfirst : s.pxm.requests = [] ∨ s.pxm.requests.head? = some .reports) :
    beginNext (closeHalf h s) = stateWritten h halfClosed [.look (otherHalf h)] (closeHalf h s) ∧
    (closeHalf h s).pxm.requests.tail = s.pxm.requests.tail := by
  have hrequests := closeHalf_requests (h := h) hb
  have hhead : (closeHalf h s).pxm.requests.head? = some .reports := by
    rw [hrequests, withRequest_head]
    exact hfirst.symm.imp_right fun h => ⟨h, rfl⟩
  have hwork : (closeHalf h s).rpw.halfWork = [.writeClosed h, .look (otherHalf h)] := by
    rw [closeHalf_eq]
  have hburst : (closeHalf h s).pxm.burst = none := by
    rw [closeHalf_eq]
    exact hb
  refine ⟨(beginNext_turn hwork hburst hhead).trans (halfAccess_closed _ _ _), ?_⟩
  rw [hrequests]
  obtain h0 | h0 := hfirst
  · rw [h0]
    rfl
  · rw [withRequest, if_pos (List.mem_of_head? h0)]

/-- With a burst running or another request first, the close waits for its turn. -/
theorem beginNext_closeHalf_waits {h : Half} {s : State}
    (hheld : s.pxm.burst ≠ none ∨ ∃ b q, s.pxm.requests = b :: q ∧ b ≠ .reports) :
    beginNext (closeHalf h s) = closeHalf h s := by
  obtain hb | ⟨b, q, hq, hne⟩ := hheld
  · obtain ⟨b, hb⟩ := Option.ne_none_iff_exists'.1 hb
    exact beginNext_noTurn _ (by simp [closeHalf_eq, hb])
  · refine beginNext_noTurn _ (Bool.and_eq_false_iff.2 (.inr (beq_eq_false_iff_ne.2 fun hhead => ?_)))
    rw [closeHalf_eq] at hhead
    have hfirst : (if inProgress .reports s = true then s.pxm.requests
      else withRequest .reports s.pxm.requests).head? = some .reports := hhead
    rw [hq] at hfirst
    split at hfirst
    · exact hne (Option.some.inj hfirst)
    · obtain h0 | ⟨h0, -⟩ := (withRequest_head _ _ _).1 hfirst
      · exact hne (Option.some.inj h0)
      · cases h0

theorem exec_ageTimerExpiry {s : State} {h : Half} {n : Nat} (hw : s.rpw.writer = .filling h)
    (ht : s.rpw.ageTimer = some n) :
    exec .ageTimerExpiry s = .next (beginNext (closeHalf h s)) := by
  simp [exec, execAgeTimerExpiry, hw, ht]

/-- The closing half's accesses, run to their end from the CLOSED that was written at once. -/
theorem halfClosed_of_expiry {s : State} {h : Half} (hwf : s.pxm.memory.wf = true)
    (hidle : MemoryIdle s) (hq : s.pxm.requests = [] ∨ s.pxm.requests = [.reports]) :
    HalfClosed s (freeMemory (beginNext (closeHalf h s))) h ∧
    ∀ k, k ≠ halfBase .a → k ≠ halfBase .a + 1 → k ≠ halfBase .b → k ≠ halfBase .b + 1 →
      Memory.readByte (freeMemory (beginNext (closeHalf h s))).pxm.memory k =
        Memory.readByte s.pxm.memory k := by
  obtain ⟨hbegun, htail⟩ := beginNext_closeHalf (h := h) hidle.burst
    (hq.imp_right fun e => by rw [e]; rfl)
  have hnone : (closeHalf h s).pxm.requests.tail = [] := by
    rw [htail]
    obtain e | e := hq <;> rw [e] <;> rfl
  have hparts := closeHalf_eq h s
  have hmemory : (closeHalf h s).pxm.memory = s.pxm.memory := by rw [hparts]
  have hwaiting : (closeHalf h s).pxm.waiting = [] := by rw [hparts]; exact hidle.waiting
  obtain ⟨-, hbound⟩ := halfBase_le h
  rw [hbegun]
  generalize hu : stateWritten h halfClosed [.look (otherHalf h)] (closeHalf h s) = u
  have hburst : u.pxm.burst = some ⟨.reports, overwritten (closeHalf h s).pxm.memory (halfBase h) 1⟩ := by
    rw [← hu]
    rfl
  have hwritten : u.pxm.memory = Memory.writeWord s.pxm.memory (halfBase h) halfClosed := by
    rw [← hu, ← hmemory]
    rfl
  have hend : freeMemory u = settleBursts (1 + 3) u := (settleBursts_burst hburst).symm
  obtain ⟨hclosed, hsame⟩ := halfClosed_of_look (s := s) (h := h) 1 hburst
    (by rw [← hu]; exact hwaiting) (by rw [← hu]; exact hnone) (by rw [← hu]; rfl)
    (by rw [hwritten]; exact Memory.wf_writeWord hwf (by omega)) (by rw [← hu, hparts]; rfl)
    (by rw [← hu, hparts]; rfl)
    (by rw [hwritten]; exact Memory.readWord_writeWord_self hwf (by omega))
    (by rw [hwritten]; exact Memory.readWord_writeWord_ne (halfBase_apart h).symm)
  rw [hend]
  refine ⟨hclosed, fun k ha ha' hb hb' => ?_⟩
  have hk : ∀ x : Half, k ≠ halfBase x ∧ k ≠ halfBase x + 1 := fun x => by
    cases x
    · exact ⟨ha, ha'⟩
    · exact ⟨hb, hb'⟩
  obtain ⟨h0, h1⟩ := hk h
  obtain ⟨o0, o1⟩ := hk (otherHalf h)
  rw [hsame k (by omega), hwritten, Memory.readByte_writeWord_ne h0 h1]

/-! ### The write of the 48th record -/

/-- The closing half's accesses, run to their end from the burst of the 48th record. -/
theorem halfClosed_of_full {s v : State} {ws : List Overwritten} {h : Half}
    (hb : v.pxm.burst = some ⟨.reports, ws⟩) (hw : v.pxm.waiting = []) (hq : v.pxm.requests = [])
    (hwf : v.pxm.memory.wf = true) (hattention : v.pxm.attention = s.pxm.attention)
    (hother : Memory.readWord v.pxm.memory (halfBase (otherHalf h)) =
      Memory.readWord s.pxm.memory (halfBase (otherHalf h))) :
    HalfClosed s (freeMemory (closeHalf h v)) h := by
  have hprogress : inProgress .reports v = true := (inProgress_iff _ v).2 ⟨_, hb, rfl⟩
  have hparts := closeHalf_eq h v
  rw [hprogress] at hparts
  obtain ⟨-, hbound⟩ := halfBase_le h
  generalize closeHalf h v = t at hparts
  have hwork : t.rpw.halfWork = [.writeClosed h, .look (otherHalf h)] := by rw [hparts]
  have hnone : t.pxm.requests = [] := by rw [hparts]; exact hq
  have hwaiting : t.pxm.waiting = [] := by rw [hparts]; exact hw
  have hmemory : t.pxm.memory = v.pxm.memory := by rw [hparts]
  have hsettled : settleMemory t = stateWritten h halfClosed [.look (otherHalf h)] (reportsEnded t) :=
    settleMemory_access (by rw [hparts]; exact hb) hwaiting hnone hwork
  have hrest : (reportsEnded t).pxm.requests.tail = [] :=
    congrArg List.tail (reportsEnded_requests hnone hwork)
  have hwritten : (settleMemory t).pxm.memory = Memory.writeWord v.pxm.memory (halfBase h) halfClosed := by
    rw [hsettled, ← hmemory]
    rfl
  exact (halfClosed_of_look 0 (by rw [hsettled]; rfl) (by rw [hsettled]; exact hwaiting)
    (by rw [hsettled]; exact hrest) (by rw [hsettled]; rfl)
    (by rw [hwritten]; exact Memory.wf_writeWord hwf (by omega))
    (by rw [hsettled, ← hattention]
        show t.pxm.attention = _
        rw [hparts])
    (by rw [hsettled]
        show t.rpw.ageTimer = _
        rw [hparts])
    (by rw [hwritten]; exact Memory.readWord_writeWord_self hwf (by omega))
    (by rw [hwritten, ← hother]; exact Memory.readWord_writeWord_ne (halfBase_apart h).symm)).1

/-- The burst of a record write leaves the other half's state word. -/
theorem recordStored_other {h : Half} {s : State} (r : Record) (rest : List Record)
    (hi : s.rpw.fillIndex < 48) :
    Memory.readWord (recordStored h r rest s).pxm.memory (halfBase (otherHalf h)) =
      Memory.readWord s.pxm.memory (halfBase (otherHalf h)) := by
  have hbyte : ∀ k, k = halfBase (otherHalf h) ∨ k = halfBase (otherHalf h) + 1 →
      Memory.readByte (recordStored h r rest s).pxm.memory k = Memory.readByte s.pxm.memory k := by
    intro k hk
    have hapart : halfBase h + 2048 ≤ halfBase (otherHalf h) ∨
      halfBase (otherHalf h) + 2048 ≤ halfBase h := by cases h <;> decide
    refine recordStored_sameOutside h r rest k ?_ ?_
    · unfold slotAddress
      omega
    · omega
  unfold Memory.readWord
  rw [hbyte _ (.inl rfl), hbyte _ (.inr rfl)]

theorem recordStored_wf {h : Half} {s : State} (r : Record) (rest : List Record)
    (hwf : s.pxm.memory.wf = true) (hi : s.rpw.fillIndex < 48) :
    (recordStored h r rest s).pxm.memory.wf = true := by
  have hbounds := slotAddress_bounds h _ hi
  have hlength := recordWords_length r s.rpw.dropPending
  exact Memory.wf_writeWord (Memory.wf_writeWords hwf (by omega)) (by omega)

/-- A burst of the Report Writer that needs another one requests it at its end, when it is not requested
already (R170). -/
theorem mem_requestsAtEnd {t : State} (h : t.rpw.needsBurst = true) :
    BurstSource.reports ∈ requestsAtEnd ⟨.reports, []⟩ t := by
  unfold requestsAtEnd
  by_cases hmem : BurstSource.reports ∈ t.pxm.requests
  · rw [if_neg fun hc => hc.1 hmem]
    exact hmem
  · rw [if_pos ⟨hmem, .inr ⟨rfl, h⟩⟩]
    exact List.mem_append_right _ (List.mem_singleton_self _)

/-! ### The half state accesses -/

/-- A half state access at its turn. -/
theorem halfAccess_accessed {s : State} {x : HalfAccess} {rest : List HalfAccess}
    (hwf : s.pxm.memory.wf = true) : HalfAccessed x rest s (halfAccess x rest s) := by
  have hself : ∀ (h : Half) (w : Word),
      Memory.readWord (Memory.writeWord s.pxm.memory (halfBase h) w) (halfBase h) = w := fun h w => by
    obtain ⟨-, hbound⟩ := halfBase_le h
    exact Memory.readWord_writeWord_self hwf (by omega)
  have houtside : ∀ (h : Half) (w : Word),
      SameOutside (halfBase h) 2 s.pxm.memory (Memory.writeWord s.pxm.memory (halfBase h) w) :=
    fun h w k hk => Memory.readByte_writeWord_ne (by omega) (by omega)
  cases x with
  | writeClosed h =>
    refine ⟨fun h' e => ?_, nofun, nofun, rfl, _, rfl, rfl⟩
    cases e
    exact ⟨hself h _, houtside h _, rfl⟩
  | writeFilling h =>
    refine ⟨nofun, fun h' e => ?_, nofun, rfl, _, rfl, rfl⟩
    cases e
    exact ⟨hself h _, houtside h _, rfl⟩
  | look h =>
    by_cases he : Memory.readWord s.pxm.memory (halfBase h) = 0#16
    · rw [halfAccess_look_taken rest he]
      refine ⟨nofun, nofun, fun h' e => ?_, rfl, _, rfl, rfl⟩
      cases e
      exact ⟨rfl, (if_pos he).symm⟩
    · rw [halfAccess_look_awaited rest he]
      refine ⟨nofun, nofun, fun h' e => ?_, rfl, _, rfl, rfl⟩
      cases e
      exact ⟨rfl, (if_neg he).symm⟩

/-- Settles O51: the close at either event, and each half state access at its turn. -/
theorem halvesCloseByAgeAndByCount : Obligations.HalvesCloseByAgeAndByCount := by
  refine ⟨fun s h n hwf hwriter htimer => ⟨_, exec_ageTimerExpiry hwriter htimer, ?age⟩,
    fun s h r rest hwf hwriter hqueue hturn hidle hi => ?count,
    fun s x rest hwf hb hw hwork => ⟨fun hturn => ?turn, fun hturn => ?noTurn⟩,
    fun s hstopped => ?stopped⟩
  case age =>
    by_cases hfirst : s.pxm.burst = none ∧ (s.pxm.requests = [] ∨ s.pxm.requests.head? = some .reports)
    · obtain ⟨hb, hfirst⟩ := hfirst
      have hclosed := @halfClosed_of_expiry s h hwf
      obtain ⟨hbegun, htail⟩ := beginNext_closeHalf (h := h) hb hfirst
      have hparts := closeHalf_eq h s
      have hmemory : (closeHalf h s).pxm.memory = s.pxm.memory := by rw [hparts]
      have haccess := (halfAccess_accessed (s := closeHalf h s) (x := .writeClosed h)
        (rest := [.look (otherHalf h)]) (by rw [hmemory]; exact hwf)).closed h rfl
      rw [halfAccess_closed, hmemory] at haccess
      obtain ⟨hword, hsame, -⟩ := haccess
      rw [hbegun] at hclosed ⊢
      refine ⟨?_, ?_, ?_, ?_, ?_, fun _ _ => ⟨rfl, hword, hsame, htail⟩, fun hheld => ?_, hclosed, ?_⟩
      · exact (congrArg (fun u => u.pxm.attention) hparts)
      · exact (congrArg (fun u => u.rpw.ageTimer) hparts)
      · exact (congrArg (fun u => u.rpw.queue) hparts)
      · exact (congrArg (fun u => u.rpw.writer) hparts).trans hwriter
      · exact (congrArg (fun u => u.rpw.fillIndex) hparts)
      · obtain h0 | ⟨b, q, hq, hne⟩ := hheld
        · exact absurd hb h0
        · rw [hq] at hfirst
          obtain e | e := hfirst
          · cases e
          · exact absurd (Option.some.inj e) hne
      · unfold stateWritten
        rw [hparts]
    · have hheld : s.pxm.burst ≠ none ∨ ∃ b q, s.pxm.requests = b :: q ∧ b ≠ .reports := by
        rw [or_iff_not_imp_left]
        intro hb
        have hb := not_not.1 hb
        match hq : s.pxm.requests with
        | [] => exact absurd ⟨hb, .inl hq⟩ hfirst
        | b :: q =>
          refine ⟨b, q, rfl, fun e => hfirst ⟨hb, .inr ?_⟩⟩
          rw [hq, e]
          rfl
      have hwaits := beginNext_closeHalf_waits (h := h) hheld
      rw [hwaits, closeHalf_eq]
      refine ⟨rfl, rfl, rfl, hwriter, rfl, fun hb hq => absurd ⟨hb, hq⟩ hfirst, fun _ => ⟨rfl, rfl,
        fun hnone => ?_⟩, fun hidle hq => ?_, rfl⟩
      · have hidle : inProgress .reports s = false := by
          rw [Bool.eq_false_iff, Ne, inProgress_iff]
          rintro ⟨b, hb, he⟩
          exact hnone b hb he
        rw [hidle]
        exact mem_withRequest _ _
      · exact absurd ⟨hidle.burst, hq.imp_right fun e => by rw [e]; rfl⟩ hfirst
  case count =>
    have hexec := exec_reportWrite_of_turn hwriter hqueue hturn hidle
    rw [writeRecord_eq, if_pos (by omega)] at hexec
    obtain ⟨hpxm, -, hrpw⟩ := releaseFor_keeps r (recordStored h r rest s)
    generalize releaseFor r (recordStored h r rest s) = v at hexec hpxm hrpw
    have hprogress : inProgress .reports v = true :=
      (inProgress_iff _ v).2 ⟨_, by rw [hpxm]; rfl, rfl⟩
    have hparts := closeHalf_eq h v
    rw [hprogress, hpxm, hrpw] at hparts
    refine ⟨_, hexec, ?_⟩
    have hother := recordStored_other (h := h) r rest (s := s) (by omega)
    have hvwf := recordStored_wf (h := h) r rest hwf (by omega)
    have hcount := recordStored_count h r rest hwf (by omega)
    rw [hi] at hcount
    refine ⟨?_, ?_, ?_, ?_, ?_, ?_, ?_, ?_, ?_, ?_, fun hq => ?_⟩
    case refine_11 =>
      refine halfClosed_of_full (v := v) (by rw [hpxm]; rfl) (by rw [hpxm]; exact hidle.waiting)
        (by rw [hpxm]; exact congrArg List.tail hq) (by rw [hpxm]; exact hvwf) (by rw [hpxm]; rfl)
        (by rw [hpxm]; exact hother)
    all_goals rw [hparts]
    · rfl
    · exact congrArg (· + 1) hi
    · rfl
    · exact hcount
    · rfl
    · exact hwriter
    · rfl
    · exact mem_requestsAtEnd rfl
  case turn =>
    have hserved : afterBurst s = beginNext s := congrArg beginNext (serveWaiting_none s hw)
    rw [hserved, beginNext_turn hwork hb hturn]
    exact halfAccess_accessed hwf
  case noTurn =>
    have hidle : beginNext s = s := beginNext_noTurn s (by simp [hasTurn, hturn])
    refine ⟨(congrArg beginNext (serveWaiting_none s hw)).trans hidle, ?_⟩
    simp [exec, execReportWrite, freeMemory_self s hb hw hidle, hwork]
  case stopped =>
    obtain ht | ⟨h, hw⟩ := hstopped
    · cases hw : s.rpw.writer <;> simp [exec, execAgeTimerExpiry, hw, ht]
    · simp [exec, execAgeTimerExpiry, hw]

end Sys2Proof.Machine
end

section
/-! What a span, a ROW note or a splice does to the lane entries it hits (R46, R87, R94). -/
namespace Sys2Proof.Machine

/-! ### One visit -/

theorem row_unique {track : List Row} (hn : (numbersOf track).Nodup) {q r : Row} (hq : q ∈ track)
    (hr : r ∈ track) (h : q.number = r.number) : q = r :=
  List.inj_on_of_nodup_map hn hq hr h

theorem findRow_of_mem {s : State} {r : Row} (hn : (numbersOf s.rot.track).Nodup)
    (hr : r ∈ s.rot.track) : findRow r.number s = some r := by
  unfold findRow
  obtain ⟨q, hq⟩ : ∃ q, s.rot.track.find? (fun q => q.number == r.number) = some q :=
    Option.isSome_iff_exists.1 (List.find?_isSome.2 ⟨r, hr, beq_self_eq_true _⟩)
  have hnumber : q.number = r.number := by simpa using List.find?_some hq
  rw [hq, row_unique hn (List.mem_of_find?_eq_some hq) hr hnumber]

/-- A lane entry with a reason added while it is OPEN (R46). -/
def withReason (x : Reason) : Option LaneEntry → Option LaneEntry
  | some (.undecided z) => some (.undecided (addReason z x))
  | e => e

/-- The lane entry is DECIDED. -/
def entryDecided (l : Lane) (r : Row) : Bool := (r.entries.get l).any fun e => !e.isOpen

/-- What a visit names: the row's number and the lane. -/
def visitKey (v : Row × Lane) : RowNum × Lane := (v.1.number, v.2)

/-- A row after the visits of a list. -/
def rowVisited (x : Reason) (p : List (Row × Lane)) (r : Row) : Row :=
  { r with entries := Lanes.ofFn fun l =>
      if (r.number, l) ∈ p.map visitKey then withReason x (r.entries.get l) else r.entries.get l }

/-- The suspect mark that a visit brings about, for a GOOD label (R94). -/
def markVisited (s : State) (v : Row × Lane) : State :=
  match v.1.entries.get v.2 with
  | some (.good id) => suspectMark v.2 id v.1.number s
  | _ => s

theorem rowVisited_of_fixed {x : Reason} {p : List (Row × Lane)} {r : Row}
    (h : ∀ l, (r.number, l) ∈ p.map visitKey → withReason x (r.entries.get l) = r.entries.get l) :
    rowVisited x p r = r := by
  have hentries : (rowVisited x p r).entries = r.entries := Lanes.ext_get fun l => by
    simp only [rowVisited, Lanes.get_ofFn]
    split
    next hl => exact h l hl
    next => rfl
  show { r with entries := (rowVisited x p r).entries } = r
  rw [hentries]

theorem rowVisited_nil (x : Reason) (r : Row) : rowVisited x [] r = r :=
  rowVisited_of_fixed fun _ h => absurd h List.not_mem_nil

theorem numbersOf_visited (x : Reason) (p : List (Row × Lane)) (track : List Row) :
    numbersOf (track.map (rowVisited x p)) = numbersOf track :=
  numbersOf_map (f := rowVisited x p) (fun _ => rfl) track

theorem markVisited_rot (s : State) (v : Row × Lane) : (markVisited s v).rot = s.rot := by
  unfold markVisited
  split <;> simp

/-- A visit: the OPEN entry takes the reason, the GOOD label is marked, the answer collected. -/
theorem visitLane_eq {a : Collected} {v : Row × Lane} {r : Row} (x : Reason)
    (hn : (numbersOf a.state.rot.track).Nodup) (hr : r ∈ a.state.rot.track)
    (hnumber : r.number = v.1.number) (hentry : r.entries.get v.2 = v.1.entries.get v.2) :
    visitLane v.1.number x a v.2 =
      ⟨setTrack (a.state.rot.track.map (rowVisited x [v])) (markVisited a.state v),
        a.applied || openIn v.2 v.1, if entryDecided v.2 v.1 then a.late.set v.2 true else a.late⟩ := by
  have hfind := findRow_of_mem hn hr
  rw [hnumber] at hfind
  have hfixed : (withReason x (v.1.entries.get v.2) = v.1.entries.get v.2) →
      a.state.rot.track.map (rowVisited x [v]) = a.state.rot.track := fun h => by
    refine (List.map_congr_left fun q hq => ?_).trans (List.map_id _)
    refine rowVisited_of_fixed fun l hl => ?_
    obtain ⟨hl1, rfl⟩ : q.number = v.1.number ∧ l = v.2 := by
      simpa [visitKey] using hl
    rw [row_unique hn hq hr (hl1.trans hnumber.symm), hentry]
    exact h
  have hkept : ∀ s : State, s.rot = a.state.rot → setTrack a.state.rot.track s = s := fun s h => by
    rw [← h]
    rfl
  unfold visitLane markVisited openIn entryDecided
  rw [hfind]
  simp only [hentry]
  rcases hv : v.1.entries.get v.2 with _ | z | id | z
  · rw [hfixed (by rw [hv]; rfl), hkept _ rfl]
    simp
  · have hmap : mapRow v.1.number
        (fun r => { r with entries := r.entries.set v.2 (some (.undecided (addReason z x))) })
        a.state.rot.track = a.state.rot.track.map (rowVisited x [v]) := by
      refine List.map_congr_left fun q hq => ?_
      split
      next hqn =>
        have hqr := row_unique hn hq hr (hqn.trans hnumber.symm)
        show { q with entries := _ } = { q with entries := _ }
        congr 1
        refine Lanes.ext_get fun l => ?_
        simp only [Lanes.get_set, Lanes.get_ofFn, visitKey, List.map_cons, List.map_nil,
          List.mem_singleton, Prod.mk.injEq, hqn, true_and]
        split
        next hl => 
          subst hl
          rw [hqr, hentry, hv]
          rfl
        next => rfl
      next hqn =>
        refine (rowVisited_of_fixed fun l hl => absurd ?_ hqn).symm
        exact congrArg Prod.fst (List.mem_singleton.1 hl)
    rw [← hmap]
    simp [LaneEntry.isOpen]
  · rw [hfixed (by rw [hv]; rfl), hkept _ (by simp)]
    simp [LaneEntry.isOpen]
  · rw [hfixed (by rw [hv]; rfl), hkept _ rfl]
    simp [LaneEntry.isOpen]

/-! ### The visits of a list -/

theorem markVisited_setTrack (track : List Row) (s : State) (v : Row × Lane) :
    markVisited (setTrack track s) v = setTrack track (markVisited s v) := by
  have hqueue : ∀ r, queueRecord r (setTrack track s) = setTrack track (queueRecord r s) := fun r => by
    unfold queueRecord updateReportRequest askFor
    rw [apply_ite (setTrack track), apply_ite (setTrack track)]
    rfl
  have hmark : ∀ l id n, suspectMark l id n (setTrack track s) = setTrack track (suspectMark l id n s) := by
    intro l id n
    unfold suspectMark
    rw [hqueue, apply_ite (setTrack track)]
    rfl
  unfold markVisited
  split
  · exact hmark _ _ _
  · rfl

theorem marks_setTrack (track : List Row) (p : List (Row × Lane)) (s : State) :
    p.foldl markVisited (setTrack track s) = setTrack track (p.foldl markVisited s) := by
  induction p generalizing s with
  | nil => rfl
  | cons v p ih => rw [List.foldl_cons, markVisited_setTrack, ih, List.foldl_cons]

/-- The visits of a list, each of a row and a lane of its own. -/
theorem visits_eq (x : Reason) (p : List (Row × Lane)) (a : Collected)
    (hkeys : (p.map visitKey).Nodup) (hn : (numbersOf a.state.rot.track).Nodup)
    (hrows : ∀ v ∈ p, ∃ r ∈ a.state.rot.track, r.number = v.1.number ∧
      r.entries.get v.2 = v.1.entries.get v.2) :
    ∃ late, p.foldl (fun a v => visitLane v.1.number x a v.2) a =
      ⟨setTrack (a.state.rot.track.map (rowVisited x p)) (p.foldl markVisited a.state),
        a.applied || p.any fun v => openIn v.2 v.1, late⟩ ∧
      ∀ l, late.get l = (a.late.get l || p.any fun v => v.2 == l && entryDecided l v.1) := by
  induction p generalizing a with
  | nil =>
    refine ⟨a.late, ?_, fun l => by simp⟩
    have hmap : a.state.rot.track.map (rowVisited x []) = a.state.rot.track :=
      (List.map_congr_left fun r _ => rowVisited_nil x r).trans (List.map_id _)
    simp only [List.foldl_nil, hmap, List.any_nil, Bool.or_false]
    rfl
  | cons v p ih =>
    obtain ⟨hv, hp⟩ := List.nodup_cons.1 hkeys
    obtain ⟨r, hr, hnumber, hentry⟩ := hrows v List.mem_cons_self
    have hstep := visitLane_eq (a := a) x hn hr hnumber hentry
    have htwice : ∀ q : Row, rowVisited x p (rowVisited x [v] q) = rowVisited x (v :: p) q := by
      intro q
      show { q with entries := _ } = { q with entries := _ }
      congr 1
      refine Lanes.ext_get fun l => ?_
      simp only [Lanes.get_ofFn, rowVisited, List.map_cons, List.map_nil, List.mem_cons,
        List.not_mem_nil, or_false]
      by_cases hl : (q.number, l) = visitKey v
      · rw [if_neg (by rw [hl]; exact hv), if_pos hl, if_pos (.inl hl)]
      · simp only [hl, false_or, if_false]
    obtain ⟨late, hfold, hlate⟩ := ih ⟨setTrack (a.state.rot.track.map (rowVisited x [v]))
        (markVisited a.state v), a.applied || openIn v.2 v.1,
        if entryDecided v.2 v.1 then a.late.set v.2 true else a.late⟩ hp
      (by show (numbersOf (a.state.rot.track.map (rowVisited x [v]))).Nodup
          rw [numbersOf_visited]
          exact hn)
      (fun w hw => by
        obtain ⟨q, hq, hqn, hqe⟩ := hrows w (List.mem_cons_of_mem _ hw)
        refine ⟨_, List.mem_map_of_mem hq, hqn, ?_⟩
        simp only [rowVisited, Lanes.get_ofFn]
        rw [if_neg, hqe]
        intro hk
        rw [hqn] at hk
        exact hv ((List.mem_singleton.1 hk) ▸ List.mem_map_of_mem hw))
    refine ⟨late, ?_, fun l => ?_⟩
    · rw [List.foldl_cons, hstep, hfold, marks_setTrack]
      simp only [Collected.mk.injEq, List.foldl_cons, List.any_cons, Bool.or_assoc, and_true]
      refine congrArg (fun q => setTrack q _) ?_
      show List.map _ (List.map _ _) = _
      rw [List.map_map]
      exact List.map_congr_left fun q _ => htwice q
    · rw [hlate, List.any_cons, ← Bool.or_assoc]
      congr 1
      by_cases hl : v.2 = l
      · subst hl
        cases entryDecided v.2 v.1 <;> simp
      · have hl' : (v.2 == l) = false := by simpa using hl
        rw [hl']
        split <;> simp [Lanes.get_set_ne _ _ (Ne.symm hl)]

end Sys2Proof.Machine
end

section
/-! The suspect marks of a span, a ROW note or a splice (R94, R95). -/
namespace Sys2Proof.Machine

/-! ### Suspect stacks -/

theorem suspected_nil (x : Stack) : Suspected [] x x :=
  ⟨rfl, fun h => by simp only [List.length_nil]; omega, by cases x.firstSuspect <;> rfl⟩

theorem suspected_trans {p q : List RowNum} {x y z : Stack} (h : Suspected p x y)
    (h' : Suspected q y z) : Suspected (p ++ q) x z := by
  obtain ⟨hxy, hcount, hfirst⟩ := h
  obtain ⟨hyz, hcount', hfirst'⟩ := h'
  refine ⟨?_, fun hx => ?_, ?_⟩
  · rw [hyz, hxy]
  · have hy := hcount hx
    rw [hcount' (by omega), hy, List.length_append]
    omega
  · rw [hfirst', hfirst]
    cases x.firstSuspect <;> cases p <;> rfl

theorem markSuspect_suspected (n : RowNum) (x : Stack) : Suspected [n] x (markSuspect n x) := by
  refine ⟨rfl, fun _ => riseTo_eq _ _, ?_⟩
  unfold markSuspect
  cases x.firstSuspect <;> rfl

theorem forall₂_trans_of {α : Type} {r s t : α → α → Prop} (h : ∀ a b c, r a b → s b c → t a c)
    {p q w : List α} (h1 : List.Forall₂ r p q) (h2 : List.Forall₂ s q w) : List.Forall₂ t p w := by
  induction h1 generalizing w with
  | nil => cases h2; exact .nil
  | cons ha _ ih =>
    obtain _ | ⟨hb, h2⟩ := h2
    exact .cons (h _ _ _ ha hb) (ih h2)

/-- The rows whose GOOD label of the lane is in the stack of an id, among the visits of a list. -/
def visitedRows (p : List (Row × Lane)) (l : Lane) (id : Nat) : List RowNum :=
  (p.filter fun v => v.2 == l && v.1.entries.get l == some (.good id)).map fun v => v.1.number

/-- The SUSPECT records of the visits of a list. -/
def visitedRecords (p : List (Row × Lane)) (s : State) : List Record :=
  p.filterMap fun v =>
    match v.1.entries.get v.2 with
    | some (.good id) => if (s.skc.get v.2).line.any (fun x => x.id == id) then none
        else some (.suspect v.2 id v.1.number)
    | _ => none

/-- The marks of a list of visits, seen in the lines and in the report queue. -/
structure Marked (p : List (Row × Lane)) (s t : State) : Prop where
  suspects : ∀ l, List.Forall₂ (fun x y => Suspected (visitedRows p l x.id) x y)
    (s.skc.get l).line (t.skc.get l).line
  lanes : ∀ l, t.skc.get l = { s.skc.get l with line := (t.skc.get l).line }
  queued : t.rpw.queue = s.rpw.queue ++ (visitedRecords p s).take (4 - otherRecords s.rpw.queue)
  dropped : s.rpw.droppedCount ≤ 65535 → t.rpw.droppedCount = min 65535 (s.rpw.droppedCount +
    ((visitedRecords p s).length - (4 - otherRecords s.rpw.queue)))
  pending : t.rpw.dropPending = (s.rpw.dropPending ||
    decide (4 - otherRecords s.rpw.queue < (visitedRecords p s).length))

theorem visitedRows_append (p q : List (Row × Lane)) (l : Lane) (id : Nat) :
    visitedRows (p ++ q) l id = visitedRows p l id ++ visitedRows q l id := by
  simp [visitedRows]

theorem visitedRecords_append (p q : List (Row × Lane)) (s : State) :
    visitedRecords (p ++ q) s = visitedRecords p s ++ visitedRecords q s := by
  simp [visitedRecords]

/-- The records of visits are SUSPECT records, which the queue's room bounds. -/
theorem otherRecords_take (p : List (Row × Lane)) (s : State) (k : Nat) :
    otherRecords ((visitedRecords p s).take k) = min k (visitedRecords p s).length := by
  unfold otherRecords
  rw [List.countP_eq_length.2, List.length_take]
  intro r hr
  obtain ⟨v, -, hv⟩ := List.mem_filterMap.1 (List.mem_of_mem_take hr)
  split at hv
  · split at hv
    · cases hv
    · cases hv
      rfl
  · cases hv

namespace Marked

variable {p q : List (Row × Lane)} {s t u : State}

theorem ids (h : Marked p s t) (l : Lane) (id : Nat) :
    (t.skc.get l).line.any (fun x => x.id == id) = (s.skc.get l).line.any fun x => x.id == id := by
  have hids : ∀ {a b : List Stack},
      List.Forall₂ (fun x y => Suspected (visitedRows p l x.id) x y) a b →
        b.any (fun x => x.id == id) = a.any fun x => x.id == id := by
    intro a b hab
    induction hab with
    | nil => rfl
    | cons hx _ ih =>
      rw [List.any_cons, List.any_cons, ih, hx.1]
  exact hids (h.suspects l)

/-- The same records are due after the marks as before. -/
theorem records (h : Marked p s t) (q : List (Row × Lane)) :
    visitedRecords q t = visitedRecords q s := by
  unfold visitedRecords
  refine List.filterMap_congr fun v _ => ?_
  split
  · rw [h.ids]
  · rfl

theorem trans (h : Marked p s t) (h' : Marked q t u) : Marked (p ++ q) s u := by
  have hroom : otherRecords t.rpw.queue = otherRecords s.rpw.queue +
      min (4 - otherRecords s.rpw.queue) (visitedRecords p s).length := by
    rw [h.queued, otherRecords, List.countP_append]
    exact congrArg (_ + ·) (otherRecords_take p s _)
  have hrecords := h.records q
  have happend := visitedRecords_append p q s
  refine ⟨fun l => ?_, fun l => ?_, ?_, fun hd => ?_, ?_⟩
  · refine forall₂_trans_of (fun x y z hxy hyz => ?_) (h.suspects l) (h'.suspects l)
    have hid : y.id = x.id := by rw [hxy.1]
    rw [visitedRows_append]
    rw [hid] at hyz
    exact suspected_trans hxy hyz
  · rw [h'.lanes l, h.lanes l]
  · rw [h'.queued, hroom, h.queued, hrecords, happend, List.take_append, List.append_assoc]
    congr 3
    omega
  · have hle := h.dropped hd
    rw [h'.dropped (by omega), hle, hrecords, happend, List.length_append, hroom]
    omega
  · rw [h'.pending, h.pending, hrecords, happend, List.length_append, hroom, Bool.or_assoc]
    congr 1
    rw [← Bool.decide_or]
    exact decide_eq_decide.2 (by omega)

theorem same (hrows : ∀ l id, visitedRows p l id = []) (hrecords : visitedRecords p s = []) :
    Marked p s s := by
  refine ⟨fun l => List.forall₂_same.2 fun x _ => ?_, fun l => rfl, ?_, fun h => ?_, ?_⟩
  · rw [hrows]
    exact suspected_nil x
  · rw [hrecords]
    simp
  · rw [hrecords]
    simp only [List.length_nil]
    omega
  · rw [hrecords]
    simp

end Marked

/-- The mark of one visit. -/
theorem markVisited_marked (s : State) (v : Row × Lane) : Marked [v] s (markVisited s v) := by
  have hrows : ∀ l id, visitedRows [v] l id =
      if v.2 = l ∧ v.1.entries.get v.2 = some (.good id) then [v.1.number] else [] := by
    intro l id
    unfold visitedRows
    by_cases hl : v.2 = l
    · subst hl
      by_cases he : v.1.entries.get v.2 = some (.good id) <;> simp [he]
    · simp [hl]
  by_cases hgood : ∃ id, v.1.entries.get v.2 = some (.good id)
  case neg =>
    have hsame : markVisited s v = s := by
      unfold markVisited
      split
      next id he => exact absurd ⟨id, he⟩ hgood
      next => rfl
    rw [hsame]
    refine .same (fun l id => ?_) ?_
    · rw [hrows, if_neg fun h => hgood ⟨id, h.2⟩]
    · unfold visitedRecords
      rw [List.filterMap_cons, List.filterMap_nil]
      split
      next => rfl
      next r hr =>
        split at hr
        next id he => exact absurd ⟨id, he⟩ hgood
        next => cases hr
  case pos =>
    obtain ⟨id, he⟩ := hgood
    have hmark : markVisited s v = suspectMark v.2 id v.1.number s := by
      unfold markVisited
      rw [he]
    have hrecords : visitedRecords [v] s = if (s.skc.get v.2).line.any (fun x => x.id == id) then []
        else [.suspect v.2 id v.1.number] := by
      unfold visitedRecords
      rw [List.filterMap_cons, List.filterMap_nil, he]
      dsimp only
      split <;> split <;> simp_all
    have hid : ∀ l x, (v.2 = l ∧ v.1.entries.get v.2 = some (.good x)) ↔ v.2 = l ∧ x = id := fun l x => by
      rw [he]
      simp [eq_comm]
    rw [hmark]
    unfold suspectMark
    dsimp only
    split
    next hin =>
      rw [if_pos hin] at hrecords
      refine ⟨fun l => ?_, fun l => ?_, ?_, fun h => ?_, ?_⟩
      · rw [setLine_line]
        split
        next hl =>
          subst hl
          rw [mapStack, List.forall₂_map_right_iff, List.forall₂_same]
          intro x _
          rw [hrows]
          by_cases hx : x.id = id
          · rw [if_pos hx, if_pos ((hid _ _).2 ⟨rfl, hx⟩)]
            exact markSuspect_suspected _ x
          · rw [if_neg hx, if_neg fun h => hx ((hid _ _).1 h).2]
            exact suspected_nil x
        next hl =>
          rw [List.forall₂_same]
          intro x _
          rw [hrows, if_neg fun h => hl h.1.symm]
          exact suspected_nil x
      · rw [setLine, setLane_get]
        split
        next hl => rw [hl]
        next => rfl
      · rw [hrecords]
        simp
      · rw [hrecords]
        simp only [setLine_keeps, List.length_nil]
        omega
      · rw [hrecords]
        simp
    next hout => 
      rw [if_neg hout] at hrecords
      have hskc : (queueRecord (.suspect v.2 id v.1.number) s).skc = s.skc := by
        rw [queueRecord_only]
      have hlines : ∀ l, List.Forall₂ (fun x y => Suspected (visitedRows [v] l x.id) x y)
          (s.skc.get l).line (s.skc.get l).line := fun l => List.forall₂_same.2 fun x hx => by
        rw [hrows, if_neg]
        · exact suspected_nil x
        · rintro h
          obtain ⟨rfl, hxid⟩ := (hid l x.id).1 h
          exact hout (List.any_eq_true.2 ⟨x, hx, by simp [hxid]⟩)
      by_cases hroom : otherRecords s.rpw.queue < 4
      · have hrpw := queueRecord_joins (r := .suspect v.2 id v.1.number) (.inr hroom)
        refine ⟨by rw [hskc]; exact hlines, fun l => by rw [hskc], ?_, fun h => ?_, ?_⟩
        · rw [hrpw, hrecords, List.take_of_length_le (by simp only [List.length_singleton]; omega)]
        · rw [hrpw, hrecords]
          simp only [List.length_singleton]
          omega
        · rw [hrpw, hrecords]
          simp only [List.length_singleton]
          rw [decide_eq_false (by omega), Bool.or_false]
      · have hrpw := queueRecord_dropped (r := .suspect v.2 id v.1.number) rfl (Nat.le_of_not_lt hroom)
        have hnone : 4 - otherRecords s.rpw.queue = 0 := by omega
        refine ⟨by rw [hskc]; exact hlines, fun l => by rw [hskc], ?_, fun h => ?_, ?_⟩
        · rw [hrpw, hrecords, hnone, List.take_zero, List.append_nil]
        · rw [hrpw, hrecords, hnone]
          rfl
        · rw [hrpw, hrecords, hnone]
          simp

theorem marks_marked (p : List (Row × Lane)) (s : State) : Marked p s (p.foldl markVisited s) := by
  induction p generalizing s with
  | nil => exact .same (fun _ _ => rfl) rfl
  | cons v p ih => exact (markVisited_marked s v).trans (ih _)

end Sys2Proof.Machine
end

section
/-! The hits of a span, a ROW note or a splice: what the statements name, as visits of rows and lanes. -/
namespace Sys2Proof.Machine

/-! ### The visits of what is hit -/

/-- The lanes of the rows that `hit` names, in row and then lane order. -/
def visits (hit : Row → Lane → Bool) (track : List Row) : List (Row × Lane) :=
  track.flatMap fun r => (allLanes.filter (hit r)).map fun l => (r, l)

/-- The lanes that a condition picks, but for one lane. -/
theorem lanes_filter (c : Lane → Bool) (l : Lane) :
    (allLanes.filter fun k => c k && k == l) = if c l then [l] else [] := by
  have hone : (allLanes.filter fun k => k == l) = [l] := by cases l <;> decide
  rw [← List.filter_filter, hone, List.filter_cons, List.filter_nil]

section
variable (hit : Row → Lane → Bool)

theorem visits_cons (r : Row) (track : List Row) : visits hit (r :: track) =
    (allLanes.filter (hit r)).map (fun l => (r, l)) ++ visits hit track := rfl

theorem mem_visits {track : List Row} {v : Row × Lane} :
    v ∈ visits hit track ↔ v.1 ∈ track ∧ hit v.1 v.2 = true := by
  obtain ⟨r, l⟩ := v
  simp only [visits, List.mem_flatMap, List.mem_map, List.mem_filter, Prod.mk.injEq]
  constructor
  · rintro ⟨q, hq, k, ⟨-, hk⟩, rfl, rfl⟩
    exact ⟨hq, hk⟩
  · rintro ⟨hr, hl⟩
    exact ⟨r, hr, l, ⟨mem_allLanes l, hl⟩, rfl, rfl⟩

theorem mem_visitKeys {track : List Row} (hn : (numbersOf track).Nodup) {r : Row} (hr : r ∈ track)
    (l : Lane) : (r.number, l) ∈ (visits hit track).map visitKey ↔ hit r l = true := by
  rw [List.mem_map]
  constructor
  · rintro ⟨⟨q, k⟩, hv, hk⟩
    obtain ⟨hq, hhit⟩ := (mem_visits hit).1 hv
    obtain ⟨hnumber, rfl⟩ := Prod.mk.inj hk
    rw [row_unique hn hr hq hnumber.symm]
    exact hhit
  · exact fun h => ⟨(r, l), (mem_visits hit).2 ⟨hr, h⟩, rfl⟩

theorem visits_nodup {track : List Row} (hn : (numbersOf track).Nodup) :
    ((visits hit track).map visitKey).Nodup := by
  induction track with
  | nil => exact List.nodup_nil
  | cons r track ih =>
    obtain ⟨hr, hn⟩ := List.nodup_cons.1 hn
    rw [visits_cons, List.map_append, List.nodup_append]
    refine ⟨?_, ih hn, ?_⟩
    · rw [List.map_map]
      refine List.Nodup.map (fun k l h => (Prod.mk.inj h).2) ((List.Nodup.filter _ ?_))
      decide
    · rintro k hk q hq rfl
      obtain ⟨⟨w, l⟩, hv, rfl⟩ := List.mem_map.1 hq
      obtain ⟨⟨w', l'⟩, hv', he⟩ := List.mem_map.1 hk
      obtain ⟨k', -, rfl, rfl⟩ : ∃ k ∈ allLanes.filter (hit r), r = w' ∧ k = l' := by
        simpa using hv'
      have hmem := mem_numbers ((mem_visits hit).1 hv).1
      rw [← (Prod.mk.inj he).1] at hmem
      exact hr hmem

/-- The rows of which the visits mark a stack. -/
theorem visitedRows_visits (track : List Row) (l : Lane) (id : Nat) :
    visitedRows (visits hit track) l id = suspectRows hit track l id := by
  induction track with
  | nil => rfl
  | cons r track ih =>
    have hblock : visitedRows ((allLanes.filter (hit r)).map fun k => (r, k)) l id =
        if hit r l && r.entries.get l == some (.good id) then [r.number] else [] := by
      have hone := lanes_filter (fun k => hit r k && r.entries.get l == some (.good id)) l
      unfold visitedRows
      rw [List.filter_map, List.filter_filter, List.map_map]
      rw [show (allLanes.filter fun k => ((fun v : Row × Lane => v.2 == l &&
          v.1.entries.get l == some (.good id)) ∘ fun k => (r, k)) k && hit r k) = _ from
        (congrArg (List.filter · allLanes) (funext fun k => by
          dsimp only [Function.comp]
          cases k == l <;> cases hit r k <;> simp)).trans hone]
      split <;> rfl
    rw [visits_cons, visitedRows_append, hblock, ih]
    unfold suspectRows
    rw [List.filter_cons]
    split <;> rfl

/-- The records that the visits bring about. -/
theorem visitedRecords_visits (s : State) :
    visitedRecords (visits hit s.rot.track) s = suspectRecords hit s := by
  unfold suspectRecords
  generalize s.rot.track = track
  induction track with
  | nil => rfl
  | cons r track ih =>
    rw [visits_cons, visitedRecords_append, ih, List.flatMap_cons]
    refine congrArg (· ++ _) ?_
    unfold visitedRecords
    rw [List.filterMap_map, List.filterMap_filter]
    refine List.filterMap_congr fun l _ => ?_
    dsimp only [Function.comp]
    rcases r.entries.get l with _ | _ | id | _
    · simp
    · simp
    · dsimp only
      generalize ((s.skc.get l).line.any fun x => x.id == id) = b
      cases hit r l <;> cases b <;> rfl
    · simp

end

/-! ### The hits taken (R46, R87, R94) -/

theorem marks_rot (p : List (Row × Lane)) (s : State) : (p.foldl markVisited s).rot = s.rot := by
  induction p generalizing s with
  | nil => rfl
  | cons v p ih => exact (ih _).trans (markVisited_rot s v)

/-- What the visits of what is hit leave: the reason in the rows, the marks in the lines and the queue. -/
def hitsMade (x : Reason) (hit : Row → Lane → Bool) (s : State) : State :=
  setTrack (s.rot.track.map (rowVisited x (visits hit s.rot.track)))
    ((visits hit s.rot.track).foldl markVisited s)

theorem hitsMade_taken (x : Reason) (hit : Row → Lane → Bool) {s : State}
    (hn : (numbersOf s.rot.track).Nodup) : HitsTaken x hit s (hitsMade x hit s) := by
  obtain ⟨hsuspects, hlanes, hqueued, hdropped, hpending⟩ := marks_marked (visits hit s.rot.track) s
  rw [visitedRecords_visits] at hqueued hdropped hpending
  refine ⟨?_, ?_, fun l => ?_, hlanes, hqueued, hdropped, hpending⟩
  · show List.Forall₂ _ _ (List.map _ _)
    rw [List.forall₂_map_right_iff, List.forall₂_same]
    intro r hr
    have hget : ∀ l, (rowVisited x (visits hit s.rot.track) r).entries.get l =
        if hit r l = true then withReason x (r.entries.get l) else r.entries.get l := fun l => by
      simp only [rowVisited, Lanes.get_ofFn, mem_visitKeys hit hn hr]
    refine ⟨fun l z hz hl => ?_, fun l hl => ?_, rfl⟩
    · rw [hget, if_pos hl, hz]
      rfl
    · rw [hget]
      split
      next hhit =>
        have hdecided := hl.resolve_right fun h => Bool.noConfusion (h.symm.trans hhit)
        rcases he : r.entries.get l with _ | z | id | z
        · rfl
        · exact absurd ⟨z, he⟩ hdecided
        · rfl
        · rfl
      next => rfl
  · show ({ ((visits hit s.rot.track).foldl markVisited s).rot with track := _ } : Rot) = _
    rw [marks_rot]
    rfl
  · have h := hsuspects l
    simp only [visitedRows_visits] at h
    exact h

/-- The visits of what is hit, collected: the hits taken, whether one was OPEN, and the late lanes. -/
theorem visits_hits (x : Reason) (hit : Row → Lane → Bool) {s : State}
    (hn : (numbersOf s.rot.track).Nodup) :
    ∃ late : LaneSet, (visits hit s.rot.track).foldl (fun a v => visitLane v.1.number x a v.2)
        ⟨s, false, Lanes.fill false⟩ =
      ⟨hitsMade x hit s, (visits hit s.rot.track).any fun v => openIn v.2 v.1, late⟩ ∧
      ∀ l, late.get l = true ↔ ∃ r ∈ s.rot.track, hit r l = true ∧ entryDecided l r = true := by
  obtain ⟨late, hfold, hlate⟩ := visits_eq x (visits hit s.rot.track) ⟨s, false, Lanes.fill false⟩
    (visits_nodup hit hn) hn fun v hv => ⟨v.1, ((mem_visits hit).1 hv).1, rfl, rfl⟩
  refine ⟨late, hfold, fun l => ?_⟩
  rw [hlate, Lanes.get_fill, Bool.false_or, List.any_eq_true]
  constructor
  · rintro ⟨⟨r, k⟩, hv, h⟩
    simp only [Bool.and_eq_true, beq_iff_eq] at h
    obtain ⟨rfl, hdecided⟩ := h
    obtain ⟨hr, hhit⟩ := (mem_visits hit).1 hv
    exact ⟨r, hr, hhit, hdecided⟩
  · rintro ⟨r, hr, hhit, hdecided⟩
    exact ⟨(r, l), (mem_visits hit).2 ⟨hr, hhit⟩, by simp [hdecided]⟩

/-- Some hit entry is OPEN. -/
theorem visits_open {hit : Row → Lane → Bool} {track : List Row} :
    ((visits hit track).any fun v => openIn v.2 v.1) = true ↔
      ∃ r l, (r ∈ track ∧ hit r l = true) ∧ openIn l r = true := by
  rw [List.any_eq_true]
  exact ⟨fun ⟨v, hv, h⟩ => ⟨v.1, v.2, (mem_visits hit).1 hv, h⟩,
    fun ⟨r, l, hv, h⟩ => ⟨(r, l), (mem_visits hit).2 hv, h⟩⟩

theorem openIn_iff {l : Lane} {r : Row} :
    openIn l r = true ↔ ∃ z, r.entries.get l = some (.undecided z) := by
  unfold openIn
  rcases r.entries.get l with _ | z | id | z <;> simp [LaneEntry.isOpen]

theorem entryDecided_iff {l : Lane} {r : Row} : entryDecided l r = true ↔
    ∃ e, r.entries.get l = some e ∧ e.isOpen = false := by
  unfold entryDecided
  rcases r.entries.get l with _ | z | id | z <;> simp [LaneEntry.isOpen]

/-- A row visited in a list of lanes is the visits of that row. -/
theorem visitRow_visits {track : List Row} (hn : (numbersOf track).Nodup) {r : Row} (hr : r ∈ track)
    (x : Reason) (lanes : LaneSet) (a : Collected) :
    visitRow r.number x lanes a =
      (visits (fun q l => q.number == r.number && lanes.get l) track).foldl
        (fun a v => visitLane v.1.number x a v.2) a := by
  have hother : ∀ track : List Row, r.number ∉ numbersOf track →
      visits (fun q l => q.number == r.number && lanes.get l) track = [] := by
    intro track hnot
    refine List.eq_nil_iff_forall_not_mem.2 fun v hv => ?_
    obtain ⟨hmem, hhit⟩ := (mem_visits _).1 hv
    have hnumber := beq_iff_eq.1 (Bool.and_eq_true_iff.1 hhit).1
    exact hnot (hnumber ▸ mem_numbers hmem)
  have hvisits : visits (fun q l => q.number == r.number && lanes.get l) track =
      (lanesOf lanes).map fun l => (r, l) := by
    induction track with
    | nil => cases hr
    | cons q track ih =>
      obtain ⟨hq, hn'⟩ := List.nodup_cons.1 hn
      rw [visits_cons]
      by_cases he : q = r
      · subst he
        rw [hother track hq, List.append_nil]
        simp [lanesOf]
      · have hmem := (List.mem_cons.1 hr).resolve_left (Ne.symm he)
        have hne : q.number ≠ r.number := fun e => he (row_unique hn List.mem_cons_self hr e)
        rw [ih hn' hmem]
        simp [hne]
  rw [hvisits, List.foldl_map]
  rfl

/-- The tracked part of a span is the visits of what it hits. -/
theorem applyTracked_visits (start stop : Count) (reach : SpanReach) (x : Reason) (s : State) :
    applyTracked start stop reach x s =
      (visits (fun r l => hitAlong start stop r && (reachIn reach r.tag s).get l) s.rot.track).foldl
        (fun a v => visitLane v.1.number x a v.2) ⟨s, false, Lanes.fill false⟩ := by
  unfold applyTracked
  have hfold : ∀ (track : List Row) (a : Collected),
      (track.filter (hitAlong start stop)).foldl
        (fun a r => visitRow r.number x (reachIn reach r.tag s) a) a =
      (visits (fun r l => hitAlong start stop r && (reachIn reach r.tag s).get l) track).foldl
        (fun a v => visitLane v.1.number x a v.2) a := by
    intro track
    induction track with
    | nil => exact fun _ => rfl
    | cons r track ih =>
      intro a
      rw [visits_cons, List.foldl_append, ← ih, List.filter_cons]
      by_cases hr : hitAlong start stop r = true
      · rw [if_pos hr, List.foldl_cons]
        simp only [hr, Bool.true_and, List.foldl_map]
        rfl
      · rw [if_neg hr]
        simp [hr]
  exact hfold _ _

end Sys2Proof.Machine
end

section
/-! ROW notes (R93, R94). -/
namespace Sys2Proof.Machine

/-! ### What the hits leave -/

theorem markVisited_keeps (s : State) (v : Row × Lane) : (markVisited s v).trc = s.trc ∧
    (markVisited s v).mkt = s.mkt ∧ (markVisited s v).knt = s.knt ∧ (markVisited s v).ntp = s.ntp ∧
    (markVisited s v).lnd = s.lnd ∧ (markVisited s v).tka = s.tka ∧ (markVisited s v).jbc = s.jbc ∧
    (markVisited s v).rnc = s.rnc ∧ (markVisited s v).pxm.memory = s.pxm.memory ∧
    (markVisited s v).pxm.waiting = s.pxm.waiting ∧ (markVisited s v).rpw.halfWork = s.rpw.halfWork := by
  unfold markVisited
  split <;> simp

theorem hitsMade_keeps (x : Reason) (hit : Row → Lane → Bool) (s : State) :
    (hitsMade x hit s).trc = s.trc ∧ (hitsMade x hit s).mkt = s.mkt ∧ (hitsMade x hit s).knt = s.knt ∧
    (hitsMade x hit s).ntp = s.ntp ∧ (hitsMade x hit s).lnd = s.lnd ∧ (hitsMade x hit s).tka = s.tka ∧
    (hitsMade x hit s).jbc = s.jbc ∧ (hitsMade x hit s).rnc = s.rnc ∧
    (hitsMade x hit s).pxm.memory = s.pxm.memory ∧ (hitsMade x hit s).pxm.waiting = s.pxm.waiting ∧
    (hitsMade x hit s).rpw.halfWork = s.rpw.halfWork := by
  have hmarks : ∀ p : List (Row × Lane), ∀ s : State, (p.foldl markVisited s).trc = s.trc ∧
      (p.foldl markVisited s).mkt = s.mkt ∧ (p.foldl markVisited s).knt = s.knt ∧
      (p.foldl markVisited s).ntp = s.ntp ∧ (p.foldl markVisited s).lnd = s.lnd ∧
      (p.foldl markVisited s).tka = s.tka ∧ (p.foldl markVisited s).jbc = s.jbc ∧
      (p.foldl markVisited s).rnc = s.rnc ∧ (p.foldl markVisited s).pxm.memory = s.pxm.memory ∧
      (p.foldl markVisited s).pxm.waiting = s.pxm.waiting ∧
      (p.foldl markVisited s).rpw.halfWork = s.rpw.halfWork := by
    intro p
    induction p with
    | nil => exact fun s => ⟨rfl, rfl, rfl, rfl, rfl, rfl, rfl, rfl, rfl, rfl, rfl⟩
    | cons v p ih =>
      intro s
      have hv := markVisited_keeps s v
      have hp := ih (markVisited s v)
      simp only [List.foldl_cons]
      simp only [hv] at hp
      exact hp
  exact hmarks _ s

/-- A lane of which no GOOD label is hit keeps its stacks. -/
theorem hitsMade_lane (x : Reason) {hit : Row → Lane → Bool} {s : State} {l : Lane}
    (h : ∀ r ∈ s.rot.track, hit r l = true → ∀ id, r.entries.get l ≠ some (.good id)) :
    (hitsMade x hit s).skc.get l = s.skc.get l := by
  have hmarks : ∀ p : List (Row × Lane), (∀ v ∈ p, v.2 = l → ∀ id, v.1.entries.get l ≠ some (.good id)) →
      ∀ u : State, (p.foldl markVisited u).skc.get l = u.skc.get l := by
    intro p
    induction p with
    | nil => exact fun _ _ => rfl
    | cons v p ih =>
      intro hp u
      rw [List.foldl_cons, ih (fun w hw => hp w (List.mem_cons_of_mem _ hw))]
      unfold markVisited
      split
      next id he =>
        have hl : ¬l = v.2 := fun hl => hp v List.mem_cons_self hl.symm id (hl ▸ he)
        unfold suspectMark
        dsimp only
        split
        · rw [setLine, setLane_get, if_neg hl]
        · rw [queueRecord_only]
      next => rfl
  refine hmarks _ (fun v hv hl id => ?_) s
  obtain ⟨hr, hhit⟩ := (mem_visits hit).1 hv
  exact h v.1 hr (hl ▸ hhit) id

/-- The hits are seen in the track, the lines and the report queue alone. -/
theorem hitsTaken_congr {x : Reason} {hit : Row → Lane → Bool} {s u t : State}
    (h : HitsTaken x hit s u) (hrot : t.rot = u.rot) (hskc : t.skc = u.skc) (hrpw : t.rpw = u.rpw) :
    HitsTaken x hit s t := by
  obtain ⟨hrows, hnumbering, hsuspects, hlanes, hqueued, hdropped, hpending⟩ := h
  rw [← hrot] at hrows hnumbering
  simp only [← hskc] at hsuspects hlanes
  rw [← hrpw] at hqueued hdropped hpending
  exact ⟨hrows, hnumbering, hsuspects, hlanes, hqueued, hdropped, hpending⟩

/-! ### Lane masks and fates (R89, R93) -/

theorem laneMask_bits (x : LaneSet) :
    laneMask x < 16 ∧ ∀ l, (laneMask x).testBit (laneIndex l) = x.get l := by
  obtain ⟨a, b, c, d⟩ := x
  refine ⟨?_, fun l => ?_⟩ <;> cases a <;> cases b <;> cases c <;> cases d
  all_goals first | decide | (cases l <;> decide)

theorem exec_rowNote_of_turn {s : State} {p : PageInWork} {rest : List NoteBurst} {n : RowNum}
    {lanes : LaneSet} (h : NoteAtTurn s p rest)
    (hn : decodeNote s.pxm.memory p.noteBase = .inl (.row n lanes)) :
    exec .rowNote s = .next (afterBurst (finishNote s p (rowOutcome s (.row n lanes)))) := by
  have hstep := noteStep_of_turn rowOutcome h hn
  simp only [exec, execRowNote]
  exact congrArg _ hstep

theorem standing_present {n : RowNum} {s : State} {r : Row} (h : standing n s = .present r) :
    findRow n s = some r := by
  unfold standing at h
  split at h
  · cases h
  split at h
  · cases h
  split at h
  · cases h
  split at h
  next q hq => cases h; exact hq
  · cases h

/-- The fate of a ROW note by the entries it finds (R93). -/
theorem rowFate_cases (applied : Bool) (late : LaneSet) :
    (applied = false → LaneSet.nonempty late = false → rowFate applied late = (.gutter, 0)) ∧
    (applied = true → LaneSet.nonempty late = false → rowFate applied late = (.applied, 0)) ∧
    (applied = true → LaneSet.nonempty late = true → rowFate applied late = (.partLate, laneMask late)) ∧
    (applied = false → LaneSet.nonempty late = true → rowFate applied late = (.late, laneMask late)) := by
  unfold rowFate
  cases applied <;> cases LaneSet.nonempty late <;> simp

/-- Settles O37: the note visits the entries of the row it names. -/
theorem rowNoteMarksTheRowItNames : Obligations.RowNoteMarksTheRowItNames := by
  intro s p rest n lanes hturn hn
  have hexec := exec_rowNote_of_turn hturn hn
  have hcurrent : s.jbc.current ≠ none → rowOutcome s (.row n lanes) = applyRowNote n lanes s := by
    intro h
    obtain ⟨c, hc⟩ := Option.ne_none_iff_exists'.1 h
    simp only [rowOutcome, hc]
  refine ⟨fun hnone => ?_, fun hc hstanding => ?_, fun hc hstanding => ?_,
    fun r hc hstanding htag htrack => ?_⟩
  · refine ⟨_, hexec, ?_⟩
    simp only [rowOutcome, hnone]
    exact finishNote_same .noJob 0 hturn.1 hturn.2.2
  · refine ⟨_, hexec, ?_⟩
    rw [hcurrent hc]
    simp only [applyRowNote, hstanding]
    exact finishNote_same .future 0 hturn.1 hturn.2.2
  · refine ⟨_, hexec, ?_⟩
    rw [hcurrent hc]
    obtain hgone | ⟨r, hpresent, hended⟩ := hstanding
    · simp only [applyRowNote, hgone]
      exact finishNote_same .gone 0 hturn.1 hturn.2.2
    · simp only [applyRowNote, hpresent, hended, if_true]
      exact finishNote_same .gone 0 hturn.1 hturn.2.2
  · have hnumbers := htrack.nodup
    have hfind := standing_present hstanding
    have hr := List.mem_of_find?_eq_some hfind
    have hnumber : r.number = n := by simpa using List.find?_some hfind
    subst hnumber
    obtain ⟨late, hvisits, hlate⟩ := visits_hits .defect (fun q l => q.number == r.number && lanes.get l)
      hnumbers
    generalize happlied : ((visits (fun q l => q.number == r.number && lanes.get l) s.rot.track).any
      fun v => openIn v.2 v.1) = applied at hvisits
    have hopen : applied = true ↔ ∃ l z, lanes.get l = true ∧ r.entries.get l = some (.undecided z) := by
      rw [← happlied, visits_open]
      constructor
      · rintro ⟨q, l, ⟨hq, hhit⟩, hopen⟩
        simp only [Bool.and_eq_true, beq_iff_eq] at hhit
        obtain rfl := row_unique hnumbers hq hr hhit.1
        obtain ⟨z, hz⟩ := openIn_iff.1 hopen
        exact ⟨l, z, hhit.2, hz⟩
      · rintro ⟨l, z, hl, hz⟩
        exact ⟨r, l, ⟨hr, by simp [hl]⟩, openIn_iff.2 ⟨z, hz⟩⟩
    have hdecided : ∀ l, late.get l = true ↔
        lanes.get l = true ∧ ∃ e, r.entries.get l = some e ∧ e.isOpen = false := by
      intro l
      rw [hlate]
      constructor
      · rintro ⟨q, hq, hhit, h⟩
        simp only [Bool.and_eq_true, beq_iff_eq] at hhit
        obtain rfl := row_unique hnumbers hq hr hhit.1
        exact ⟨hhit.2, entryDecided_iff.1 h⟩
      · rintro ⟨hl, h⟩
        exact ⟨r, hr, by simp [hl], entryDecided_iff.2 h⟩
    have houtcome : rowOutcome s (.row r.number lanes) =
        (hitsMade .defect (fun q l => q.number == r.number && lanes.get l) s, rowFate applied late) := by
      rw [hcurrent hc]
      simp only [applyRowNote, hstanding, htag, if_false]
      rw [visitRow_visits hnumbers hr, hvisits]
    have htaken := hitsMade_taken .defect (fun q l => q.number == r.number && lanes.get l) hnumbers
    have hlane : ∀ l, (∀ id, lanes.get l = true → r.entries.get l ≠ some (.good id)) →
        (hitsMade .defect (fun q l => q.number == r.number && lanes.get l) s).skc.get l = s.skc.get l :=
      fun l hl => hitsMade_lane _ fun q hq hhit id => by
        simp only [Bool.and_eq_true, beq_iff_eq] at hhit
        rw [row_unique hnumbers hq hr hhit.1]
        exact hl id hhit.2
    have hkeeps := hitsMade_keeps .defect (fun q l => q.number == r.number && lanes.get l) s
    rw [houtcome] at hexec
    generalize hitsMade .defect (fun q l => q.number == r.number && lanes.get l) s = u at *
    obtain ⟨htrc, hmkt, hknt, hntp, hlnd, htka, hjbc, hrnc, hmemory, hwaiting, hhalf⟩ := hkeeps
    obtain ⟨hgutter, happly, hpart, hall⟩ := rowFate_cases applied late
    obtain ⟨⟨-, -, hwaits, hwork⟩, -, hidle⟩ := hturn
    obtain ⟨hdone, honly⟩ := finishNote_done (s := s) (p := p) (u := u) (rowFate applied late).1
      (rowFate applied late).2 (by rw [hntp]; exact hwork) (hwaiting.trans hwaits) (hhalf.trans hidle)
    obtain ⟨trc', mkt', rot', knt', lnd', skc', tka', jbc', rnc', rpw', memory', -, -, spans', -⟩ :=
      honly.blocks
    obtain ⟨hmask, hbits⟩ := laneMask_bits late
    have hnonempty := laneSet_nonempty_iff late
    refine ⟨_, _, _, hexec, hdone, hitsTaken_congr htaken rot' skc' rpw', fun l hl => ?_, fun h => ?_,
      fun h h' => ?_, fun h => ?_, by rw [mkt', hmkt], by rw [knt', hknt], by rw [trc', htrc],
      by rw [jbc', hjbc], by rw [rnc', hrnc], by rw [tka', htka], by rw [lnd', hlnd],
      by rw [spans', hntp], by rw [memory', hmemory]⟩
    · rw [skc']
      exact hlane l hl
    · have hnone : applied = false := by
        rw [Bool.eq_false_iff]
        intro e
        obtain ⟨l, z, hl, hz⟩ := hopen.1 e
        rw [h l hl] at hz
        cases hz
      have hempty : LaneSet.nonempty late = false := by
        rw [Bool.eq_false_iff, Ne, hnonempty]
        rintro ⟨l, hl⟩
        obtain ⟨hl, e, he, -⟩ := (hdecided l).1 hl
        rw [h l hl] at he
        cases he
      rw [hgutter hnone hempty]
      exact ⟨rfl, rfl⟩
    · have hempty : LaneSet.nonempty late = false := by
        rw [Bool.eq_false_iff, Ne, hnonempty]
        rintro ⟨l, hl⟩
        obtain ⟨hl, e, he, hclosed⟩ := (hdecided l).1 hl
        exact Bool.noConfusion (hclosed.symm.trans (h' l e hl he))
      rw [happly (hopen.2 h) hempty]
      exact ⟨rfl, rfl⟩
    · have hsome : LaneSet.nonempty late = true := by
        obtain ⟨l, e, hl, he⟩ := h
        exact hnonempty.2 ⟨l, (hdecided l).2 ⟨hl, e, he⟩⟩
      have hdetail : (rowFate applied late).2 = laneMask late := by
        cases ha : applied
        · rw [← ha, hall ha hsome]
        · rw [← ha, hpart ha hsome]
      rw [hdetail]
      refine ⟨hmask, fun l => by rw [hbits, hdecided], fun ho => ?_, fun ho => ?_⟩
      · obtain ⟨l, e, hl, he, hopened⟩ := ho
        cases e with
        | undecided z => rw [hpart (hopen.2 ⟨l, z, hl, he⟩) hsome]
        | good _ | reject _ => cases hopened
      · have hnone : applied = false := by
          rw [Bool.eq_false_iff]
          intro e
          obtain ⟨l, z, hl, hz⟩ := hopen.1 e
          exact Bool.noConfusion ((ho l _ hl hz).symm.trans rfl)
        rw [hall hnone hsome]

end Sys2Proof.Machine
end

section
/-! SPAN notes and splices (R30, R31, R85 to R92, R96, R97). -/
namespace Sys2Proof.Machine

/-! ### Remainders (R88 to R91) -/

/-- A span joins the list in the order of the starts. -/
theorem insertSpan_inserted (p : PendingSpan) (q : List PendingSpan) :
    SpanInserted p q (insertSpan p q) := by
  induction q with
  | nil => exact ⟨[], [], rfl, rfl, nofun, nofun⟩
  | cons x q ih =>
    unfold insertSpan
    split
    next hx =>
      refine ⟨[], x :: q, rfl, rfl, nofun, fun y hy => ?_⟩
      cases hy
      exact hx
    next hx =>
      obtain ⟨a, b, hq, hq', ha, hb⟩ := ih
      refine ⟨x :: a, b, by rw [hq]; rfl, by rw [hq']; rfl, fun y hy => ?_, hb⟩
      obtain rfl | hy := List.mem_cons.1 hy
      · exact Bool.eq_false_iff.2 hx
      · exact ha y hy

/-- The span has a remainder exactly when it reaches beyond the newest row's cut point. -/
theorem remainderOf_cases (start stop : Count) (s : State) :
    ((∀ r, newestRow s = some r → beyond stop r.cut = true) ∧
      ∃ w, remainderOf start stop (newestRow s) = some ⟨w, stop⟩ ∧
        (newestRow s = none → w = start) ∧
        ∀ r, newestRow s = some r → w = if atOrBeyond start r.cut then start else r.cut) ∨
    (∃ r, newestRow s = some r ∧ beyond stop r.cut = false) ∧
      remainderOf start stop (newestRow s) = none := by
  rcases hr : newestRow s with _ | r
  · exact .inl ⟨fun r e => (nomatch e), start, rfl, fun _ => rfl, fun r e => (nomatch e)⟩
  · by_cases hb : beyond stop r.cut = true
    · refine .inl ⟨fun q e => ?_, if atOrBeyond start r.cut then start else r.cut, ?_, fun e => (nomatch e),
        fun q e => ?_⟩
      · cases e
        exact hb
      · simp only [remainderOf, hb, if_true]
      · cases e
        rfl
    · have hb := Bool.eq_false_iff.2 hb
      refine .inr ⟨⟨r, rfl, hb⟩, ?_⟩
      simp only [remainderOf, hb, Bool.false_eq_true, if_false]

/-- What the remainder of a span becomes, and what it leaves. -/
structure RemainderMade (start stop : Count) (mask : Lane → Prop) (s : State) (rem : Remainder) :
    Prop where
  held : rem = .held ↔ ((∀ r, newestRow s = some r → beyond stop r.cut = true) ∧ ∃ l, mask l) ∧
    s.ntp.spans.length < 32
  guarded : rem = .guarded ↔ ((∀ r, newestRow s = some r → beyond stop r.cut = true) ∧ ∃ l, mask l) ∧
    32 ≤ s.ntp.spans.length

theorem holdRemainder_taken {start stop : Count} {mask : LaneSet} {reason : SpanReason} {s u : State}
    (hu : u.ntp = s.ntp) :
    RemainderTaken start stop (fun l => mask.get l = true) reason s
      (holdRemainder (remainderOf start stop (newestRow s)) mask reason u).1 ∧
    RemainderMade start stop (fun l => mask.get l = true) s
      (holdRemainder (remainderOf start stop (newestRow s)) mask reason u).2 := by
  obtain ⟨hall, w, hw, hnone, hsome⟩ | ⟨⟨r, hr, hb⟩, hw⟩ := remainderOf_cases start stop s
  · rw [hw]
    by_cases hmask : LaneSet.nonempty mask = true
    · have hlane := (laneSet_nonempty_iff mask).1 hmask
      by_cases hroom : s.ntp.spans.length < 32
      · have he : holdRemainder (some ⟨w, stop⟩) mask reason u = (u.setNtp { u.ntp with
            spans := insertSpan ⟨w, stop, mask, reason⟩ u.ntp.spans }, .held) := by
          rw [holdRemainder, if_neg (by simp [hmask])]
          exact if_pos (by rw [hu]; exact hroom)
        rw [he]
        refine ⟨⟨fun _ _ _ => ⟨by simp [hu], ⟨w, stop, mask, reason⟩, ?_, rfl, rfl,
          fun l => Iff.rfl, hnone, hsome⟩, fun _ _ h => by omega, ?_⟩,
          ⟨iff_of_true rfl ⟨⟨hall, hlane⟩, hroom⟩, iff_of_false nofun fun h => by omega⟩⟩
        · show SpanInserted _ _ (insertSpan _ u.ntp.spans)
          rw [hu]
          exact insertSpan_inserted _ _
        · rintro (⟨r, hr, hb⟩ | hno)
          · rw [hall r hr] at hb
            cases hb
          · exact absurd hlane (fun ⟨l, hl⟩ => hno l hl)
      · have he : holdRemainder (some ⟨w, stop⟩) mask reason u = (u.setNtp { u.ntp with
            guardPoint := raiseGuard stop u.ntp.guardPoint }, .guarded) := by
          rw [holdRemainder, if_neg (by simp [hmask])]
          exact if_neg (by rw [hu]; exact hroom)
        rw [he]
        refine ⟨⟨fun _ _ h => absurd h hroom, fun _ _ _ => ⟨by simp [hu], fun hg => ?_,
          fun g hg => ?_⟩, ?_⟩, ⟨iff_of_false nofun fun h => hroom h.2,
            iff_of_true rfl ⟨⟨hall, hlane⟩, Nat.le_of_not_lt hroom⟩⟩⟩
        · show raiseGuard stop u.ntp.guardPoint = _
          rw [hu, hg]
          rfl
        · show raiseGuard stop u.ntp.guardPoint = _
          rw [hu, hg]
          unfold raiseGuard
          dsimp only
          split <;> rfl
        · rintro (⟨r, hr, hb⟩ | hno)
          · rw [hall r hr] at hb
            cases hb
          · exact absurd hlane (fun ⟨l, hl⟩ => hno l hl)
    · have hno : ¬∃ l, mask.get l = true := fun h => hmask ((laneSet_nonempty_iff mask).2 h)
      have he : holdRemainder (some ⟨w, stop⟩) mask reason u = (u, .none) := by
        rw [holdRemainder, if_pos (by simp [hmask])]
      rw [he]
      exact ⟨⟨fun _ h => absurd h hno, fun _ h => absurd h hno,
        fun _ => ⟨congrArg Ntp.spans hu, congrArg Ntp.guardPoint hu⟩⟩,
        ⟨iff_of_false nofun fun h => hno h.1.2, iff_of_false nofun fun h => hno h.1.2⟩⟩
  · rw [hw]
    have hnot : ¬∀ r, newestRow s = some r → beyond stop r.cut = true := fun h => by
      rw [h r hr] at hb
      cases hb
    exact ⟨⟨fun h => absurd h hnot, fun h => absurd h hnot,
      fun _ => ⟨congrArg Ntp.spans hu, congrArg Ntp.guardPoint hu⟩⟩,
      ⟨iff_of_false nofun fun h => hnot h.1.1, iff_of_false nofun fun h => hnot h.1.1⟩⟩

/-- A remainder changes the pending spans or the guard alone. -/
theorem holdRemainder_only (w : Option WebSpan) (mask : LaneSet) (reason : SpanReason) (u : State) :
    (holdRemainder w mask reason u).1 = { u with ntp := { u.ntp with
      spans := (holdRemainder w mask reason u).1.ntp.spans,
      guardPoint := (holdRemainder w mask reason u).1.ntp.guardPoint } } := by
  unfold holdRemainder
  repeat' split
  all_goals rfl

/-- A remainder is seen in the pending spans and the guard alone. -/
theorem remainderTaken_congr {start stop : Count} {mask : Lane → Prop} {reason : SpanReason}
    {s u t : State} (h : RemainderTaken start stop mask reason s u)
    (hspans : t.ntp.spans = u.ntp.spans) (hguard : t.ntp.guardPoint = u.ntp.guardPoint) :
    RemainderTaken start stop mask reason s t := by
  obtain ⟨hheld, hguarded, hwithout⟩ := h
  rw [← hspans, ← hguard] at hheld hguarded hwithout
  exact ⟨hheld, hguarded, hwithout⟩

theorem hitAlong_eq (start stop : Count) (r : Row) : hitAlong start stop r = rowHit start stop r := by
  unfold hitAlong overlaps rowHit
  rw [Bool.and_assoc]

/-! ### Splices (R30, R31, R96, R97) -/

/-- The splice span: its hits in every lane, and its remainder. -/
theorem applySplice_taken {start stop : Count} {s : State} (hne : start ≠ stop) (htrack : TrackInv s) :
    HitsTaken .splice (fun r _ => rowHit start stop r) s (applySplice start stop s) ∧
    RemainderTaken start stop (fun _ => True) .splice s (applySplice start stop s) := by
  have hhit : (fun r l => hitAlong start stop r && (reachIn .everyLane r.tag s).get l) =
      fun r (_ : Lane) => rowHit start stop r := by
    funext r l
    simp [reachIn, hitAlong_eq]
  obtain ⟨late, hvisits, -⟩ := visits_hits .splice (fun r _ => rowHit start stop r) htrack.nodup
  have happly := applyTracked_visits start stop .everyLane .splice s
  rw [hhit, hvisits] at happly
  unfold applySplice
  rw [if_neg hne, happly]
  dsimp only
  have htaken := hitsMade_taken .splice (fun r _ => rowHit start stop r) htrack.nodup
  obtain ⟨-, -, -, hntp, -⟩ := hitsMade_keeps .splice (fun r _ => rowHit start stop r) s
  generalize hitsMade .splice (fun r _ => rowHit start stop r) s = u at *
  have hrem := (holdRemainder_taken (start := start) (stop := stop) (mask := Lanes.fill true)
    (reason := .splice) hntp).1
  have honly := holdRemainder_only (remainderOf start stop (newestRow s)) (Lanes.fill true) .splice u
  refine ⟨hitsTaken_congr htaken ?_ ?_ ?_, ?_⟩
  · rw [honly]
  · rw [honly]
  · rw [honly]
  · have hmask : (fun l => (Lanes.fill true : LaneSet).get l = true) = fun _ => True := by
      funext l
      simp
    rwa [hmask] at hrem

/-- The blocks that a span leaves as they are. -/
def SpanKeeps (s t : State) : Prop := t.mkt = s.mkt ∧ t.knt = s.knt ∧ t.jbc = s.jbc ∧ t.rnc = s.rnc ∧
  t.tka = s.tka ∧ t.lnd = s.lnd

theorem applySplice_keeps (start stop : Count) (s : State) : SpanKeeps s (applySplice start stop s) := by
  have hlane : ∀ (x : Reason) (v : Row × Lane) (a : Collected),
      SpanKeeps a.state (visitLane v.1.number x a v.2).state := by
    intro x v a
    unfold visitLane SpanKeeps
    repeat' split
    all_goals simp
  have hvisits : ∀ (x : Reason) (p : List (Row × Lane)) (a : Collected),
      SpanKeeps a.state (p.foldl (fun a v => visitLane v.1.number x a v.2) a).state := by
    intro x p
    induction p with
    | nil => exact fun _ => ⟨rfl, rfl, rfl, rfl, rfl, rfl⟩
    | cons v p ih =>
      intro a
      have hp := ih (visitLane v.1.number x a v.2)
      have hv := hlane x v a
      unfold SpanKeeps at hp hv ⊢
      simp only [hv] at hp
      exact hp
  unfold applySplice
  split
  · exact ⟨rfl, rfl, rfl, rfl, rfl, rfl⟩
  · dsimp only
    rw [holdRemainder_only, applyTracked_visits]
    exact hvisits _ _ ⟨s, false, Lanes.fill false⟩

/-- An empty splice span leaves all as it is. -/
theorem applySplice_empty (q : Count) (s : State) : applySplice (retreat q 0) (advance q 0) s = s :=
  if_pos (by simp [retreat, advance])

theorem margins_ne {q : Count} {n : Nat} (h : 0 < n) (hn : n ≤ 65535) :
    q - BitVec.ofNat 32 n ≠ q + BitVec.ofNat 32 n := by
  intro e
  have e := congrArg BitVec.toNat e
  rw [BitVec.toNat_sub, BitVec.toNat_add, BitVec.toNat_ofNat] at e
  have := q.isLt
  omega

theorem reacquireTest_eq {s : State} {q : Count} (hq : s.mkt.reacquirePoint = some q) :
    reacquireTest s = if atOrBeyond s.trc.front q then { s with mkt := { s.mkt with
      reacquirePoint := none, state := reacquireState s.mkt.state } } else s := by
  simp only [reacquireTest, reacquireDue, hq]
  rfl

theorem reacquireTest_none {s : State} (h : s.mkt.reacquirePoint = none) : reacquireTest s = s := by
  simp [reacquireTest, reacquireDue, h]

/-- The tracker after it was handed a splice's point, in a state otherwise as before. -/
theorem handPoint_mkt (q : Count) (n : Nat) {s u : State} (hmkt : u.mkt = s.mkt) (htrc : u.trc = s.trc) :
    (handPoint q n u).mkt = (handPoint q n s).mkt := by
  unfold handPoint
  rw [hmkt]
  generalize takePoint q n s.mkt = k
  rcases hp : k.reacquirePoint with _ | p
  · rw [reacquireTest_none (s := u.setMkt k) hp, reacquireTest_none (s := s.setMkt k) hp]
    rfl
  · rw [reacquireTest_eq (s := u.setMkt k) hp, reacquireTest_eq (s := s.setMkt k) hp]
    have hfront : (u.setMkt k).trc.front = s.trc.front := congrArg Trc.front htrc
    rw [hfront]
    by_cases hf : atOrBeyond s.trc.front p = true
    · rw [if_pos hf, if_pos (by exact hf)]
      rfl
    · rw [if_neg hf, if_neg (by exact hf)]
      rfl

theorem handPoint_only (q : Count) (n : Nat) (u : State) :
    handPoint q n u = { u with mkt := (handPoint q n u).mkt } := by
  unfold handPoint reacquireTest
  split <;> rfl

/-- What a splice's point handed over leaves, by where the point lies and what is held. -/
theorem handPoint_cases (q : Count) (n : Nat) (s : State) :
    (before s.trc.front q = true → s.mkt.reacquirePoint = none → (handPoint q n s).mkt = { s.mkt with
      reacquirePoint := some q, exemption := some ⟨retreat q n, advance q n⟩ }) ∧
    (∀ p w, before s.trc.front q = true → s.mkt.reacquirePoint = some p → s.mkt.exemption = some w →
      beyond q p = true → (handPoint q n s).mkt = { s.mkt with
        reacquirePoint := some q, exemption := some ⟨w.start, advance q n⟩ }) ∧
    (∀ p, before s.trc.front p = true → s.mkt.reacquirePoint = some p → beyond q p = false →
      (handPoint q n s).mkt = s.mkt) ∧
    (atOrBeyond s.trc.front q = true → s.mkt.reacquirePoint = none →
      (handPoint q n s).mkt.reacquirePoint = none ∧
      (s.mkt.state = .locked → (handPoint q n s).mkt.state = .reacquire)) := by
  have hbefore : ∀ p : Count, before s.trc.front p = true → atOrBeyond s.trc.front p = false := by
    intro p hp
    simpa [before] using hp
  have hheld : ∀ k : Mkt, ∀ p, k.reacquirePoint = some p → atOrBeyond s.trc.front p = false →
      (reacquireTest (s.setMkt k)).mkt = k := by
    intro k p hp hfront
    rw [reacquireTest_eq (s := s.setMkt k) hp]
    simp [hfront]
  unfold handPoint
  refine ⟨fun hfront hnone => ?_, fun p w hfront hp hw hq => ?_, fun p hfront hp hq => ?_,
    fun hfront hnone => ?_⟩
  · rw [hheld _ q (by simp [takePoint, hnone]) (hbefore q hfront)]
    simp [takePoint, hnone]
  · rw [hheld _ q (by simp [takePoint, hp, hq]) (hbefore q hfront)]
    simp [takePoint, hp, hq, hw]
  · have htake : takePoint q n s.mkt = s.mkt := by simp [takePoint, hp, hq]
    rw [htake]
    exact hheld _ p hp (hbefore p hfront)
  · have htake : (s.setMkt (takePoint q n s.mkt)).mkt.reacquirePoint = some q := by
      simp [takePoint, hnone]
    rw [reacquireTest_eq htake, if_pos (by exact hfront)]
    refine ⟨rfl, fun h => ?_⟩
    simp [takePoint, hnone, h, reacquireState]

/-- Settles O30: the point's reaching, and a splice's span and point. -/
theorem splicePointsLeadToReacquire : Obligations.SplicePointsLeadToReacquire := by
  refine ⟨fun s q hq => ⟨fun hfront => ?reached, fun hfront => ?before⟩,
    fun s m hm => ⟨fun hoff => ?off, ?splice⟩⟩
  case reached =>
    have hexec : exec .reacquirePointReached s = .next { s with mkt := { s.mkt with
        reacquirePoint := none, state := reacquireState s.mkt.state } } := by
      show Host.Outcome.next (reacquireTest s) = _
      rw [reacquireTest_eq hq, if_pos hfront]
    refine ⟨?_, ?_⟩
    · rintro (h | h | h) <;> rw [hexec, h] <;> rfl
    · rintro (h | h) <;> rw [hexec] <;> simp [h, reacquireState]
  case before =>
    show Host.Outcome.next (reacquireTest s) = _
    rw [reacquireTest_eq hq, if_neg (by simpa [before] using hfront)]
  case off => simp [exec, execSplice, hoff]
  case splice =>
    rintro hrun q start stop rfl hmargin rfl rfl
    generalize hq : s.trc.front + BitVec.ofNat 32 m.dSplice = q
    generalize hu : applySplice (q - BitVec.ofNat 32 m.spliceMargin) (q + BitVec.ofNat 32 m.spliceMargin) s = u
    have hexec : exec .splice s = .next (handPoint q m.spliceMargin u) := by
      rw [← hu, ← hq]
      simp only [exec, execSplice, hm]
      cases hr : s.rnc.runState with
      | off => exact absurd hr hrun
      | ready | run | drain | halted => rfl
    have hreacts : ReactionFrame s u := by
      rw [← hu]
      exact applySplice_reacts _ _ s
    have hkeeps : SpanKeeps s u := by
      rw [← hu]
      exact applySplice_keeps _ _ s
    obtain ⟨hmkt, hknt, hjbc, hrnc, htka, hlnd⟩ := hkeeps
    have hpoint := handPoint_mkt q m.spliceMargin hmkt hreacts.trc
    obtain ⟨hheld, hmoved, hkept, hreached⟩ := handPoint_cases q m.spliceMargin s
    have honly := handPoint_only q m.spliceMargin u
    refine ⟨_, hexec, hreacts.trans (handPoint_reacts _ _ u), ?_⟩
    rw [hpoint]
    refine ⟨hheld, hmoved, hkept, hreached, fun hzero => ?_, fun hpos htrack => ?_, ?_⟩
    · have hsame : u = s := by
        rw [← hu, hzero]
        exact applySplice_empty q s
      rw [honly, hpoint, hsame]
    · obtain ⟨hhits, hrem⟩ := applySplice_taken (margins_ne hpos hmargin) htrack
      rw [hu] at hhits hrem
      rw [honly]
      exact ⟨hitsTaken_congr hhits rfl rfl rfl, remainderTaken_congr hrem rfl rfl⟩
    · rw [honly]
      exact ⟨hknt, hjbc, hrnc, htka, hlnd⟩

end Sys2Proof.Machine
end

section
/-! SPAN notes (R85 to R92). -/
namespace Sys2Proof.Machine

/-! ### What a SPAN note hits -/

theorem lanesHit_get (j : JobRecord) (x0 width : Nat) (l : Lane) :
    (j.lanesHit x0 width).get l = laneReached j x0 width l := by
  simp [JobRecord.lanesHit, laneReached, hitAcross, Bool.and_assoc]

/-- The entries that the visits of a span across the web reach are those it hits (R85). -/
theorem spanHit_eq (s : State) (start stop : Count) (x0 width : Nat) :
    (fun r l => hitAlong start stop r && (reachIn (.across x0 width) r.tag s).get l) =
      spanHit s start stop x0 width := by
  funext r l
  rw [hitAlong_eq, spanHit, reachIn]
  rcases contextOf r.tag s with _ | c
  · simp
  · simp [lanesHit_get]

theorem gonePart_iff (s : State) (start stop : Count) :
    gonePart start stop s.rot.track = true ↔ GonePart s start stop := by
  unfold gonePart GonePart
  rcases s.rot.track with _ | ⟨r, track⟩
  · simp
  · simp [overlaps]

theorem exec_spanNote_of_turn {s : State} {p : PageInWork} {rest : List NoteBurst} {wc : Count}
    {len x0 width : Nat} (h : NoteAtTurn s p rest)
    (hn : decodeNote s.pxm.memory p.noteBase = .inl (.span wc len x0 width)) :
    exec .spanNote s =
      .next (afterBurst (finishNote s p (spanOutcome s (.span wc len x0 width)))) := by
  have hstep := noteStep_of_turn spanOutcome h hn
  simp only [exec, execSpanNote]
  exact congrArg _ hstep

/-- The fate of a SPAN note is the first line of its table whose condition holds (R89). -/
theorem spanFate_is {guarded gone anyLate applied held : Prop} {rem : Remainder} {g a : Bool}
    {late : LaneSet} (hguarded : rem = .guarded ↔ guarded) (hheld : rem = .held ↔ held)
    (hgone : g = true ↔ gone) (happlied : a = true ↔ applied)
    (hlate : LaneSet.nonempty late = true ↔ anyLate) :
    spanFateIs guarded gone anyLate applied held (laneMask late) (spanFate rem g a late).1
      (spanFate rem g a late).2 := by
  rw [← hguarded, ← hheld, ← hgone, ← happlied, ← hlate]
  unfold spanFateIs spanFate
  cases rem <;> cases g <;> cases a <;> cases LaneSet.nonempty late <;> simp

/-- Settles O36: the hits of the span, its remainder and its fate. -/
theorem spanNoteMarksWhatItHits : Obligations.SpanNoteMarksWhatItHits := by
  intro s p rest wc len x0 width hturn hn
  have hexec := exec_spanNote_of_turn hturn hn
  refine ⟨fun hnone => ⟨_, hexec, ?_⟩, ?_⟩
  · simp only [spanOutcome, hnone]
    exact finishNote_same .noJob 0 hturn.1 hturn.2.2
  rintro c m start stop hc hm htrack rfl rfl
  generalize hstart : wc + BitVec.ofNat 32 m.dCam = start
  generalize hstop : start + BitVec.ofNat 32 len = stop
  obtain ⟨late, hvisits, hlate⟩ := visits_hits .defect (spanHit s start stop x0 width) htrack.nodup
  have happlied := visits_open (hit := spanHit s start stop x0 width) (track := s.rot.track)
  have htracked := applyTracked_visits start stop (.across x0 width) .defect s
  rw [spanHit_eq, hvisits] at htracked
  generalize ((visits (spanHit s start stop x0 width) s.rot.track).any fun v => openIn v.2 v.1) = applied
    at *
  have htaken := hitsMade_taken .defect (spanHit s start stop x0 width) htrack.nodup
  obtain ⟨htrc, hmkt, hknt, hntp, hlnd, htka, hjbc, hrnc, hmemory, hwaiting, hhalf⟩ :=
    hitsMade_keeps .defect (spanHit s start stop x0 width) s
  generalize hitsMade .defect (spanHit s start stop x0 width) s = u at *
  obtain ⟨hrem, hmade⟩ := holdRemainder_taken (start := start) (stop := stop)
    (mask := c.job.lanesHit x0 width) (reason := .defect) hntp
  have honly := holdRemainder_only (remainderOf start stop (newestRow s)) (c.job.lanesHit x0 width)
    .defect u
  have houtcome : spanOutcome s (.span wc len x0 width) =
      ((holdRemainder (remainderOf start stop (newestRow s)) (c.job.lanesHit x0 width) .defect u).1,
        spanFate (holdRemainder (remainderOf start stop (newestRow s)) (c.job.lanesHit x0 width)
          .defect u).2 (gonePart start stop s.rot.track) applied late) := by
    simp only [spanOutcome, hc, hm, applySpanNote, advance, hstart, hstop, htracked]
  rw [houtcome] at hexec
  generalize (holdRemainder (remainderOf start stop (newestRow s)) (c.job.lanesHit x0 width) .defect u).2
    = rem at *
  generalize (holdRemainder (remainderOf start stop (newestRow s)) (c.job.lanesHit x0 width) .defect u).1
    = w at *
  have hmask : (fun l => (c.job.lanesHit x0 width).get l = true) =
      fun l => laneReached c.job x0 width l = true := funext fun l => by rw [lanesHit_get]
  rw [hmask] at hrem hmade
  obtain ⟨⟨-, -, hwaits, hwork⟩, -, hidle⟩ := hturn
  generalize hfate : spanFate rem (gonePart start stop s.rot.track) applied late = fate at hexec
  obtain ⟨hdone, hend⟩ := finishNote_done (s := s) (p := p) (u := w) fate.1 fate.2
    (b := .noteRead) (rest := rest)
    (by rw [honly]; exact (congrArg Ntp.work hntp).trans hwork)
    (by rw [honly]; exact hwaiting.trans hwaits) (by rw [honly]; exact hhalf.trans hidle)
  obtain ⟨trc', mkt', rot', knt', lnd', skc', tka', jbc', rnc', rpw', memory', -, -, spans', guard'⟩ :=
    hend.blocks
  generalize afterBurst (finishNote s p (w, fate.1, fate.2)) = t at *
  obtain ⟨hbound, hbits⟩ := laneMask_bits late
  have hlanes : ∀ l, late.get l = true ↔ LateLane s start stop x0 width l := by
    intro l
    rw [hlate]
    constructor
    · rintro ⟨r, hr, hhit, hdecided⟩
      obtain ⟨e, he, hclosed⟩ := entryDecided_iff.1 hdecided
      refine ⟨r, e, ⟨hr, hhit⟩, he, fun z hz => ?_⟩
      rw [hz] at hclosed
      cases hclosed
    · rintro ⟨r, e, ⟨hr, hhit⟩, he, hne⟩
      refine ⟨r, hr, hhit, entryDecided_iff.2 ⟨e, he, ?_⟩⟩
      cases e with
      | undecided z => exact absurd rfl (hne z)
      | good _ | reject _ => rfl
  refine ⟨t, fate.1, fate.2, laneMask late, hexec, hdone, ?_, hbound, fun l => by rw [hbits, hlanes], ?_,
    remainderTaken_congr hrem spans' guard', ?_⟩
  · rw [← hfate]
    refine spanFate_is hmade.guarded hmade.held (gonePart_iff s start stop) ?_ ?_
    · rw [happlied]
      constructor
      · rintro ⟨r, l, hhit, ho⟩
        obtain ⟨z, hz⟩ := openIn_iff.1 ho
        exact ⟨r, l, z, hhit, hz⟩
      · rintro ⟨r, l, z, hhit, hz⟩
        exact ⟨r, l, hhit, openIn_iff.2 ⟨z, hz⟩⟩
    · rw [laneSet_nonempty_iff]
      exact exists_congr hlanes
  · exact hitsTaken_congr htaken (by rw [rot', honly]) (by rw [skc', honly]) (by rw [rpw', honly])
  · rw [mkt', knt', trc', jbc', rnc', tka', lnd', memory', honly]
    exact ⟨hmkt, hknt, htrc, hjbc, hrnc, htka, hlnd, hmemory⟩

end Sys2Proof.Machine
end

section
/-! Which commands can change the waiting ages (R129, R131, R134). -/
namespace Sys2Proof.Machine

/-- A lane waits at the age it had, or, having just joined, at age 0. -/
def AgesFrom (w : Conveyors (Lanes (Option Nat))) (t : State) : Prop :=
  ∀ d l a, (t.tka.waiting.get d).get l = some a → (w.get d).get l = some a ∨ a = 0

section
variable {w : Conveyors (Lanes (Option Nat))}

theorem AgesFrom.congr {s t : State} (h : AgesFrom w s) (e : t.tka.waiting = s.tka.waiting := by rfl) :
    AgesFrom w t := by
  unfold AgesFrom
  rw [e]
  exact h

theorem joinWaiting_agesFrom (l : Lane) {s : State} (h : AgesFrom w s) : AgesFrom w (joinWaiting l s) := by
  obtain e | ⟨m, -, -, -, e⟩ := joinWaiting_cases l s
  · rwa [e]
  · rw [e]
    intro d k a ha
    simp only [setWaiting, State.setTka_tka, Conveyors.get_set] at ha
    split at ha
    next hd =>
      subst hd
      rw [Lanes.get_set] at ha
      split at ha
      · exact .inr (Option.some.inj ha).symm
      · exact h _ _ _ ha
    next => exact h _ _ _ ha

theorem grant_ages {m : MachineRecord} (c : Conveyor) (l : Lane) {s : State} (h : AgesFrom w s) :
    AgesFrom w (grant m c l s) := by
  intro d k a ha
  have hwaiting : (grant m c l s).tka.waiting =
      s.tka.waiting.set c ((s.tka.waiting.get c).set l none) := by
    simp [grant, setConveyor, setWaiting]
  rw [hwaiting, Conveyors.get_set] at ha
  split at ha
  next hd =>
    subst hd
    rw [Lanes.get_set] at ha
    split at ha
    · cases ha
    · exact h _ _ _ ha
  next => exact h _ _ _ ha

theorem grantPass_ages {s : State} (h : AgesFrom w s) : AgesFrom w (grantPass s) := by
  have hturn : ∀ (c : Conveyor) (u : State), AgesFrom w u → AgesFrom w (grantTurn c u) := by
    intro c u hu
    obtain e | ⟨m, l, -, -, -, -, e⟩ := grantTurn_cases c u
    · rwa [e]
    · rw [e]
      exact grant_ages c l hu
  exact hturn .c1 _ (hturn .c0 s h)

/-- The departure of a FRONT lets its lane join, and a pass follow. -/
theorem departFront_agesFrom (l : Lane) {s : State} (h : AgesFrom w s) :
    AgesFrom w (departFront l s) := by
  have hshelf : ∀ u, AgesFrom w u → AgesFrom w (setShelfLimit l u) := fun u hu => hu.congr (by simp)
  unfold departFront
  dsimp only
  generalize hu : (if shelfTotal (s.skc.get l).line.tail < shelfTotal (s.skc.get l).line then _ else _) = u
  have hu' : AgesFrom w u := by
    rw [← hu]
    split
    · exact hshelf _ h.congr
    · exact h.congr
  split
  · exact grantPass_ages (joinWaiting_agesFrom l hu')
  · exact hu'

theorem queueRecord_ages (r : Record) {s : State} (h : AgesFrom w s) : AgesFrom w (queueRecord r s) :=
  h.congr (by simp)

/-- But for the aging tick, no act of the part changes the age of a lane that waits. -/
theorem agesFrom_kept : KeptUnaged (AgesFrom w) where
  choices s n h := h.congr
  attention s x h := h.congr
  otherRecord s r _ h := queueRecord_ages r h
  grantPass s h := grantPass_ages h
  shortClose s k l h := by
    obtain e | ⟨x, -, -, e⟩ := shortClose_cases k l s
    · rwa [e]
    · rw [e]
      exact joinWaiting_agesFrom l h.congr
  closePending s x h := h.congr
  stopDone s l h := h.congr
  freePrevious s c _ h := h.congr (by simp)
  emptyTrack s h := h.congr
  ended s _ _ h := h.congr (by simp)
  changeRow s n f _ h := h.congr
  rejectFlap s l h := h.congr
  tally s t r h := h.congr (congrArg Tka.waiting (by simp))
  passGood s u m l r id _ _ hp h := by
    obtain ⟨x, rfl⟩ := placeFor_keeps _ _ _ _ _ hp
    exact h.congr
  resolve s l b a rest _ h := joinWaiting_agesFrom l h.congr
  markStacks s l q _ h := h.congr
  fire s gap r _ h := h.congr
  halt s e f h := h.congr (by simp)
  endStroke s c t bad n _ _ _ h := h.congr
  stallFault s _ h := by
    unfold stallFault
    split
    · exact h.congr (by simp)
    · exact h
  reassert s _ h := h.congr
  tracker s k _ h := h.congr
  travel s x _ h := h.congr
  overflow s x h := h.congr
  refused s _ h := h.congr
  row s c m q next room _ _ _ _ h := h.congr
  spans s q g _ h := h.congr
  departed s c l n x b _ _ h := by
    refine AgesFrom.congr (s := departFront l (handOver l b s)) (departFront_agesFrom l (h.congr ?_))
    unfold handOver
    split <;> simp
  recorded s b x h := h.congr
  stopBegun s _ h := h.congr (by simp [stopBegun])
  acknowledged s _ _ h := h.congr (by simp [faultCleared])
  sampled s h := h.congr (by simp)
  holds s lanes v h := h.congr
  targets s j lanes n _ _ h := h.congr
  freed s c _ h := h.congr
  firstJob s m slot _ _ _ h := h.congr (by simp [withFirstJob])
  nextJob s m slot _ _ _ h := h.congr (by simp [withNextJob])
  blocks s t e h := h.congr (by rw [e.tka])
  written s r rest age _ h := by
    unfold releaseFor
    split
    · exact grantPass_ages h.congr
    · exact h.congr
  started s r h := by
    obtain ⟨-, -, -, -, htka, -⟩ := startPart_blocks r s
    intro d l a ha
    rw [htka] at ha
    cases d <;> cases l <;> cases ha
  powerOn s := fun d l a ha => by cases d <;> cases l <;> cases ha
  restarted s _ := fun d l a ha => by cases d <;> cases l <;> cases ha

end

/-- But for an aging tick, a lane that waits after a command waits at the age it had, or has just joined. -/
theorem exec_ages {c : Instr} {s t : State} (e : exec c s = .next t) (hc : c ≠ .agingTick) :
    AgesFrom s.tka.waiting t :=
  agesFrom_kept.exec_keeps c s t e hc fun _ _ _ ha => .inl ha

end Sys2Proof.Machine
end

section
/-! What moves the memory and the tear latch, and what the other settings are held by (R168, R170, R171). -/
namespace Sys2Proof.Machine

/-! ### Memory -/

/-- A write waits for the memory, or a half state access is due: either writes when its turn comes. -/
def Late (s : State) : Prop :=
  s.rpw.halfWork ≠ [] ∨ ∃ a w, PressAccess.write a w ∈ s.pxm.waiting

/-- Memory stands, unless a late writer had its turn; and none has come. -/
structure MemoryMoved (s t : State) : Prop where
  memory : t.pxm.memory = s.pxm.memory ∨ Late s
  late : Late t → Late s

/-- A read waits for the memory. -/
def ReadWaits (s : State) : Prop := ∃ a, PressAccess.read a ∈ s.pxm.waiting

/-- The tear latch stands, unless a waiting read had its turn; and none has come. -/
structure LatchMoved (s t : State) : Prop where
  latch : t.pxm.tearLatch = s.pxm.tearLatch ∨ ReadWaits s
  reads : ReadWaits t → ReadWaits s

theorem MemoryMoved.refl (s : State) : MemoryMoved s s := ⟨.inl rfl, id⟩

theorem MemoryMoved.trans {s t u : State} (h : MemoryMoved s t) (k : MemoryMoved t u) :
    MemoryMoved s u := by
  refine ⟨?_, fun hu => h.late (k.late hu)⟩
  obtain ek | hk := k.memory
  · obtain eh | hh := h.memory
    · exact .inl (ek.trans eh)
    · exact .inr hh
  · exact .inr (h.late hk)

theorem LatchMoved.refl (s : State) : LatchMoved s s := ⟨.inl rfl, id⟩

theorem LatchMoved.trans {s t u : State} (h : LatchMoved s t) (k : LatchMoved t u) :
    LatchMoved s u := by
  refine ⟨?_, fun hu => h.reads (k.reads hu)⟩
  obtain ek | hk := k.latch
  · obtain eh | hh := h.latch
    · exact .inl (ek.trans eh)
    · exact .inr hh
  · exact .inr (h.reads hk)

theorem MemoryMoved.of_eq {s t : State} (hm : t.pxm.memory = s.pxm.memory)
    (hw : t.pxm.waiting = s.pxm.waiting) (hh : t.rpw.halfWork = s.rpw.halfWork) : MemoryMoved s t :=
  ⟨.inl hm, by unfold Late; rw [hw, hh]; exact id⟩

/-- Where a late writer stands already, anything may follow. -/
theorem MemoryMoved.of_late {s t : State} (h : Late s) : MemoryMoved s t := ⟨.inr h, fun _ => h⟩

theorem LatchMoved.of_eq {s t : State} (hl : t.pxm.tearLatch = s.pxm.tearLatch)
    (hw : t.pxm.waiting = s.pxm.waiting) : LatchMoved s t :=
  ⟨.inl hl, by unfold ReadWaits; rw [hw]; exact id⟩

/-! ### The memory's own events -/

theorem takeHalf_latch (k : Half) (s : State) : LatchMoved s (takeHalf k s) :=
  .of_eq (by simp [takeHalf]) (by simp [takeHalf])

/-- A read moves the latch alone. -/
theorem serveAccess_read (a : BitVec 12) (s : State) :
    (serveAccess (.read a) s).pxm.memory = s.pxm.memory ∧
    (serveAccess (.read a) s).pxm.waiting = s.pxm.waiting ∧
    (serveAccess (.read a) s).rpw = s.rpw := ⟨rfl, rfl, rfl⟩

/-- A write leaves the latch. -/
theorem serveAccess_write (a : BitVec 12) (w : Word) (s : State) :
    (serveAccess (.write a w) s).pxm.tearLatch = s.pxm.tearLatch ∧
    (serveAccess (.write a w) s).pxm.waiting = s.pxm.waiting := by
  have hstored := storeWord_keeps (byteAddress a) w s
  simp only [serveAccess, pressWrite]
  split
  · unfold pagePostedAct takePage
    repeat' split
    all_goals simp
  · unfold halfFreedAct
    split
    · simp [takeHalf]
    · simp
  · simp

theorem serveAccess_latch (a : BitVec 12) (w : Word) (s : State) :
    LatchMoved s (serveAccess (.write a w) s) :=
  .of_eq (serveAccess_write a w s).1 (serveAccess_write a w s).2

theorem serveAccess_memory (a : BitVec 12) (s : State) :
    MemoryMoved s (serveAccess (.read a) s) := .of_eq rfl rfl rfl

/-- Reads alone, served, leave the memory. -/
theorem foldl_serve_reads {q : List PressAccess} (hq : ∀ a w, PressAccess.write a w ∉ q) (s : State) :
    MemoryMoved s (q.foldl (fun u x => serveAccess x u) s) := by
  induction q generalizing s with
  | nil => exact .refl s
  | cons x q ih =>
    have hrest := fun u => ih (fun a w h => hq a w (List.mem_cons_of_mem _ h)) u
    cases x with
    | read a => exact (serveAccess_memory a s).trans (hrest _)
    | write a w => exact absurd List.mem_cons_self (hq a w)

/-- Writes alone, served, leave the latch. -/
theorem foldl_serve_writes {q : List PressAccess} (hq : ∀ a, PressAccess.read a ∉ q) (s : State) :
    LatchMoved s (q.foldl (fun u x => serveAccess x u) s) := by
  induction q generalizing s with
  | nil => exact .refl s
  | cons x q ih =>
    have hrest := fun u => ih (fun a h => hq a (List.mem_cons_of_mem _ h)) u
    cases x with
    | read a => exact absurd List.mem_cons_self (hq a)
    | write a w => exact (serveAccess_latch a w s).trans (hrest _)

theorem serveWaiting_memory (s : State) : MemoryMoved s (serveWaiting s) := by
  have hemptied : MemoryMoved s (s.setPxm { s.pxm with waiting := [] }) :=
    ⟨.inl rfl, fun h => h.elim .inl fun ⟨_, _, hx⟩ => nomatch hx⟩
  by_cases hw : ∃ a w, PressAccess.write a w ∈ s.pxm.waiting
  · exact .of_late (.inr hw)
  · exact hemptied.trans (foldl_serve_reads (fun a w h => hw ⟨a, w, h⟩) _)

theorem serveWaiting_latch (s : State) : LatchMoved s (serveWaiting s) := by
  have hemptied : LatchMoved s (s.setPxm { s.pxm with waiting := [] }) :=
    ⟨.inl rfl, fun ⟨_, hx⟩ => nomatch hx⟩
  by_cases hr : ReadWaits s
  · exact ⟨.inr hr, fun _ => hr⟩
  · exact hemptied.trans (foldl_serve_writes (fun a h => hr ⟨a, h⟩) _)

theorem beginNext_memory (s : State) : MemoryMoved s (beginNext s) := by
  by_cases hh : s.rpw.halfWork = []
  · rw [beginNext_none s hh]
    exact .refl s
  · exact .of_late (.inl hh)

theorem halfAccess_latch (x : HalfAccess) (rest : List HalfAccess) (s : State) :
    LatchMoved s (halfAccess x rest s) := by
  cases x with
  | writeClosed h => exact .of_eq (by simp [halfAccess]) (by simp [halfAccess])
  | writeFilling h => exact .of_eq (by simp [halfAccess]) (by simp [halfAccess])
  | look h =>
    simp only [halfAccess]
    split
    · exact LatchMoved.trans (.of_eq (by simp) (by simp)) (takeHalf_latch _ _)
    · exact .of_eq (by simp) (by simp)

theorem beginNext_latch (s : State) : LatchMoved s (beginNext s) := by
  unfold beginNext
  repeat' split
  all_goals first
    | exact .refl s
    | exact halfAccess_latch _ _ s

theorem endBurst_port (s : State) : (endBurst s).pxm.memory = s.pxm.memory ∧
    (endBurst s).pxm.waiting = s.pxm.waiting ∧ (endBurst s).pxm.tearLatch = s.pxm.tearLatch ∧
    (endBurst s).rpw.halfWork = s.rpw.halfWork := by
  unfold endBurst
  repeat' split
  all_goals simp

/-! ### Memory settled and freed -/

/-- Both the memory and the latch moved as waiting accesses and half state accesses allow. -/
structure PortMoved (s t : State) : Prop extends MemoryMoved s t, LatchMoved s t

theorem PortMoved.refl (s : State) : PortMoved s s := ⟨.refl s, .refl s⟩

theorem PortMoved.trans {s t u : State} (h : PortMoved s t) (k : PortMoved t u) : PortMoved s u :=
  ⟨h.toMemoryMoved.trans k.toMemoryMoved, h.toLatchMoved.trans k.toLatchMoved⟩

theorem afterBurst_port (s : State) : PortMoved s (afterBurst s) :=
  ⟨(serveWaiting_memory s).trans (beginNext_memory _), (serveWaiting_latch s).trans (beginNext_latch _)⟩

theorem settleMemory_port (s : State) : PortMoved s (settleMemory s) := by
  obtain ⟨hm, hw, hl, hh⟩ := endBurst_port s
  unfold settleMemory
  split
  · exact .refl s
  · exact PortMoved.trans ⟨.of_eq hm hw hh, .of_eq hl hw⟩ (afterBurst_port _)

theorem freeMemory_port (s : State) : PortMoved s (freeMemory s) := by
  have h : ∀ n u, PortMoved u (settleBursts n u) := by
    intro n
    induction n with
    | zero => exact fun u => .refl u
    | succ n ih =>
      intro u
      unfold settleBursts
      split
      · exact (settleMemory_port u).trans (ih _)
      · exact .refl u
  exact (settleMemory_port s).trans (h _ _)

/-! ### The settings of the other blocks -/

/-- The travel, the holds, the horizon, the machine record and the enables stand. -/
structure DialsHeld (s t : State) : Prop where
  trc : t.trc = s.trc
  hold : ∀ l, (t.skc.get l).hold = (s.skc.get l).hold
  horizon : t.ntp.horizon = s.ntp.horizon
  record : t.rnc.record = s.rnc.record
  mask : t.pxm.mask = s.pxm.mask

theorem DialsHeld.refl (s : State) : DialsHeld s s := by constructor <;> intros <;> rfl

theorem DialsHeld.trans {s t u : State} (h : DialsHeld s t) (k : DialsHeld t u) : DialsHeld s u :=
  ⟨k.trc.trans h.trc, fun l => (k.hold l).trans (h.hold l), k.horizon.trans h.horizon,
    k.record.trans h.record, k.mask.trans h.mask⟩

theorem MemoryFrame.dials {s t : State} (h : MemoryFrame s t) : DialsHeld s t := by
  obtain ⟨w, hw⟩ := h.ntp
  exact ⟨h.trc, fun l => by rw [h.skc], by rw [hw], by rw [h.rnc], h.mask⟩

theorem ReactionFrame.dials {s t : State} (h : ReactionFrame s t) : DialsHeld s t :=
  ⟨h.trc, h.hold, h.horizon, h.record, h.mask⟩

theorem ReactionFrame.port {s t : State} (h : ReactionFrame s t) : PortMoved s t :=
  ⟨.of_eq h.memory h.waiting h.halfWork, .of_eq h.tearLatch h.waiting⟩

theorem NoteFrame.port {s t : State} (h : NoteFrame s t) : PortMoved s t :=
  ⟨.of_eq h.memory h.waiting h.halfWork, .of_eq h.tearLatch h.waiting⟩

/-- What a note leaves but the holds. -/
theorem NoteFrame.dials {s t : State} (h : NoteFrame s t)
    (hold : ∀ l, (t.skc.get l).hold = (s.skc.get l).hold) : DialsHeld s t :=
  ⟨h.trc, hold, h.horizon, h.record, h.mask⟩

/-- Every setting held, memory and latch moved as the waiting accesses allow. -/
structure SettingsHeld (s t : State) : Prop extends DialsHeld s t, PortMoved s t

theorem SettingsHeld.refl (s : State) : SettingsHeld s s := ⟨.refl s, .refl s⟩

theorem SettingsHeld.trans {s t u : State} (h : SettingsHeld s t) (k : SettingsHeld t u) :
    SettingsHeld s u :=
  ⟨h.toDialsHeld.trans k.toDialsHeld, h.toPortMoved.trans k.toPortMoved⟩

theorem ReactionFrame.settings {s t : State} (h : ReactionFrame s t) : SettingsHeld s t :=
  ⟨h.dials, h.port⟩

theorem freeMemory_settings (s : State) : SettingsHeld s (freeMemory s) :=
  ⟨(freeMemory_memoryFrame s).dials, freeMemory_port s⟩

theorem afterBurst_settings (s : State) : SettingsHeld s (afterBurst s) :=
  ⟨(afterBurst_memoryFrame s).dials, afterBurst_port s⟩

theorem settleMemory_settings (s : State) : SettingsHeld s (settleMemory s) :=
  ⟨(settleMemory_memoryFrame s).dials, settleMemory_port s⟩

end Sys2Proof.Machine
end

section
/-! Every command by the settings it can change. -/
namespace Sys2Proof.Machine

/-! ### Steps that hold every setting -/

/-- A step that leaves the travel, the Stack Controller, the Report Writer's half and the named parts of the
port as they stand holds every setting. -/
theorem SettingsHeld.of_eq {s t : State} (trc : t.trc = s.trc := by simp) (skc : t.skc = s.skc := by simp)
    (horizon : t.ntp.horizon = s.ntp.horizon := by simp) (record : t.rnc.record = s.rnc.record := by simp)
    (mask : t.pxm.mask = s.pxm.mask := by simp) (memory : t.pxm.memory = s.pxm.memory := by simp)
    (waiting : t.pxm.waiting = s.pxm.waiting := by simp)
    (halfWork : t.rpw.halfWork = s.rpw.halfWork := by simp)
    (latch : t.pxm.tearLatch = s.pxm.tearLatch := by simp) : SettingsHeld s t :=
  ⟨⟨trc, fun l => by rw [skc], horizon, record, mask⟩, .of_eq memory waiting halfWork,
    .of_eq latch waiting⟩

/-- A step of the Note Processor that leaves the blocks holds every setting. -/
theorem NoteFrame.settings {s t : State} (h : NoteFrame s t) (b : BlocksKept s t) : SettingsHeld s t :=
  ⟨h.dials fun l => by rw [b.skc], h.port⟩

theorem recordCommand_settings (b : Byte) (r : CommandResult) (s : State) :
    SettingsHeld s (recordCommand b r s) := .of_eq

theorem popRequest_settings (s : State) : SettingsHeld s (popRequest s) := .of_eq

theorem requestBurst_settings (b : BurstSource) (s : State) : SettingsHeld s (requestBurst b s) := .of_eq

theorem finishNote_settings (b : State) (p : PageInWork) (s : State) (f : Fate × Nat) :
    SettingsHeld s (finishNote b p (s, f)) :=
  (finishNote_note b p s f).settings (finishNote_blocksKept b p s f)

theorem finishLate_settings (b : State) (p : Page) (i : Nat) (s : State) (f : Fate × Nat) :
    SettingsHeld s (finishLate b p i (s, f)) :=
  (finishLate_note b p i s f).settings (finishLate_blocksKept b p i s f)

theorem serveRead_settings (w : List NoteBurst) (s : State) : SettingsHeld s (serveRead w s) :=
  (serveRead_note w s).settings (serveRead_blocksKept w s)

/-! ### The run commands -/

theorem commandStop_settings (s : State) : SettingsHeld s (commandStop s) := by
  have hdrain : ∀ u, SettingsHeld u (stopPart u) := by
    intro u
    unfold stopPart
    dsimp only
    refine SettingsHeld.trans ?_ (endTest_reacts _).settings
    refine SettingsHeld.trans ?_ (stopCloses_reacts _).settings
    refine ((setRunState_reacts .drain u).trans (fireTest_reacts false _)).settings.trans ?_
    exact .of_eq
  unfold commandStop
  split
  · exact (recordCommand_settings _ _ s).trans (hdrain _)
  all_goals exact recordCommand_settings _ _ s

theorem commandAbort_settings (s : State) : SettingsHeld s (commandAbort s) := by
  unfold commandAbort
  split
  case h_1 | h_2 =>
    exact (recordCommand_settings _ _ s).trans
      ((abandonRun_reacts _ _).trans (setRunState_reacts _ _)).settings
  all_goals exact recordCommand_settings _ _ s

theorem acknowledge_settings (s : State) : SettingsHeld s (acknowledge s) := by
  unfold acknowledge
  dsimp only
  refine SettingsHeld.trans ?_ (setRunState_reacts .ready _).settings
  exact (abandonRun_reacts .shortFault s).settings.trans .of_eq

theorem commandAckFault_settings (s : State) : SettingsHeld s (commandAckFault s) := by
  unfold commandAckFault
  split
  · split
    · exact (recordCommand_settings _ _ s).trans (acknowledge_settings _)
    · exact recordCommand_settings _ _ s
  all_goals exact recordCommand_settings _ _ s

/-- A write to CONTROL that spells neither START nor RESTART holds every setting. -/
theorem controlWrite_settings {w : Word} (s : State) (hstart : spelled (.badCode w) ≠ .start)
    (hrestart : spelled (.badCode w) ≠ .restart) : SettingsHeld s (controlWrite w s) := by
  unfold controlWrite
  split <;> rename_i hcode
  · exact absurd (by simp only [spelled, hcode]) hstart
  · exact commandStop_settings s
  · exact commandAbort_settings s
  · exact commandAckFault_settings s
  · exact absurd (by simp only [spelled, hcode]) hrestart
  · exact recordCommand_settings _ _ s

/-! ### START -/

/-- What START holds: W, the sampled values and the enables, the memory and the latch. -/
structure StartHolds (s t : State) : Prop extends PortMoved s t where
  web : t.trc.web = s.trc.web
  speed : t.trc.speed = s.trc.speed
  standstill : t.trc.standstill = s.trc.standstill
  previousSample : t.trc.previousSample = s.trc.previousSample
  mask : t.pxm.mask = s.pxm.mask

theorem StartHolds.trans {s t u : State} (h : StartHolds s t) (k : StartHolds t u) : StartHolds s u :=
  ⟨h.toPortMoved.trans k.toPortMoved, k.web.trans h.web, k.speed.trans h.speed,
    k.standstill.trans h.standstill, k.previousSample.trans h.previousSample, k.mask.trans h.mask⟩

theorem SettingsHeld.starts {s t : State} (h : SettingsHeld s t) : StartHolds s t :=
  ⟨h.toPortMoved, by rw [h.trc], by rw [h.trc], by rw [h.trc], by rw [h.trc], h.mask⟩

theorem startPart_holds (r : MachineRecord) (s : State) : StartHolds s (startPart r s) := by
  obtain ⟨hmemory, hmask, hlatch, hwaiting⟩ := startPart_port r s
  obtain ⟨-, -, -, -, -, -, hrpw, -⟩ := startPart_blocks r s
  have htrc := startPart_trc r s
  exact ⟨⟨.of_eq hmemory hwaiting (by rw [hrpw]), .of_eq hlatch hwaiting⟩, by rw [htrc]; rfl,
    by rw [htrc]; rfl, by rw [htrc]; rfl, by rw [htrc]; rfl, hmask⟩

theorem startEvent_holds (s : State) : StartHolds s (startEvent s) := by
  unfold startEvent
  split
  case h_1 | h_2 => exact (recordCommand_settings _ _ s).starts.trans (startPart_holds _ _)
  all_goals exact (recordCommand_settings _ _ s).starts

theorem commandStart_holds (s : State) : StartHolds s (commandStart s) := by
  have hreq : SettingsHeld s
      (requestBurst .machine (if s.pxm.burst.isSome then s else settleMemory s)) := by
    refine SettingsHeld.trans ?_ (requestBurst_settings .machine _)
    split
    · exact .refl s
    · exact settleMemory_settings s
  unfold commandStart
  dsimp only
  generalize requestBurst .machine (if s.pxm.burst.isSome then s else settleMemory s) = u at hreq ⊢
  split
  · exact (hreq.trans ((freeMemory_settings u).trans (popRequest_settings _))).starts.trans
      ((startEvent_holds _).trans (afterBurst_settings _).starts)
  · exact hreq.starts

/-! ### Notes -/

/-- A note's step moves what its outcome moves: `R` is a preorder that lets through what holds every
setting. -/
theorem noteStep_rel {R : State → State → Prop} (hset : ∀ {s t}, SettingsHeld s t → R s t)
    (htrans : ∀ {s t u}, R s t → R t u → R s u) (k : NoteKind) (f : State → Note → State × Fate × Nat)
    (s : State) (h : ∀ u n, R u (f u n).1) : R s (noteStep k f s) := by
  unfold noteStep
  dsimp only
  split
  next p _ _ =>
    split
    · refine htrans (hset (freeMemory_settings s)) (htrans ?_ (hset (afterBurst_settings _)))
      unfold noteEvent
      split
      · exact hset (finishNote_settings _ _ _ _)
      · exact htrans (h _ _) (hset (finishNote_settings _ _ _ _))
    · exact hset (.refl s)
  · split
    · exact hset ((freeMemory_settings s).trans
        ((finishLate_settings _ _ _ _ _).trans (afterBurst_settings _)))
    · exact hset (.refl s)
  · exact hset (.refl s)

theorem jobNoteRead_settings (b : Nat) (f : State × Fate × Nat → State) (k : Nat → NoteBurst) (s : State)
    (hf : ∀ o, SettingsHeld s (f (s, o))) : SettingsHeld s (jobNoteRead b f k s) := by
  unfold jobNoteRead
  repeat' split
  · exact hf _
  · exact serveRead_settings _ s
  · exact serveRead_settings _ s
  · exact .refl s
  · exact hf _

theorem jobNoteStep_settings (s : State) : SettingsHeld s (jobNoteStep s) := by
  have hevent : ∀ u, SettingsHeld (freeMemory s) u → SettingsHeld s (afterBurst u) := fun u hu =>
    (freeMemory_settings s).trans (hu.trans (afterBurst_settings u))
  unfold jobNoteStep
  dsimp only
  split
  · split
    · exact hevent _ (jobNoteRead_settings _ _ _ _ (finishNote_settings _ _ _))
    · exact .refl s
  · exact hevent _ ((jobOutcome_reacts _ _).settings.trans (finishNote_settings _ _ _ _))
  · split
    · exact hevent _ (jobNoteRead_settings _ _ _ _ (finishLate_settings _ _ _ _))
    · exact .refl s
  · exact hevent _ ((jobOutcome_reacts _ _).settings.trans (finishLate_settings _ _ _ _ _))
  · exact .refl s

/-- A note that is no LANE note holds every setting. -/
theorem exec_note_settings {c : Instr} {s t : State} (hc : Instr.isNote c = true) (hl : c ≠ .laneNote)
    (e : exec c s = .next t) : SettingsHeld s t := by
  have hstep := fun k f h => noteStep_rel (R := SettingsHeld) id SettingsHeld.trans k f s h
  cases c <;> first | (cases hc; done) | (cases e)
  case spanNote => exact hstep _ _ fun u n => (spanOutcome_reacts u n).settings
  case rowNote => exact hstep _ _ fun u n => (rowOutcome_reacts u n).settings
  case laneNote => exact absurd rfl hl
  case conveyorNote => exact hstep _ _ fun u n => (conveyorOutcome_reacts u n).settings
  case badNote => exact hstep _ _ fun u _ => .refl u
  case jobNote => exact jobNoteStep_settings s

/-- What a LANE note holds: every setting but the hold flags. -/
structure LaneHolds (s t : State) : Prop extends PortMoved s t where
  trc : t.trc = s.trc
  horizon : t.ntp.horizon = s.ntp.horizon
  record : t.rnc.record = s.rnc.record
  mask : t.pxm.mask = s.pxm.mask

theorem LaneHolds.trans {s t u : State} (h : LaneHolds s t) (k : LaneHolds t u) : LaneHolds s u :=
  ⟨h.toPortMoved.trans k.toPortMoved, k.trc.trans h.trc, k.horizon.trans h.horizon,
    k.record.trans h.record, k.mask.trans h.mask⟩

theorem laneNote_holds (s : State) : LaneHolds s (noteStep .lane laneOutcome s) := by
  have hset : ∀ {u t : State}, SettingsHeld u t → LaneHolds u t := fun h =>
    ⟨h.toPortMoved, h.trc, h.horizon, h.record, h.mask⟩
  refine noteStep_rel hset LaneHolds.trans .lane laneOutcome s fun u n => ?_
  have h := laneOutcome_note u n
  exact ⟨h.port, h.trc, h.horizon, h.record, h.mask⟩

/-! ### Counts and mark edges -/

theorem reverseTest_settings (s : State) : ∃ x, SettingsHeld (s.setTrc x) (reverseTest s) ∧
    x.web = s.trc.web ∧ x.front = s.trc.front ∧ x.speed = s.trc.speed ∧ x.standstill = s.trc.standstill ∧
    x.previousSample = s.trc.previousSample ∧ x.zone = s.trc.zone := by
  unfold reverseTest
  split
  · split
    · exact ⟨_, (raiseHalting_reacts _ _ _).settings, rfl, rfl, rfl, rfl, rfl, rfl⟩
    · exact ⟨s.trc, .refl s, rfl, rfl, rfl, rfl, rfl, rfl⟩
  · exact ⟨s.trc, .refl s, rfl, rfl, rfl, rfl, rfl, rfl⟩

theorem encoderError_settings (s : State) : ∃ x, SettingsHeld (s.setTrc x) (encoderError s) ∧
    x.web = s.trc.web ∧ x.front = s.trc.front ∧ x.speed = s.trc.speed ∧ x.standstill = s.trc.standstill ∧
    x.previousSample = s.trc.previousSample ∧ x.zone = s.trc.zone := by
  unfold encoderError
  split
  · split
    · exact ⟨_, (haltPart_reacts _ _ _).settings, rfl, rfl, rfl, rfl, rfl, rfl⟩
    · exact ⟨s.trc, .refl s, rfl, rfl, rfl, rfl, rfl, rfl⟩
  · exact ⟨s.trc, .refl s, rfl, rfl, rfl, rfl, rfl, rfl⟩

theorem markEdge_settings {s t : State} (e : execMarkEdge s = .next t) : SettingsHeld s t := by
  unfold execMarkEdge at e
  dsimp only at e
  repeat' split at e
  all_goals
    cases e
    exact .of_eq

theorem markFall_settings {s t : State} (e : execMarkFall s = .next t) : SettingsHeld s t := by
  unfold execMarkFall at e
  dsimp only at e
  split at e <;> cases e
  · exact .of_eq
  · exact SettingsHeld.trans .of_eq (coastTest_reacts _).settings

/-! ### The timers -/

theorem agingTick_settings {s t : State} (e : execAgingTick s = .next t) : SettingsHeld s t := by
  unfold execAgingTick at e
  split at e <;> cases e
  · exact .refl s
  · exact SettingsHeld.trans .of_eq (grantPass_reacts _).settings

theorem refreshTimer_settings {s t : State} (e : execRefreshTimerExpiry s = .next t) :
    SettingsHeld s t := by
  unfold execRefreshTimerExpiry at e
  split at e <;> cases e
  · exact .refl s
  · refine SettingsHeld.trans ?_ (requestBurst_settings _ _)
    split
    · exact settleMemory_settings s
    · exact .refl s

theorem pageStateCheck_settings {s t : State} (e : execPageStateCheck s = .next t) :
    SettingsHeld s t := by
  unfold execPageStateCheck at e
  dsimp only at e
  split at e <;> cases e
  · refine (freeMemory_settings s).trans (SettingsHeld.trans ?_ (afterBurst_settings _))
    have hread := serveRead_settings (freeMemory s).ntp.work.tail (freeMemory s)
    unfold checkPage takePage
    dsimp only
    repeat' split
    · exact hread
    · exact hread.trans .of_eq
    · exact hread
  · exact .refl s

end Sys2Proof.Machine
end

section
/-! Each setting changes by its own commands only. -/
namespace Sys2Proof.Machine

/-! ### Bursts that write -/

/-- What a burst that writes memory holds: the dials, and the latch as the waiting reads allow. -/
structure WriterHolds (s t : State) : Prop extends DialsHeld s t, LatchMoved s t

theorem WriterHolds.trans {s t u : State} (h : WriterHolds s t) (k : WriterHolds t u) :
    WriterHolds s u :=
  ⟨h.toDialsHeld.trans k.toDialsHeld, h.toLatchMoved.trans k.toLatchMoved⟩

theorem SettingsHeld.writer {s t : State} (h : SettingsHeld s t) : WriterHolds s t :=
  ⟨h.toDialsHeld, h.toLatchMoved⟩

theorem WriterHolds.of_eq {s t : State} (trc : t.trc = s.trc := by simp) (skc : t.skc = s.skc := by simp)
    (horizon : t.ntp.horizon = s.ntp.horizon := by simp) (record : t.rnc.record = s.rnc.record := by simp)
    (mask : t.pxm.mask = s.pxm.mask := by simp) (waiting : t.pxm.waiting = s.pxm.waiting := by simp)
    (latch : t.pxm.tearLatch = s.pxm.tearLatch := by simp) : WriterHolds s t :=
  ⟨⟨trc, fun l => by rw [skc], horizon, record, mask⟩, .of_eq latch waiting⟩

/-- A burst command that does nothing, or what its writer holds, in the memory it found free. -/
theorem WriterHolds.of_free {s t : State} (h : WriterHolds (freeMemory s) t) : WriterHolds s t :=
  (freeMemory_settings s).writer.trans h

theorem pageTaking_writer {s t : State} (e : execPageTaking s = .next t) : WriterHolds s t := by
  unfold execPageTaking at e
  dsimp only at e
  split at e <;> cases e
  · refine .of_free ?_
    unfold takeExpected
    exact .of_eq
  · exact (SettingsHeld.refl s).writer

theorem fateWrite_writer {s t : State} (e : execFateWrite s = .next t) : WriterHolds s t := by
  unfold execFateWrite at e
  dsimp only at e
  split at e <;> cases e
  · refine .of_free ?_
    unfold writeFate
    exact .of_eq
  · exact (SettingsHeld.refl s).writer

theorem liveStatusRefresh_writer {s t : State} (e : execLiveStatusRefresh s = .next t) :
    WriterHolds s t := by
  unfold execLiveStatusRefresh at e
  dsimp only at e
  split at e <;> cases e
  · exact .of_free .of_eq
  · exact (SettingsHeld.refl s).writer

theorem closeHalf_writer (h : Half) (s : State) : WriterHolds s (closeHalf h s) := by
  unfold closeHalf
  exact .of_eq

theorem writeRecord_writer (h : Half) (r : Record) (rest : List Record) (s : State) :
    WriterHolds s (writeRecord h r rest s) := by
  have hrelease : ∀ u, WriterHolds u (releaseFor r u) := fun u => by
    unfold releaseFor
    split
    · exact WriterHolds.trans .of_eq (grantPass_reacts _).settings.writer
    · exact (SettingsHeld.refl u).writer
  unfold writeRecord
  dsimp only
  split
  · exact WriterHolds.trans .of_eq ((hrelease _).trans (closeHalf_writer _ _))
  · exact WriterHolds.trans .of_eq (hrelease _)

theorem reportWrite_writer {s t : State} (e : execReportWrite s = .next t) : WriterHolds s t := by
  unfold execReportWrite at e
  dsimp only at e
  split at e
  · split at e <;> cases e
    · exact .of_free (WriterHolds.trans .of_eq (writeRecord_writer _ _ _ _))
    · exact (SettingsHeld.refl s).writer
  · cases e
    exact (SettingsHeld.refl s).writer

theorem ageTimerExpiry_writer {s t : State} (e : execAgeTimerExpiry s = .next t) : WriterHolds s t := by
  unfold execAgeTimerExpiry at e
  split at e <;> cases e
  · exact (closeHalf_writer _ s).trans ⟨(beginNext_memoryFrame _).dials, beginNext_latch _⟩
  · exact (SettingsHeld.refl s).writer

/-- What the finishing of a page holds: all that a writer holds but the horizon. -/
structure FinishHolds (s t : State) : Prop extends LatchMoved s t where
  trc : t.trc = s.trc
  hold : ∀ l, (t.skc.get l).hold = (s.skc.get l).hold
  record : t.rnc.record = s.rnc.record
  mask : t.pxm.mask = s.pxm.mask

theorem pageFinishing_holds {s t : State} (e : execPageFinishing s = .next t) : FinishHolds s t := by
  have hfree := (freeMemory_settings s).writer
  unfold execPageFinishing at e
  dsimp only at e
  split at e <;> cases e
  next p _ _ =>
    have hlatch : LatchMoved (freeMemory s) (finishPage p (freeMemory s)) :=
      .of_eq (by simp [finishPage]) (by simp [finishPage])
    exact ⟨hfree.toLatchMoved.trans hlatch, .trans (by simp [finishPage]) hfree.trc,
      fun l => .trans (by simp [finishPage]) (hfree.hold l), .trans (by simp [finishPage]) hfree.record,
      .trans (by simp [finishPage]) hfree.mask⟩
  next _ _ p _ =>
    have h : WriterHolds (freeMemory s) (finishCutShort p (freeMemory s)) := by
      unfold finishCutShort
      exact .of_eq
    have := hfree.trans h
    exact ⟨this.toLatchMoved, this.trc, this.hold, this.record, this.mask⟩
  next => exact ⟨.refl s, rfl, fun _ => rfl, rfl, rfl⟩

/-! ### Press-controller accesses -/

/-- The memory as an access finds it: a burst that an access already waits for has ended. -/
theorem accessFound_port (s : State) :
    PortMoved s (if s.pxm.waiting.isEmpty then s else settleMemory s) := by
  split
  · exact .refl s
  · exact settleMemory_port s

theorem pressAccess_write_latch (a : BitVec 12) (w : Word) (s : State) :
    LatchMoved s (pressAccess (.write a w) s) := by
  have hfound := (accessFound_port s).toLatchMoved
  unfold pressAccess
  dsimp only
  generalize (if s.pxm.waiting.isEmpty = true then s else settleMemory s) = u at hfound ⊢
  split
  · refine hfound.trans ⟨.inl rfl, ?_⟩
    rintro ⟨b, hb⟩
    simp only [State.setPxm_pxm, List.mem_append, List.mem_singleton, reduceCtorEq, or_false] at hb
    exact ⟨b, hb⟩
  · exact hfound.trans ((serveAccess_latch a w _).trans (beginNext_latch _))

theorem pressAccess_read_memory (a : BitVec 12) (s : State) :
    MemoryMoved s (pressAccess (.read a) s) := by
  have hfound := (accessFound_port s).toMemoryMoved
  unfold pressAccess
  dsimp only
  generalize (if s.pxm.waiting.isEmpty = true then s else settleMemory s) = u at hfound ⊢
  split
  · refine hfound.trans ⟨.inl rfl, ?_⟩
    rintro (h | ⟨b, v, hb⟩)
    · exact .inl h
    · simp only [State.setPxm_pxm, List.mem_append, List.mem_singleton, reduceCtorEq, or_false] at hb
      exact .inr ⟨b, v, hb⟩
  · exact hfound.trans ((serveAccess_memory a _).trans (beginNext_memory _))

/-! ### The settings and their commands -/

/-- Each setting changed only by the commands that the manual names for it. -/
structure SettingsBy (c : Instr) (s t : State) : Prop where
  web : t.trc.web ≠ s.trc.web → c = .forwardCount ∨ c = .reverseCount ∨ isReset c
  front : t.trc.front ≠ s.trc.front → c = .forwardCount ∨ spelled c = .start ∨ isReset c
  sampled : t.trc.speed ≠ s.trc.speed ∨ t.trc.standstill ≠ s.trc.standstill ∨
    t.trc.previousSample ≠ s.trc.previousSample → c = .speedSample ∨ isReset c
  zone : t.trc.zone ≠ s.trc.zone → c = .speedSample ∨ spelled c = .start ∨ isReset c
  hold : ∀ l, (t.skc.get l).hold ≠ (s.skc.get l).hold → c = .laneNote ∨ spelled c = .start ∨ isReset c
  horizon : t.ntp.horizon ≠ s.ntp.horizon → c = .pageFinishing ∨ spelled c = .start ∨ isReset c
  record : t.rnc.record ≠ s.rnc.record → spelled c = .start ∨ isReset c
  mask : t.pxm.mask ≠ s.pxm.mask → (∃ w, c = .attnMaskWrite w) ∨ isReset c
  memory : t.pxm.memory ≠ s.pxm.memory → writesMemory c ∨ isReset c ∨
    s.rpw.halfWork ≠ [] ∨ ∃ a w, PressAccess.write a w ∈ s.pxm.waiting
  latch : t.pxm.tearLatch ≠ s.pxm.tearLatch → (∃ a, c = .memoryRead a) ∨ isReset c ∨
    ∃ a, PressAccess.read a ∈ s.pxm.waiting

theorem MemoryMoved.by {c : Instr} {s t : State} (h : MemoryMoved s t) :
    t.pxm.memory ≠ s.pxm.memory → writesMemory c ∨ isReset c ∨
      s.rpw.halfWork ≠ [] ∨ ∃ a w, PressAccess.write a w ∈ s.pxm.waiting := fun hne =>
  .inr (.inr (h.memory.resolve_left hne))

theorem LatchMoved.by {c : Instr} {s t : State} (h : LatchMoved s t) :
    t.pxm.tearLatch ≠ s.pxm.tearLatch → (∃ a, c = .memoryRead a) ∨ isReset c ∨
      ∃ a, PressAccess.read a ∈ s.pxm.waiting := fun hne =>
  .inr (.inr (h.latch.resolve_left hne))

/-- A command that holds the dials: what of the memory and the latch it may change is left. -/
theorem DialsHeld.by {c : Instr} {s t : State} (h : DialsHeld s t)
    (memory : t.pxm.memory ≠ s.pxm.memory → writesMemory c ∨ isReset c ∨
      s.rpw.halfWork ≠ [] ∨ ∃ a w, PressAccess.write a w ∈ s.pxm.waiting)
    (latch : t.pxm.tearLatch ≠ s.pxm.tearLatch → (∃ a, c = .memoryRead a) ∨ isReset c ∨
      ∃ a, PressAccess.read a ∈ s.pxm.waiting) : SettingsBy c s t where
  web hne := absurd (by rw [h.trc]) hne
  front hne := absurd (by rw [h.trc]) hne
  sampled hne := by
    rw [h.trc] at hne
    exact hne.elim (absurd rfl) fun hne => hne.elim (absurd rfl) (absurd rfl)
  zone hne := absurd (by rw [h.trc]) hne
  hold l hne := absurd (h.hold l) hne
  horizon hne := absurd h.horizon hne
  record hne := absurd h.record hne
  mask hne := absurd h.mask hne
  memory := memory
  latch := latch

theorem SettingsHeld.by {c : Instr} {s t : State} (h : SettingsHeld s t) : SettingsBy c s t :=
  h.toDialsHeld.by h.toMemoryMoved.by h.toLatchMoved.by

theorem WriterHolds.by {c : Instr} {s t : State} (h : WriterHolds s t) (hc : writesMemory c) :
    SettingsBy c s t :=
  h.toDialsHeld.by (fun _ => .inl hc) h.toLatchMoved.by

/-- A command that sets the Travel Counter and then holds every setting. -/
theorem SettingsHeld.travelled {c : Instr} {s t : State} {x : Trc} (h : SettingsHeld (s.setTrc x) t)
    (web : x.web ≠ s.trc.web → c = .forwardCount ∨ c = .reverseCount ∨ isReset c)
    (front : x.front ≠ s.trc.front → c = .forwardCount ∨ spelled c = .start ∨ isReset c)
    (sampled : x.speed ≠ s.trc.speed ∨ x.standstill ≠ s.trc.standstill ∨
      x.previousSample ≠ s.trc.previousSample → c = .speedSample ∨ isReset c)
    (zone : x.zone ≠ s.trc.zone → c = .speedSample ∨ spelled c = .start ∨ isReset c) :
    SettingsBy c s t := by
  have hb := h.by (c := c)
  have htrc : t.trc = x := h.trc
  refine ⟨?_, ?_, ?_, ?_, hb.hold, hb.horizon, hb.record, hb.mask, hb.memory, hb.latch⟩ <;> rw [htrc]
  exacts [web, front, sampled, zone]

/-- An update of the Travel Counter that leaves what other commands own. -/
theorem SettingsHeld.shifted {c : Instr} {s t : State} {x : Trc} (h : SettingsHeld (s.setTrc x) t)
    (web : x.web = s.trc.web ∨ c = .reverseCount) (front : x.front = s.trc.front)
    (speed : x.speed = s.trc.speed) (standstill : x.standstill = s.trc.standstill)
    (previousSample : x.previousSample = s.trc.previousSample) (zone : x.zone = s.trc.zone) :
    SettingsBy c s t :=
  h.travelled (fun hne => .inr (.inl (web.resolve_left hne))) (absurd front)
    (fun hne => (hne.elim (absurd speed) fun hne => hne.elim (absurd standstill)
      (absurd previousSample)))
    (absurd zone)

theorem forwardCount_by {s t : State} (e : execForwardCount s = .next t) :
    SettingsBy .forwardCount s t := by
  have hforward : ∀ u, SettingsHeld (s.setTrc s.trc.forward) u → SettingsBy .forwardCount s u := by
    intro u hu
    have hkept : s.trc.forward.speed = s.trc.speed ∧ s.trc.forward.standstill = s.trc.standstill ∧
        s.trc.forward.previousSample = s.trc.previousSample ∧ s.trc.forward.zone = s.trc.zone := by
      unfold Trc.forward
      dsimp only
      split <;> exact ⟨rfl, rfl, rfl, rfl⟩
    obtain ⟨hspeed, hstill, hsample, hzone⟩ := hkept
    exact hu.travelled (fun _ => .inl rfl) (fun _ => .inl rfl)
      (fun hne => hne.elim (absurd hspeed) fun hne => hne.elim (absurd hstill) (absurd hsample))
      (absurd hzone)
  unfold execForwardCount at e
  split at e
  · cases e
    exact (SettingsHeld.refl _).shifted (.inl rfl) rfl rfl rfl rfl rfl
  · split at e <;> cases e
    · exact hforward _ (frontAdvance_reacts _).settings
    · exact hforward _ (.refl _)

theorem reverseCount_by {s t : State} (e : execReverseCount s = .next t) :
    SettingsBy .reverseCount s t := by
  unfold execReverseCount at e
  split at e <;> cases e
  · exact (SettingsHeld.refl _).shifted (.inr rfl) rfl rfl rfl rfl rfl
  · obtain ⟨x, h, -, hfront, hspeed, hstill, hsample, hzone⟩ :=
      reverseTest_settings (s.setTrc s.trc.backward)
    exact SettingsHeld.shifted (s := s) h (.inr rfl) hfront hspeed hstill hsample hzone

theorem illegalTransition_by {s t : State} (e : execIllegalTransition s = .next t) :
    SettingsBy .illegalTransition s t := by
  unfold execIllegalTransition at e
  split at e <;> cases e
  · exact (SettingsHeld.refl _).shifted (.inl rfl) rfl rfl rfl rfl rfl
  · obtain ⟨x, h, hweb, hfront, hspeed, hstill, hsample, hzone⟩ := encoderError_settings
      (s.setTrc { s.trc with pins := s.trc.pins.opposite, reference := s.trc.pins.opposite })
    exact SettingsHeld.shifted (s := s) h (.inl hweb) hfront hspeed hstill hsample hzone

theorem speedSample_by {s t : State} (e : execSpeedSample s = .next t) : SettingsBy .speedSample s t := by
  unfold execSpeedSample at e
  split at e <;> cases e
  · exact (SettingsHeld.refl s).by
  · have hformed : SettingsHeld (s.setTrc (s.trc.sample s.rnc.record)) (sampled s) := .of_eq
      (by simp [sampled]) (by simp [sampled]) (by simp [sampled]) (by simp [sampled]) (by simp [sampled])
      (by simp [sampled]) (by simp [sampled]) (by simp [sampled]) (by simp [sampled])
    have htravel : (s.trc.sample s.rnc.record).web = s.trc.web ∧
        (s.trc.sample s.rnc.record).front = s.trc.front := by
      unfold Trc.sample Trc.zoneSample
      dsimp only
      repeat' split
      all_goals exact ⟨rfl, rfl⟩
    exact (hformed.trans (sampled_reacts s).settings).travelled (absurd htravel.1) (absurd htravel.2)
      (fun _ => .inl rfl) (fun _ => .inl rfl)

/-- START moves what it may, however it is spelled. -/
theorem start_by {c : Instr} (hc : spelled c = .start) (s : State) : SettingsBy c s (commandStart s) := by
  have h := commandStart_holds s
  exact ⟨absurd h.web, fun _ => .inr (.inl hc),
    fun hne => hne.elim (absurd h.speed) fun hne => hne.elim (absurd h.standstill) (absurd h.previousSample),
    fun _ => .inr (.inl hc), fun _ _ => .inr (.inl hc), fun _ => .inr (.inl hc), fun _ => .inl hc,
    absurd h.mask, h.toMemoryMoved.by, h.toLatchMoved.by⟩

/-- A reset may move every setting. -/
theorem reset_by {c : Instr} (hc : isReset c) (s t : State) : SettingsBy c s t :=
  ⟨fun _ => .inr (.inr hc), fun _ => .inr (.inr hc), fun _ => .inr hc, fun _ => .inr (.inr hc),
    fun _ _ => .inr (.inr hc), fun _ => .inr (.inr hc), fun _ => .inr hc, fun _ => .inr hc,
    fun _ => .inr (.inl hc), fun _ => .inr (.inl hc)⟩

theorem laneNote_by (s : State) : SettingsBy .laneNote s (noteStep .lane laneOutcome s) := by
  have h := laneNote_holds s
  have htrc := h.trc
  exact ⟨absurd (by rw [htrc]), absurd (by rw [htrc]),
    fun hne => hne.elim (absurd (by rw [htrc])) fun hne => hne.elim (absurd (by rw [htrc]))
      (absurd (by rw [htrc])),
    absurd (by rw [htrc]), fun _ _ => .inl rfl, absurd h.horizon, absurd h.record, absurd h.mask,
    h.toMemoryMoved.by, h.toLatchMoved.by⟩

theorem pageFinishing_by {s t : State} (e : execPageFinishing s = .next t) :
    SettingsBy .pageFinishing s t := by
  have h := pageFinishing_holds e
  have htrc := h.trc
  exact ⟨absurd (by rw [htrc]), absurd (by rw [htrc]),
    fun hne => hne.elim (absurd (by rw [htrc])) fun hne => hne.elim (absurd (by rw [htrc]))
      (absurd (by rw [htrc])),
    absurd (by rw [htrc]), fun l => absurd (h.hold l), fun _ => .inl rfl, absurd h.record, absurd h.mask,
    fun _ => .inl trivial, h.toLatchMoved.by⟩

/-- Each command changes the settings that are its own. -/
theorem exec_settingsBy {c : Instr} {s t : State} (e : exec c s = .next t) : SettingsBy c s t := by
  by_cases hreset : isReset c
  · exact reset_by hreset s t
  by_cases hstart : spelled c = .start
  · rw [← exec_spelled, hstart] at e
    cases e
    exact start_by hstart s
  by_cases hreaction : Instr.isReaction c = true
  · exact (exec_reacts c s t hreaction e).settings.by
  by_cases hlane : c = .laneNote
  · subst hlane
    cases e
    exact laneNote_by s
  by_cases hnote : Instr.isNote c = true
  · exact (exec_note_settings hnote hlane e).by
  cases c
  case start => exact absurd rfl hstart
  case powerOnReset => exact absurd (.inl rfl) hreset
  case restart => exact absurd (.inr rfl) hreset
  case stop => cases e; exact (commandStop_settings s).by
  case abort => cases e; exact (commandAbort_settings s).by
  case ackFault => cases e; exact (commandAckFault_settings s).by
  case badCode w => cases e; exact (controlWrite_settings s hstart fun hr => hreset (.inr hr)).by
  case attentionWrite w => cases e; exact SettingsHeld.by .of_eq
  case attnMaskWrite w =>
    cases e
    have h : SettingsBy (.attnMaskWrite w) s s := (SettingsHeld.refl s).by
    exact ⟨h.web, h.front, h.sampled, h.zone, h.hold, h.horizon, h.record, fun _ => .inl ⟨w, rfl⟩,
      h.memory, h.latch⟩
  case registerWriteIgnored r w => cases e; exact (SettingsHeld.refl s).by
  case memoryRead a =>
    cases e
    exact (pressAccess_memoryFrame _ s).dials.by (pressAccess_read_memory a s).by fun _ => .inl ⟨a, rfl⟩
  case memoryWrite | notePagePosting | halfFreeing =>
    cases e
    exact (pressAccess_memoryFrame _ s).dials.by (fun _ => .inl trivial) (pressAccess_write_latch _ _ s).by
  case forwardCount => exact forwardCount_by e
  case reverseCount => exact reverseCount_by e
  case illegalTransition => exact illegalTransition_by e
  case speedSample => exact speedSample_by e
  case markEdge => exact (markEdge_settings e).by
  case markFall => exact (markFall_settings e).by
  case pageTaking => exact (pageTaking_writer e).by trivial
  case fateWrite => exact (fateWrite_writer e).by trivial
  case pageFinishing => exact pageFinishing_by e
  case pageStateCheck => exact (pageStateCheck_settings e).by
  case agingTick => exact (agingTick_settings e).by
  case reportWrite => exact (reportWrite_writer e).by trivial
  case ageTimerExpiry => exact (ageTimerExpiry_writer e).by trivial
  case refreshTimerExpiry => exact (refreshTimer_settings e).by
  case liveStatusRefresh => exact (liveStatusRefresh_writer e).by trivial
  case resetnRelease =>
    cases e
    have h : SettingsHeld (s.setTrc { s.trc with reference := s.trc.pins })
        ((s.setTrc { s.trc with reference := s.trc.pins }).setPxm
          { s.pxm with resetAsserted := false }) := .of_eq
    exact h.shifted (.inl rfl) rfl rfl rfl rfl rfl
  all_goals first
    | exact absurd rfl hreaction
    | exact absurd rfl hnote

/-- Settles O23: each command changes the settings that are its own, and a lane that waits has the age it
had, or has just joined, unless an aging tick raised it. -/
theorem eachSettingChangesOnlyByItsCommands : Obligations.EachSettingChangesOnlyByItsCommands := by
  intro c s t e
  have h := exec_settingsBy e
  refine ⟨h.web, h.front, h.sampled, h.zone, h.hold, h.horizon, h.record, h.mask, h.memory, h.latch,
    fun d l a ha => ?_⟩
  by_cases hc : c = .agingTick
  · exact .inr (.inr hc)
  · exact (exec_ages e hc d l a ha).imp_right .inl

end Sys2Proof.Machine
end

section
/-! KNIFE_FIRE through the stroke (R65). -/
namespace Sys2Proof.Machine

/-! ### Between HOME and STALL -/

/-- KNIFE_FIRE is asserted, or, where `idle` allows it, no stroke is in flight. -/
def FireHeld (idle : Bool) (s : State) : Prop :=
  (idle = true ∧ s.knt.cycle = none) ∨ s.knt.output = .asserted

section
variable {idle : Bool}

/-- What leaves the output, and begins no stroke, leaves KNIFE_FIRE held. -/
theorem FireHeld.congr {s t : State} (h : FireHeld idle s)
    (cycle : s.knt.cycle = none → t.knt.cycle = none) (output : t.knt.output = s.knt.output) :
    FireHeld idle t := by
  unfold FireHeld at h ⊢
  rw [output]
  exact h.imp_left fun ⟨hi, hc⟩ => ⟨hi, cycle hc⟩

theorem FireHeld.of_knt {s t : State} (h : FireHeld idle s) (e : t.knt = s.knt := by simp) :
    FireHeld idle t :=
  h.congr (fun hc => by rw [e]; exact hc) (by rw [e])

theorem fireCut_held (r : Row) (s : State) : FireHeld idle (fireCut false r s) := .inr rfl

theorem fireTest_held {s : State} (h : FireHeld idle s) : FireHeld idle (fireTest false s) := by
  unfold fireTest
  split
  · exact fireCut_held _ s
  · exact h

/-- An emptied track leaves the stroke in flight as it is. -/
theorem emptyTrack_stroke (s : State) : (s.knt.cycle = none → (emptyTrack s).knt.cycle = none) ∧
    (emptyTrack s).knt.output = s.knt.output := by
  simp +contextual [emptyTrack, Knt.untrack]

/-- Only HOME, STALL and the resets release KNIFE_FIRE, and a stroke that another act begins asserts it. -/
theorem fireHeld_kept : KeptBetweenStrokes (FireHeld idle) where
  choices s n h := h.of_knt
  attention s x h := h.of_knt
  otherRecord s r _ h := h.of_knt
  grantPass s h := h.of_knt
  shortClose s k l h := h.of_knt
  closePending s x h := h.of_knt
  stopDone s l h := h.of_knt
  freePrevious s c _ h := h.of_knt
  emptyTrack s h := h.congr (emptyTrack_stroke s).1 (emptyTrack_stroke s).2
  ended s _ _ h := h.of_knt
  changeRow s n f _ h := h.of_knt rfl
  rejectFlap s l h := h.of_knt
  tally s t r h := h.of_knt
  passGood s u m l r id _ _ hp h := by
    obtain ⟨x, rfl⟩ := placeFor_keeps _ _ _ _ _ hp
    exact h.of_knt rfl
  resolve s l b a rest _ h := h.of_knt
  markStacks s l q _ h := h.of_knt rfl
  cut s r _ _ := fireCut_held r s
  halt s e f h := h.of_knt
  reassert s _ _ := .inr rfl
  tracker s k _ h := h.of_knt
  travel s x _ h := h.of_knt
  overflow s x h := h.of_knt
  refused s _ h := h.of_knt
  row s c m q next room _ _ _ _ h := h.of_knt rfl
  spans s q g _ h := h.of_knt
  departed s c l n x b _ _ h := h.of_knt (by simp only [handOver]; split <;> simp)
  recorded s b x h := h.of_knt
  stopBegun s _ h := (fireTest_held (h.of_knt (t := setRunState .drain s))).of_knt
    (by simp [stopBegun])
  acknowledged s _ _ h := h.congr (by simp [faultCleared, Knt.acknowledge])
    (by simp [faultCleared, Knt.acknowledge])
  sampled s h := h.congr (by simp [formLeads]) (by simp [formLeads])
  holds s lanes v h := h.of_knt rfl
  targets s j lanes n _ _ h := h.of_knt rfl
  freed s c _ h := h.of_knt
  firstJob s m slot _ _ _ h := h.of_knt (by simp [withFirstJob])
  nextJob s m slot _ _ _ h := h.of_knt (by simp [withNextJob])
  blocks s t e h := h.of_knt e.knt
  written s r rest age _ h := by
    unfold releaseFor
    split
    · exact h.of_knt
    · exact h.of_knt
  started s r h := by
    obtain ⟨-, -, hknt, -⟩ := startPart_blocks r s
    refine h.congr (fun hc => ?_) ?_ <;> rw [hknt]
    · simp [Knt.start, Knt.untrack, hc]
    · rfl

end

/-- An aging tick leaves the knife alone. -/
theorem agingTick_knt {s t : State} (e : execAgingTick s = .next t) : t.knt = s.knt := by
  unfold execAgingTick at e
  split at e <;> cases e
  · rfl
  · simp

/-- Between two strokes, and outside the resets, KNIFE_FIRE is held by every command. -/
theorem exec_fireHeld {idle : Bool} {c : Instr} {s t : State} (e : exec c s = .next t)
    (hhome : c ≠ .home) (hstall : c ≠ .stall) (hreset : ¬ isReset c) (h : FireHeld idle s) :
    FireHeld idle t := by
  by_cases hc : c = .agingTick
  · subst hc
    exact h.of_knt (agingTick_knt e)
  · exact fireHeld_kept.exec_keeps c s t e hc hhome hstall hreset h

theorem knifeFire_iff {s : State} : knifeFire s = true ↔ s.knt.output = .asserted := by
  simp [knifeFire]

/-- A reset leaves no stroke in flight, and KNIFE_FIRE released. -/
theorem exec_reset_knife {c : Instr} (hc : isReset c) (s : State) :
    ∃ t, exec c s = .next t ∧ t.knt.cycle = none ∧ t.knt.output = .released := by
  rw [← exec_spelled]
  obtain hc | hc := hc <;> rw [hc]
  · exact ⟨_, rfl, rfl, rfl⟩
  · exact ⟨_, rfl, rfl, rfl⟩

/-! ### HOME and STALL -/

/-- After a stroke ended with the front at `f`: the knife is IDLE and released, or another cut fired there
and KNIFE_FIRE is in its gap. -/
structure StrokeOver (f : Count) (m : Option MachineRecord) (s : State) : Prop where
  front : s.trc.front = f
  record : s.rnc.record = m
  knife : (s.knt.cycle = none ∧ s.knt.output = .released) ∨
    ∃ k, s.knt.cycle = some k ∧ s.knt.output = .gap ∧ k.fireCount = f ∧
      ∀ r, m = some r → k.timer = r.knifeTimeout

section
variable {f : Count} {m : Option MachineRecord}

theorem StrokeOver.of_eq {s t : State} (h : StrokeOver f m s) (knt : t.knt = s.knt := by simp)
    (trc : t.trc = s.trc := by simp) (record : t.rnc.record = s.rnc.record := by simp) :
    StrokeOver f m t :=
  ⟨trc ▸ h.front, record ▸ h.record, knt ▸ h.knife⟩

/-- The decisions after a stroke leave what it left. -/
theorem strokeOver_decisions : KeptByDecisions (StrokeOver f m) where
  choices s n h := h.of_eq
  attention s x h := h.of_eq
  otherRecord s r _ h := h.of_eq
  grantPass s h := h.of_eq
  shortClose s k l h := h.of_eq
  closePending s x h := h.of_eq
  stopDone s l h := h.of_eq
  freePrevious s c _ h := h.of_eq
  emptyTrack s h := by
    refine ⟨h.front, h.record, h.knife.imp (fun ⟨hc, ho⟩ => ?_) fun ⟨k, hc, ho, hf, ht⟩ => ?_⟩
    · exact ⟨(emptyTrack_stroke s).1 hc, (emptyTrack_stroke s).2.trans ho⟩
    · refine ⟨{ k with tracked := false }, ?_, (emptyTrack_stroke s).2.trans ho, hf, ht⟩
      simp [emptyTrack, Knt.untrack, hc]
  ended s _ _ h := h.of_eq
  changeRow s n f _ h := h.of_eq rfl rfl rfl
  rejectFlap s l h := h.of_eq
  tally s t r h := h.of_eq
  passGood s u m l r id _ _ hp h := by
    obtain ⟨x, rfl⟩ := placeFor_keeps _ _ _ _ _ hp
    exact h.of_eq rfl rfl rfl

/-- The fire that follows a stroke at once holds KNIFE_FIRE released for the gap. -/
theorem strokeOver_fire {s : State} (h : StrokeOver f m s) : StrokeOver f m (fireTest true s) := by
  unfold fireTest
  split
  · refine ⟨h.front, h.record, .inr ⟨_, rfl, rfl, h.front, fun r hr => ?_⟩⟩
    simp [strokeTime, h.record, hr]
  · exact h

theorem strokeOver_tests {b s : State} (h : StrokeOver f m s) :
    StrokeOver f m (testTargets true true b s) := by
  refine takeDue_inv (fun u n hu => hu.of_eq) (fun t u hu => ?_) _ h
  cases t with
  | fire => exact strokeOver_fire hu
  | lane l => exact strokeOver_decisions.decideTest u l hu

theorem stallFault_over {s : State} (h : StrokeOver f m s) : StrokeOver f m (stallFault s) := by
  unfold stallFault
  split
  · exact ⟨by simpa using h.front, by simpa using h.record, by simpa using h.knife⟩
  · exact h

end

/-- HOME and STALL of a stroke in flight: KNIFE_FIRE is released, and another stroke waits for its gap. -/
theorem exec_strokeOver {c : Instr} {s t : State} {k : Cycle} (hc : c = .home ∨ c = .stall)
    (hk : s.knt.cycle = some k) (e : exec c s = .next t) :
    StrokeOver s.trc.front s.rnc.record t := by
  have hended : ∀ x b n, StrokeOver s.trc.front s.rnc.record (endStroke k x b n s) :=
    fun _ _ _ => ⟨rfl, rfl, .inl ⟨rfl, rfl⟩⟩
  obtain rfl | rfl := hc
  · simp only [exec, execHome, hk] at e
    cases e
    exact strokeOver_tests (hended _ _ _)
  · simp only [exec, execStall, hk] at e
    cases e
    exact strokeOver_tests (stallFault_over (hended _ _ _))

/-- HOME and STALL with no stroke in flight change nothing. -/
theorem exec_strokeless {c : Instr} {s t : State} (hc : c = .home ∨ c = .stall)
    (hk : s.knt.cycle = none) (e : exec c s = .next t) : t = s := by
  obtain rfl | rfl := hc
  · simp only [exec, execHome, hk] at e
    cases e
    rfl
  · simp only [exec, execStall, hk] at e
    cases e
    rfl

/-- Settles O33: what each act but HOME, STALL and the resets leaves of the output, what HOME and STALL
leave, the end of the gap, and the resets. -/
theorem knifeFireIsHeldThroughTheStroke : Obligations.KnifeFireIsHeldThroughTheStroke := by
  refine ⟨fun c s t e hnone hsome => ?fired, fun c s t e hs ht => ?held, fun c s t k hc hk e => ?ended,
    fun s => ⟨fun hg => ?gap, fun hg => ?noGap⟩, fun c s hc => ?reset⟩
  case fired =>
    have hstroke : ¬ (c = .home ∨ c = .stall) := fun hc =>
      hsome (by rw [exec_strokeless hc hnone e]; exact hnone)
    have hreset : ¬ isReset c := fun hc => by
      obtain ⟨u, eu, hu, -⟩ := exec_reset_knife hc s
      rw [e] at eu
      cases eu
      exact hsome hu
    have h := exec_fireHeld (idle := true) e (fun hc => hstroke (.inl hc)) (fun hc => hstroke (.inr hc))
      hreset (.inl ⟨rfl, hnone⟩)
    exact knifeFire_iff.mpr (h.resolve_left fun hi => hsome hi.2)
  case held =>
    by_contra hc
    push Not at hc
    obtain ⟨hhome, hstall, hreset⟩ := hc
    have h := exec_fireHeld (idle := false) e hhome hstall hreset (.inr (knifeFire_iff.mp hs))
    have : knifeFire t = true := knifeFire_iff.mpr (h.resolve_left (by simp))
    simp [this] at ht
  case ended =>
    have h := (exec_strokeOver hc hk e).knife
    refine ⟨?_, fun hn => ?_, fun k' hk' => ?_⟩
    · obtain ⟨-, ho⟩ | ⟨k', -, ho, -⟩ := h <;> simp [knifeFire, ho]
    · obtain ⟨-, ho⟩ | ⟨k', hk', -⟩ := h
      · exact ho
      · simp [hk'] at hn
    · obtain ⟨hn, -⟩ | ⟨k'', hk'', ho, hf, ht⟩ := h
      · simp [hn] at hk'
      · rw [hk''] at hk'
        cases hk'
        exact ⟨ho, hf, ht⟩
  case gap =>
    simp only [exec, execKnifeFireReassert, hg]
    rfl
  case noGap =>
    simp only [exec, execKnifeFireReassert]
    split
    next h => exact absurd h hg
    all_goals rfl
  case reset =>
    obtain ⟨t, e, -, ho⟩ := exec_reset_knife hc s
    exact ⟨t, e, by simp [knifeFire, ho]⟩

end Sys2Proof.Machine
end

section
/-! The stack lines when the run is abandoned: arrivals missing, last stacks closed (R121, R125, R162). -/
namespace Sys2Proof.Machine

/-! ### Arrivals counted missing -/

/-- A stack whose labels in an arrival list are all counted missing. -/
def missed (q : List Arrival) (x : Stack) : Stack :=
  { x with missing := x.missing + awaited q x.id
           state := if x.state = .completing ∧ awaited q x.id ≠ 0 then .closed else x.state }

/-- A stack of which the list names no label is left. -/
theorem missed_settled {q : List Arrival} {x : Stack} (h : awaited q x.id = 0) : missed q x = x := by
  simp [missed, h]

/-- The first entry of the list counted, and then the rest. -/
theorem missed_cons (a : Arrival) (q : List Arrival) (x : Stack) :
    missed q (if x.id = a.stackId then settleStack (awaited q a.stackId) (countArrival false x) else x) =
      missed (a :: q) x := by
  by_cases hid : x.id = a.stackId
  · have hawaited : awaited (a :: q) x.id = awaited q x.id + 1 := by simp [awaited, hid]
    rw [if_pos hid, ← hid]
    unfold settleStack
    by_cases hs : x.state = .completing
    · by_cases hz : awaited q x.id = 0
      · simp [missed, countArrival, hs, hz, hawaited]
      · simp [missed, countArrival, hs, hz, hawaited, Nat.add_assoc, Nat.add_comm]
    · simp [missed, countArrival, hs, hawaited, Nat.add_assoc, Nat.add_comm]
  · have hawaited : awaited (a :: q) x.id = awaited q x.id := by
      simp [awaited, Ne.symm hid]
    rw [if_neg hid]
    simp only [missed, hawaited]

/-- One entry of a list counted missing: the list keeps the rest, and its stack has counted it. -/
theorem missOne_lane (l : Lane) (a : Arrival) (rest : List Arrival) (s : State) :
    ((freeingTest (resolve l a.stackId false (setArrivals l rest s))).skc.get l).line =
      (s.skc.get l).line.map (fun x => if x.id = a.stackId then
        settleStack (awaited rest a.stackId) (countArrival false x) else x) ∧
    ((freeingTest (resolve l a.stackId false (setArrivals l rest s))).lnd.get l).arrivals = rest := by
  have hleft : outstanding l a.stackId (setArrivals l rest s) = awaited rest a.stackId := by
    simp [outstanding, awaited, setArrivals, setDecider_get]
  refine ⟨?_, by simp [setArrivals_arrivals]⟩
  rw [freeingTest_line, resolve, hleft, (joinWaiting_keeps _ _).2.2.2.2.2.2.1, setLine_line, if_pos rfl]
  simp only [setArrivals_keeps]
  rfl

/-- An entry of one lane counted missing leaves another lane its line. -/
theorem missOne_other {l k : Lane} (h : k ≠ l) (a : Arrival) (rest : List Arrival) (s : State) :
    ((freeingTest (resolve l a.stackId false (setArrivals l rest s))).skc.get k).line =
      (s.skc.get k).line := by
  rw [freeingTest_line, resolve, (joinWaiting_keeps _ _).2.2.2.2.2.2.1, setLine_line, if_neg h]
  simp only [setArrivals_keeps]

theorem missAll_line (l : Lane) (q : List Arrival) (s : State) (hq : (s.lnd.get l).arrivals = q) :
    ((missAll l q s).skc.get l).line = (s.skc.get l).line.map (missed q) := by
  induction q generalizing s with
  | nil =>
    have hmissed : missed [] = id := funext fun x => missed_settled rfl
    rw [hmissed, List.map_id]
    rfl
  | cons a q ih =>
    obtain ⟨hline, hrest⟩ := missOne_lane l a q s
    have hcons : (missed q ∘ fun x : Stack => if x.id = a.stackId then
        settleStack (awaited q a.stackId) (countArrival false x) else x) = missed (a :: q) :=
      funext (missed_cons a q)
    rw [missAll, ih _ hrest, hline, List.map_map, hcons]

theorem missAll_line_other {l k : Lane} (h : k ≠ l) (q : List Arrival) (s : State) :
    ((missAll l q s).skc.get k).line = (s.skc.get k).line := by
  induction q generalizing s with
  | nil => rfl
  | cons a q ih => exact (ih _).trans (missOne_other h a q s)

/-- Step 1 of R162: every lane's arrivals are missing in the stacks that they name. -/
theorem missLanes_line (s : State) (l : Lane) :
    ((allLanes.foldl missLane s).skc.get l).line =
      (s.skc.get l).line.map (missed (s.lnd.get l).arrivals) ∧
    ((allLanes.foldl missLane s).lnd.get l).arrivals = [] := by
  have hother : ∀ (a : State) (j k : Lane), k ≠ j →
      (((missLane a j).skc.get k).line, ((missLane a j).lnd.get k).arrivals) =
        ((a.skc.get k).line, (a.lnd.get k).arrivals) := fun a j k hk =>
    Prod.ext (missAll_line_other hk _ a) (congrArg Lnd.arrivals (missAll_other j k _ a hk))
  obtain ⟨a, -, ha, hfold⟩ := foldl_lanes (fun k (a : State) => ((a.skc.get k).line, (a.lnd.get k).arrivals))
    hother (P := fun _ => True) (fun _ _ _ => trivial) l (s := s) trivial
  obtain ⟨hline, harrivals⟩ := Prod.mk.inj ha
  obtain ⟨hline', harrivals'⟩ := Prod.mk.inj hfold
  rw [hline', harrivals']
  refine ⟨?_, missAll_arrivals l _ a rfl⟩
  rw [missLane, missAll_line l _ a rfl, hline, harrivals]

/-! ### The last stacks closed -/

/-- A stack that the end of the run closes when it is FILLING, nothing being expected any more. -/
def closedBy (k : CloseKind) (f : Count) (x : Stack) : Stack :=
  if x.state = .filling then { x with closeKind := some k, closePoint := some f, state := .closed } else x

theorem map_closedBy_same {k : CloseKind} {f : Count} {q : List Stack}
    (h : ∀ x ∈ q, x.state ≠ .filling) : q.map (closedBy k f) = q :=
  (List.map_congr_left fun x hx => if_neg (h x hx)).trans (List.map_id q)

/-- The short close of a lane that expects no label: its FILLING stack, the last one, is CLOSED. -/
theorem shortClose_settled {k : CloseKind} {l : Lane} {s : State} (ha : (s.lnd.get l).arrivals = [])
    (hq : ∀ x ∈ (s.skc.get l).line.dropLast, x.state ≠ .filling) :
    ((shortClose k l s).skc.get l).line = (s.skc.get l).line.map (closedBy k s.trc.front) := by
  have hout : ∀ id, outstanding l id s = 0 := fun id => by simp [outstanding, ha]
  unfold shortClose
  dsimp only
  obtain hnil | ⟨q, x, hqx⟩ := List.eq_nil_or_concat' (s.skc.get l).line
  · rw [hnil]
    simpa using hnil
  · rw [hqx, List.dropLast_concat] at hq
    have hmap : (q ++ [x]).map (closedBy k s.trc.front) = q ++ [closedBy k s.trc.front x] := by
      rw [List.map_append, map_closedBy_same hq]
      rfl
    rw [hqx, List.getLast?_concat, hmap]
    dsimp only
    by_cases hx : x.state = .filling
    · rw [if_pos hx, (joinWaiting_keeps _ _).2.2.2.2.2.2.1, setLine_line, if_pos rfl, if_pos (hout _),
        List.dropLast_concat, closedBy, if_pos hx]
    · rw [if_neg hx, closedBy, if_neg hx]
      exact hqx

theorem closeAll_line {k : CloseKind} {l : Lane} {s : State} (ha : (s.lnd.get l).arrivals = [])
    (hq : ∀ x ∈ (s.skc.get l).line.dropLast, x.state ≠ .filling) :
    ((closeAll k s).skc.get l).line = (s.skc.get l).line.map (closedBy k s.trc.front) := by
  have hother : ∀ (a : State) (j k' : Lane), k' ≠ j →
      ((shortClose k j a).skc.get k').line = (a.skc.get k').line := fun a j k' hk => by
    rw [shortClose_line_other hk]
  obtain ⟨a, ⟨hlnd, htrc⟩, hline, hfold⟩ := foldl_lanes (fun k (a : State) => (a.skc.get k).line) hother
    (P := fun a => a.lnd = s.lnd ∧ a.trc = s.trc)
    (fun a j ⟨h1, h2⟩ => ⟨by simpa using h1, by simpa using h2⟩) l (s := s) ⟨rfl, rfl⟩
  rw [← hline, ← htrc]
  rw [← hlnd] at ha
  rw [← hline] at hq
  exact hfold.trans (shortClose_settled ha hq)

/-! ### The lines after the run -/

/-- A stack of a line in order, its labels missing and itself closed and perhaps granted, is abandoned as
the manual says. -/
theorem stackAbandoned_of {k : CloseKind} {f : Count} {q : List Arrival} {x y : Stack}
    (h : Accounted x (awaited q x.id)) (hy : MayPush (closedBy k f (missed q x)) y) :
    StackAbandoned k f q x y := by
  obtain ⟨-, hsettled, hcompleting⟩ := h
  have hcount : (q.countP fun a => a.stackId == x.id) = awaited q x.id := rfl
  cases hs : x.state with
  | filling =>
    have hclosed : closedBy k f (missed q x) = { x with
        missing := x.missing + awaited q x.id, closeKind := some k, closePoint := some f,
        state := .closed } := by
      simp [closedBy, missed, hs]
    rw [hclosed] at hy
    obtain rfl | ⟨-, c, rfl⟩ := hy
    all_goals constructor <;> simp [hs, hcount]
  | completing =>
    have hmissed : closedBy k f (missed q x) = { x with
        missing := x.missing + awaited q x.id, state := .closed } := by
      simp [closedBy, missed, hs, hcompleting hs]
    rw [hmissed] at hy
    obtain rfl | ⟨-, c, rfl⟩ := hy
    all_goals constructor <;> simp [hs, hcount]
  | closed =>
    have hkept : closedBy k f (missed q x) = x := by
      rw [missed_settled (hsettled (.inl hs)), closedBy, if_neg (by simp [hs])]
    rw [hkept] at hy
    obtain rfl | ⟨-, c, rfl⟩ := hy
    all_goals
      constructor
      case same => rfl
      all_goals simp [hs, hcount, hsettled (.inl hs)]
  | pushing =>
    have hkept : closedBy k f (missed q x) = x := by
      rw [missed_settled (hsettled (.inr hs)), closedBy, if_neg (by simp [hs])]
    rw [hkept] at hy
    obtain rfl | ⟨hclosed, c, rfl⟩ := hy
    · constructor
      case same => rfl
      all_goals simp [hs, hcount, hsettled (.inr hs)]
    · simp [hs] at hclosed

/-- The part before its contexts end: arrivals missing, the track empty, the last stacks closed and the
grants of the joinings made (steps 1 to 3 of R162). -/
def runClosed (k : CloseKind) (s : State) : State :=
  passIfJoined s (closeAll k (emptyTrack (tallyStopped (allLanes.foldl missLane s))))

theorem abandonRun_eq (k : CloseKind) (s : State) :
    abandonRun k s = trackerToIdle (endContexts (clearStops (runClosed k s))) := rfl

/-- The arbiter stays in order up to the grants. -/
theorem closedLanes_arbiter {k : CloseKind} {s : State} (h : ArbiterInv s) :
    ArbiterInv (closeAll k (emptyTrack (tallyStopped (allLanes.foldl missLane s)))) := by
  have K := arbiterHeld_kept False
  have hmissed : ArbiterHeld False (allLanes.foldl missLane s) :=
    foldl_inv (fun u l hu => K.missAll l _ u rfl hu) _ ⟨h, nofun⟩
  have hemptied : ArbiterHeld False (emptyTrack (tallyStopped (allLanes.foldl missLane s))) := by
    refine K.emptyTrack _ (foldl_inv (fun u r hu => foldl_inv (fun v l hv => ?_) _ hu) _ hmissed)
    unfold tallyOpen
    split
    · exact K.tally _ _ _ hv
    · exact hv
  exact (foldl_inv (fun u l hu => K.shortClose u k l hu) _ hemptied).1

theorem runClosed_line {k : CloseKind} {s : State} (h : StackInv s) (l : Lane) :
    List.Forall₂ (StackAbandoned k s.trc.front (s.lnd.get l).arrivals) (s.skc.get l).line
      ((runClosed k s).skc.get l).line := by
  obtain ⟨harbiter, hlines⟩ := (stackInv_iff s).1 h
  have hline := hlines l
  obtain ⟨hmissed, hnone⟩ := missLanes_line s l
  have hfront : (emptyTrack (tallyStopped (allLanes.foldl missLane s))).trc = s.trc := by simp [allLanes]
  have hfilling : ∀ x ∈ ((s.skc.get l).line.map (missed (s.lnd.get l).arrivals)).dropLast,
      x.state ≠ .filling := by
    intro x hx hs
    rw [← List.map_dropLast] at hx
    obtain ⟨y, hy, rfl⟩ := List.mem_map.1 hx
    refine hline.filling y hy ?_
    by_contra hne
    simp only [missed] at hs
    split at hs
    · cases hs
    · exact hne hs
  have hclosed := closeAll_line (k := k) (l := l)
    (s := emptyTrack (tallyStopped (allLanes.foldl missLane s))) (by simpa using hnone)
    (by simpa [hmissed] using hfilling)
  have hgranted := mayPush_of_granted (passIfJoined_front (closedLanes_arbiter (k := k) harbiter) s l)
  rw [hclosed, hfront] at hgranted
  simp only [emptyTrack_keeps, tallyStopped_keeps, hmissed, List.map_map] at hgranted
  rw [List.forall₂_map_left_iff] at hgranted
  refine List.forall₂_iff_get.2 ⟨hgranted.length_eq, fun i hi hi' => ?_⟩
  exact stackAbandoned_of (hline.accounts _ (List.get_mem _ _)) (hgranted.get hi hi')

end Sys2Proof.Machine
end

section
/-! Job Control when the run is abandoned: the STOPPED tallies and the JOB_END records (R54, R150, R162). -/
namespace Sys2Proof.Machine

/-! ### The STOPPED tallies -/

/-- A context with `n` more labels tallied STOPPED. -/
def stoppedBy (n : Nat) (c : JobContext) : JobContext :=
  { c with tallies := { c.tallies with stopped := min 65535 (c.tallies.stopped + n) } }

theorem stoppedBy_zero {c : JobContext} (h : c.tallies.stopped ≤ 65535) : stoppedBy 0 c = c := by
  simp only [stoppedBy, Nat.add_zero, Nat.min_eq_right h]

theorem stoppedBy_add (n k : Nat) (c : JobContext) :
    stoppedBy k (stoppedBy n c) = stoppedBy (n + k) c := by
  simp only [stoppedBy]
  congr 2
  omega

theorem stoppedBy_le (n : Nat) (c : JobContext) : (stoppedBy n c).tallies.stopped ≤ 65535 :=
  Nat.min_le_left _ _

theorem raise_stopped (c : JobContext) :
    c.raise .stopped = stoppedBy 1 c := by
  show { c with tallies := { c.tallies with stopped := riseTo 65535 c.tallies.stopped } } = _
  rw [riseTo_eq]
  rfl

theorem endOf_stoppedBy (n : Nat) (c : JobContext) : endOf (stoppedBy n c) = stoppedEnd c n := rfl

/-- A step that tallies `n` labels STOPPED in the context of a tag, when one is held. -/
structure TalliesStopped (t : JobTag) (n : Nat) (s u : State) : Prop where
  none : contextOf t s = none → contextOf t u = none
  some : ∀ c, contextOf t s = some c → c.tallies.stopped ≤ 65535 →
    contextOf t u = some (stoppedBy n c)

namespace TalliesStopped

variable {t : JobTag}

theorem of_eq {s u : State} (h : contextOf t u = contextOf t s) : TalliesStopped t 0 s u :=
  ⟨fun e => h.trans e, fun c e hc => by rw [h, e, stoppedBy_zero hc]⟩

theorem trans {n k : Nat} {s u v : State} (h : TalliesStopped t n s u) (g : TalliesStopped t k u v) :
    TalliesStopped t (n + k) s v :=
  ⟨fun e => g.none (h.none e), fun c e hc => by
    rw [g.some _ (h.some c e hc) (stoppedBy_le n c), stoppedBy_add]⟩

/-- A fold of steps that each tally some labels tallies them all. -/
theorem foldl {α : Type} {f : State → α → State} {w : α → Nat}
    (h : ∀ s x, TalliesStopped t (w x) s (f s x)) (q : List α) (s : State) :
    TalliesStopped t (q.map w).sum s (q.foldl f s) := by
  induction q generalizing s with
  | nil => exact .of_eq rfl
  | cons x q ih => exact (h s x).trans (ih _)

end TalliesStopped

theorem tallyReject_stopped (t r : JobTag) (s : State) :
    TalliesStopped t (if r = t then 1 else 0) s (tallyReject r .stopped s) := by
  by_cases h : r = t
  · subst h
    rw [if_pos rfl]
    cases r with
    | current =>
      refine ⟨fun e => ?_, fun c e hc => ?_⟩ <;> simp only [contextOf] at e
      · simp [contextOf, tallyReject, e]
      · simp [contextOf, tallyReject, e, raise_stopped]
    | previous =>
      refine ⟨fun e => ?_, fun c e hc => ?_⟩ <;> simp only [contextOf] at e
      · simp [contextOf, tallyReject, e]
      · simp [contextOf, tallyReject, e, raise_stopped]
    | ended => exact ⟨fun _ => rfl, fun c e => nomatch e⟩
  · rw [if_neg h]
    refine .of_eq ?_
    cases r <;> cases t <;> first | rfl | exact absurd rfl h

theorem tallyOpen_stopped (t : JobTag) (r : Row) (s : State) (l : Lane) :
    TalliesStopped t (if r.tag = t ∧ openIn l r = true then 1 else 0) s (tallyOpen r s l) := by
  unfold tallyOpen
  cases ho : openIn l r with
  | true => simpa using tallyReject_stopped t r.tag s
  | false => simpa using TalliesStopped.of_eq rfl

/-- The OPEN entries of the rows of a tag, row by row and lane by lane. -/
theorem openEntries_eq (t : JobTag) (track : List Row) : openEntries t track =
    (track.map fun r => (allLanes.map fun l =>
      if r.tag = t ∧ openIn l r = true then 1 else 0).sum).sum := by
  unfold openEntries
  induction track with
  | nil => rfl
  | cons r track ih =>
    rw [List.map_cons, List.sum_cons, ← ih]
    by_cases h : r.tag = t
    · have hrow : (allLanes.map fun l => if r.tag = t ∧ openIn l r = true then 1 else 0).sum =
          allLanes.countP fun l => openIn l r := by
        simp [h, allLanes, List.countP_cons, Nat.add_comm]
      rw [hrow]
      simp [h]
    · simp [h, allLanes]

/-- The OPEN entries of the track are tallied STOPPED in their rows' contexts (R54). -/
theorem tallyStopped_stopped (t : JobTag) (s : State) :
    TalliesStopped t (openEntries t s.rot.track) s (tallyStopped s) := by
  rw [openEntries_eq]
  exact .foldl (fun u r => .foldl (fun v l => tallyOpen_stopped t r v l) allLanes u) _ s

/-! ### PREVIOUS freed among the missing arrivals -/

/-- Job Control after some arrivals are counted missing: as it was, or with PREVIOUS freed. -/
inductive JobsAfter (s u : State) : Prop where
  | kept (jbc : u.jbc = s.jbc) (rot : u.rot = s.rot) (rpw : u.rpw = s.rpw)
  | freed (d : JobContext) (held : s.jbc.previous = some d) (done : LastRowDone d s)
      (previous : u.jbc.previous = none) (current : u.jbc.current = s.jbc.current)
      (track : u.rot.track = s.rot.track.map fun x =>
        if x.tag = .previous then { x with tag := .ended } else x)
      (queue : otherRecords s.rpw.queue < 4 → u.rpw.queue = s.rpw.queue ++ [endOf d])

theorem JobsAfter.refl (s : State) : JobsAfter s s := .kept rfl rfl rfl

theorem JobsAfter.trans {s u v : State} (h : JobsAfter s u) (g : JobsAfter u v) : JobsAfter s v := by
  cases h with
  | kept jbc rot rpw =>
    cases g with
    | kept jbc' rot' rpw' => exact .kept (jbc'.trans jbc) (rot'.trans rot) (rpw'.trans rpw)
    | freed d held done previous current track queue =>
      rw [jbc] at held current
      rw [rot] at track
      rw [rpw] at queue
      exact .freed d held ((lastRowDone_congr rfl rot).1 done) previous current track queue
  | freed d held done previous current track queue =>
    cases g with
    | kept jbc' rot' rpw' =>
      exact .freed d held done (by rw [jbc', previous]) (by rw [jbc', current]) (by rw [rot', track])
        (by rw [rpw']; exact queue)
    | freed d' held' => rw [previous] at held'; cases held'

theorem freeingTest_jobs (s : State) : JobsAfter s (freeingTest s) := by
  cases hd : s.jbc.previous with
  | none => rw [freeingTest_none hd]; exact .refl s
  | some d =>
    by_cases h : LastRowDone d s ∧ ∀ k, NoneOfItsRows d (s.lnd.get k).arrivals
    · have hfreed := freePrevious_freed d s
      rw [freeingTest_freed hd h.1 h.2]
      exact .freed d hd h.1 hfreed.jobs.1 hfreed.jobs.2.2 hfreed.rows fun hq => (hfreed.record.1 hq).1
    · rw [freeingTest_kept hd (by rwa [not_and_or, not_forall] at h)]
      exact .refl s

theorem missAll_jobs (l : Lane) (q : List Arrival) (s : State) : JobsAfter s (missAll l q s) := by
  induction q generalizing s with
  | nil => exact .refl s
  | cons a q ih =>
    have hresolved : JobsAfter s (resolve l a.stackId false (setArrivals l q s)) :=
      .kept (by simp) (by simp) (by simp)
    exact (hresolved.trans (freeingTest_jobs _)).trans (ih _)

theorem missLanes_jobs (s : State) : JobsAfter s (allLanes.foldl missLane s) :=
  foldl_rel JobsAfter.refl JobsAfter.trans (fun u l => missAll_jobs l _ u) _ s

/-! ### The JOB_END records -/

theorem endContexts_queue (s : State) :
    (endContexts s).rpw.queue = (queueJobEnd s.jbc.current (queueJobEnd s.jbc.previous s)).rpw.queue := by
  simp [endContexts, clearTargets]

/-- CURRENT alone ends with its JOB_END. -/
theorem endContexts_one {s : State} {c : JobContext} (hc : s.jbc.current = some c)
    (hp : s.jbc.previous = none) (hroom : otherRecords s.rpw.queue < 4) :
    (endContexts s).rpw.queue = s.rpw.queue ++ [endOf c] := by
  rw [endContexts_queue, hc, hp]
  exact queueJobEnd_room hroom

/-- Both contexts end, PREVIOUS first. -/
theorem endContexts_two {s : State} {c d : JobContext} (hc : s.jbc.current = some c)
    (hd : s.jbc.previous = some d) (hroom : otherRecords s.rpw.queue < 3) :
    (endContexts s).rpw.queue = s.rpw.queue ++ [endOf d, endOf c] := by
  have hfirst := queueJobEnd_room (c := d) (s := s) (by omega)
  have hothers : otherRecords (queueJobEnd (some d) s).rpw.queue < 4 := by
    rw [hfirst, otherRecords_append]
    split <;> omega
  rw [endContexts_queue, hc, hd, queueJobEnd_room hothers, hfirst, List.append_assoc]
  rfl

/-- Before the contexts end, the closes and the grants leave Job Control and the queue as the tallies left
them. -/
theorem runClosed_jobs (k : CloseKind) (s : State) :
    (clearStops (runClosed k s)).jbc = (tallyStopped (allLanes.foldl missLane s)).jbc ∧
    (clearStops (runClosed k s)).rpw = (allLanes.foldl missLane s).rpw := by
  simp [runClosed]

theorem openEntries_retagged (track : List Row) :
    openEntries .current (track.map fun x =>
      if x.tag = .previous then { x with tag := .ended } else x) = openEntries .current track := by
  rw [openEntries_eq, openEntries_eq, List.map_map]
  congr 1
  refine List.map_congr_left fun r _ => ?_
  by_cases h : r.tag = .previous <;> simp [h]

/-- The contexts as the abandoned run ends them (R162). -/
theorem abandonRun_contexts (k : CloseKind) {s t : State}
    (ht : t.rpw.queue = (endContexts (clearStops (runClosed k s))).rpw.queue) : ContextsEnded s t := by
  obtain ⟨hjbc, hrpw⟩ := runClosed_jobs k s
  have hcurrent := tallyStopped_stopped .current (allLanes.foldl missLane s)
  have hprevious := tallyStopped_stopped .previous (allLanes.foldl missLane s)
  have hjobs := missLanes_jobs s
  generalize allLanes.foldl missLane s = u at *
  generalize clearStops (runClosed k s) = v at *
  have hc : ∀ c, u.jbc.current = some c → c.tallies.stopped ≤ 65535 →
      v.jbc.current = some (stoppedBy (openEntries .current u.rot.track) c) := fun c e h => by
    rw [hjbc]
    exact hcurrent.some c e h
  have hp : ∀ d, u.jbc.previous = some d → d.tallies.stopped ≤ 65535 →
      v.jbc.previous = some (stoppedBy (openEntries .previous u.rot.track) d) := fun d e h => by
    rw [hjbc]
    exact hprevious.some d e h
  have hn : u.jbc.previous = none → v.jbc.previous = none := fun e => by
    rw [hjbc]
    exact hprevious.none e
  cases hjobs with
  | kept jbc rot rpw =>
    rw [jbc, rot] at hc hp
    rw [jbc] at hn
    refine ⟨fun c ec ep hle hroom => ?_, fun c d ec ed hle hle' hroom _ => ?_⟩ <;> rw [ht]
    · rw [endContexts_one (hc c ec hle) (hn ep) (by rw [hrpw, rpw]; exact hroom), hrpw, rpw,
        endOf_stoppedBy]
    · rw [endContexts_two (hc c ec hle) (hp d ed hle') (by rw [hrpw, rpw]; exact hroom), hrpw, rpw,
        endOf_stoppedBy, endOf_stoppedBy]
  | freed d' held done previous current track queue =>
    rw [current, track, openEntries_retagged] at hc
    refine ⟨fun c _ ep => (nomatch ep.symm.trans held), fun c d ec ed hle hle' hroom hrows => ?_⟩
    rw [ed] at held
    cases held
    have hzero : openEntries .previous s.rot.track = 0 := hrows.resolve_right fun ⟨n, r, hn', hr, hopen⟩ => by
      rw [done n r hn' hr] at hopen
      cases hopen
    have hqueue := queue (by omega)
    rw [ht, endContexts_one (hc c ec hle) (hn previous) (by
      rw [hrpw, hqueue, otherRecords_append]
      split <;> omega), hrpw, hqueue, hzero, endOf_stoppedBy, ← endOf_stoppedBy 0 d', stoppedBy_zero hle',
      List.append_assoc]
    rfl

end Sys2Proof.Machine
end

section
/-! ABORT and ACK_FAULT (R162, R163). -/
namespace Sys2Proof.Machine

/-! ### What the abandoned run leaves -/

/-- A grant leaves the conveyors that are PUSHING. -/
theorem grantTurn_pushing {d c : Conveyor} {l : Lane} {n : Nat} {s : State}
    (h : s.tka.conveyors.get c = .pushing l n) : (grantTurn d s).tka.conveyors.get c = .pushing l n := by
  obtain e | ⟨m, j, -, hfree, -, -, e⟩ := grantTurn_cases d s
  · rwa [e]
  · rw [e]
    have hne : c ≠ d := fun hcd => by rw [hcd, hfree] at h; cases h
    simpa [grant, setConveyor, setWaiting, Conveyors.get_set_ne _ _ hne] using h

theorem passIfJoined_pushing {c : Conveyor} {l : Lane} {n : Nat} {s : State} (b : State)
    (h : s.tka.conveyors.get c = .pushing l n) :
    (passIfJoined b s).tka.conveyors.get c = .pushing l n := by
  unfold passIfJoined
  split
  · exact h
  · exact grantTurn_pushing (grantTurn_pushing h)

theorem missLanes_flapLead (s : State) (l : Lane) :
    ((allLanes.foldl missLane s).lnd.get l).flapLead = (s.lnd.get l).flapLead :=
  (foldl_reacts missLane_reacts allLanes s).flapLead l

/-- The part in READY, its knife and its fault code as the command leaves them. -/
def readied (v : State) (x : Knt) (e : Option HaltingFault) : State :=
  setRunState .ready ((v.setKnt x).setRnc { v.rnc with faultCode := e })

theorem readied_own (v : State) : readied v v.knt v.rnc.faultCode = setRunState .ready v := rfl

theorem acknowledge_eq (s : State) : acknowledge s =
    readied (abandonRun .shortFault s) (abandonRun .shortFault s).knt.acknowledge none := by
  unfold acknowledge
  generalize abandonRun .shortFault s = v
  rfl

section
variable (k : CloseKind) (s : State)

/-- The blocks as steps 1 to 5 of R162 leave them. -/
theorem abandonRun_blocks :
    (abandonRun k s).rot = { track := [], lastNumber := s.rot.lastNumber, overflowDetector := .armed } ∧
    (abandonRun k s).jbc = { current := none, previous := none, closePending := Lanes.fill false } ∧
    (abandonRun k s).mkt = s.mkt.noNewest.toIdle ∧ (abandonRun k s).knt = s.knt.untrack ∧
    (abandonRun k s).ntp = s.ntp ∧ (abandonRun k s).trc = s.trc ∧
    (abandonRun k s).rnc = s.rnc.noStops ∧ (abandonRun k s).lnd = (allLanes.foldl missLane s).lnd := by
  have hkept : (allLanes.foldl missLane s).mkt = s.mkt ∧ (allLanes.foldl missLane s).knt = s.knt ∧
      (allLanes.foldl missLane s).rot.lastNumber = s.rot.lastNumber ∧
      (allLanes.foldl missLane s).ntp = s.ntp ∧ (allLanes.foldl missLane s).trc = s.trc ∧
      (allLanes.foldl missLane s).rnc = s.rnc := by
    simp [allLanes]
  obtain ⟨hmkt, hknt, hnumber, hntp, htrc, hrnc⟩ := hkept
  rw [abandonRun_eq, runClosed]
  generalize allLanes.foldl missLane s = u at *
  refine ⟨?_, ?_, ?_, ?_, ?_, ?_, ?_, ?_⟩
  · simp [emptyTrack, hnumber]
  · simp [endContexts, clearTargets]
  · simp [trackerToIdle, emptyTrack, hmkt]
  · simp [emptyTrack, hknt]
  · simp [hntp]
  · simp [htrc]
  · simp [clearStops, hrnc]
  · simp

theorem abandonRun_line (l : Lane) :
    ((abandonRun k s).skc.get l).line = ((runClosed k s).skc.get l).line ∧
    ((abandonRun k s).skc.get l).targetCurrent = none ∧
    ((abandonRun k s).skc.get l).targetPrevious = none := by
  simp [abandonRun_eq, endContexts, clearTargets]

theorem abandonRun_queue :
    (abandonRun k s).rpw.queue = (endContexts (clearStops (runClosed k s))).rpw.queue := rfl

theorem abandonRun_pushing {c : Conveyor} {l : Lane} {n : Nat}
    (h : s.tka.conveyors.get c = .pushing l n) : (abandonRun k s).tka.conveyors.get c = .pushing l n := by
  have hbefore : (closeAll k (emptyTrack (tallyStopped (allLanes.foldl missLane s)))).tka.conveyors =
      s.tka.conveyors := by
    simp [allLanes]
  have hclosed := passIfJoined_pushing s (c := c) (l := l) (n := n)
    (s := closeAll k (emptyTrack (tallyStopped (allLanes.foldl missLane s)))) (by rw [hbefore]; exact h)
  simpa [abandonRun_eq, runClosed] using hclosed

variable {k s}

/-- ABORT and ACK_FAULT leave the run abandoned, whatever they leave of the stalls and the fault code. -/
theorem runAbandoned_readied {x : Knt} {e : Option HaltingFault} (hrun : s.rnc.runState ≠ .ready)
    (hx : ∃ n i, x = { s.knt.untrack with stallCount := n, inhibit := i }) :
    RunAbandoned k s (readied (abandonRun k s) x e) := by
  obtain ⟨n, i, rfl⟩ := hx
  obtain ⟨hrot, hjbc, hmkt, hknt, hntp, htrc, hrnc, hlnd⟩ := abandonRun_blocks k s
  have hreacts := abandonRun_reacts k s
  have harrivals := missLanes_line s
  have hlead := missLanes_flapLead s
  constructor
  case lines =>
    intro h l
    simpa [readied, (abandonRun_line k s l).1] using runClosed_line (k := k) h l
  case contexts => exact abandonRun_contexts k (by simp [readied, abandonRun_queue])
  case runState => simp [readied, halt]
  case track => simp [readied, hrot]
  case arrivals =>
    intro l
    simp [readied, hlnd, (harrivals l).2, hlead l, Lnd.rejectFlap]
  case jobs => simp [readied, hjbc]
  case targets =>
    intro l
    simpa [readied] using (abandonRun_line k s l).2
  case lanesKept =>
    intro l
    simp [readied]
  case stops => simp [readied, hrnc]
  case tracker => simp [readied, hmkt, Mkt.toIdle, Mkt.noNewest]
  case trackerKept => simp [readied, hmkt, Mkt.toIdle, Mkt.noNewest]
  case knifeKept => simp [readied, Knt.untrack]
  case notes => simp [readied, hntp]
  case travel => simp [readied, htrc]
  case record => simp [readied, hrnc]
  case port =>
    refine ⟨by simp [readied, hreacts.memory], by simp [readied, hreacts.mask], ?_⟩
    rw [readied, setRunState_attention]
    simp [hrnc, hrun]
  case pushes =>
    intro c l m h
    simpa [readied] using abandonRun_pushing k s h

end

/-! ### The commands -/

/-- A command's record of itself leaves the run as it is: what is abandoned after it, is abandoned. -/
theorem runAbandoned_recorded {k : CloseKind} {b : Byte} {x : CommandResult} {s t : State}
    (h : RunAbandoned k (recordCommand b x s) t) : RunAbandoned k s t := by
  have hkeeps := recordCommand_keeps b x s
  obtain ⟨lines, contexts, runState, track, arrivals, jobs, targets, lanesKept, stops, tracker,
    trackerKept, knifeKept, notes, travel, record, port, pushes⟩ := h
  have hinv : StackInv s → StackInv (recordCommand b x s) := by
    rw [stackInv_iff, stackInv_iff]
    rintro ⟨ha, hl⟩
    exact ⟨((arbiterHeld_kept False).recordCommand s b x ⟨ha, nofun⟩).1, by simpa [LinesOk] using hl⟩
  have hcontexts : ContextsEnded s t := by
    refine ⟨fun c hc hp => ?_, fun c d hc hd h1 h2 hroom hrows => ?_⟩
    · simpa using contexts.one c (by simpa using hc) (by simpa using hp)
    · have := contexts.two c d (by simpa using hc) (by simpa using hd) h1 h2 (by simpa using hroom)
      simp only [findRow, hkeeps] at this
      exact this hrows
  simp only [hkeeps] at lines track arrivals lanesKept trackerKept knifeKept notes travel record port pushes
  exact ⟨fun hs => lines (hinv hs), hcontexts, runState, track, arrivals, jobs, targets, lanesKept, stops,
    tracker, trackerKept, knifeKept, notes, travel, record, port, pushes⟩

/-- Settles O7: ABORT and ACK_FAULT abandon the run, and ACK_FAULT clears the knife and the fault code
besides. -/
theorem abortAndAckFaultAbandonTheRun : Obligations.AbortAndAckFaultAbandonTheRun := by
  refine ⟨fun s hs => ?_, fun s hs hstill => ?_⟩
  · obtain ⟨-, -, -, hknt, -, -, hrnc, -⟩ := abandonRun_blocks .shortAbort (recordCommand 3#8 .accepted s)
    have hexec : exec .abort s =
        .next (setRunState .ready (abandonRun .shortAbort (recordCommand 3#8 .accepted s))) := by
      obtain hs | hs := hs <;> simp only [exec, execAbort, commandAbort, hs]
    rw [hexec, ← readied_own]
    refine ⟨_, rfl, runAbandoned_recorded (runAbandoned_readied ?_ ⟨_, _, hknt⟩), ?_, ?_, ?_⟩
    · obtain hs | hs := hs <;> simp [hs]
    · simp [readied, hknt, Knt.untrack]
    · simp [readied, hknt, Knt.untrack]
    · simp [readied, hrnc]
  · obtain ⟨-, -, -, hknt, -, -, hrnc, -⟩ := abandonRun_blocks .shortFault (recordCommand 4#8 .accepted s)
    have hexec : exec .ackFault s = .next (acknowledge (recordCommand 4#8 .accepted s)) := by
      simp only [exec, execAckFault, commandAckFault, hs, hstill, if_true]
    rw [hexec, acknowledge_eq]
    refine ⟨_, rfl, runAbandoned_recorded (runAbandoned_readied (by simp [hs]) ⟨0, false, ?_⟩), ?_, ?_, ?_⟩
    · rw [hknt]
      rfl
    · simp [readied, Knt.acknowledge]
    · simp [readied, Knt.acknowledge]
    · simp [readied]

end Sys2Proof.Machine
end

section
/-! No block looks at the accesses that wait: what a note, a check or a START does is the same with others
waiting (R170). -/
namespace Sys2Proof.Machine

section
variable (q : List PressAccess) (s : State)

/-! ### Reading and setting -/

@[simp] theorem withWaiting_keeps :
    (withWaiting q s).trc = s.trc ∧ (withWaiting q s).mkt = s.mkt ∧ (withWaiting q s).rot = s.rot ∧
    (withWaiting q s).knt = s.knt ∧ (withWaiting q s).ntp = s.ntp ∧ (withWaiting q s).lnd = s.lnd ∧
    (withWaiting q s).skc = s.skc ∧ (withWaiting q s).tka = s.tka ∧ (withWaiting q s).jbc = s.jbc ∧
    (withWaiting q s).rnc = s.rnc ∧ (withWaiting q s).rpw = s.rpw ∧
    (withWaiting q s).choices = s.choices ∧ (withWaiting q s).pxm.memory = s.pxm.memory ∧
    (withWaiting q s).pxm.requests = s.pxm.requests ∧ (withWaiting q s).pxm.burst = s.pxm.burst ∧
    (withWaiting q s).pxm.attention = s.pxm.attention :=
  ⟨rfl, rfl, rfl, rfl, rfl, rfl, rfl, rfl, rfl, rfl, rfl, rfl, rfl, rfl, rfl, rfl⟩

@[simp] theorem withWaiting_waiting : (withWaiting q s).pxm.waiting = q := rfl

/-- The accesses that wait are set before or after a block. -/
@[simp] theorem withWaiting_set :
    (∀ x, (withWaiting q s).setTrc x = withWaiting q (s.setTrc x)) ∧
    (∀ x, (withWaiting q s).setMkt x = withWaiting q (s.setMkt x)) ∧
    (∀ x, (withWaiting q s).setRot x = withWaiting q (s.setRot x)) ∧
    (∀ x, (withWaiting q s).setKnt x = withWaiting q (s.setKnt x)) ∧
    (∀ x, (withWaiting q s).setNtp x = withWaiting q (s.setNtp x)) ∧
    (∀ x, (withWaiting q s).setLnd x = withWaiting q (s.setLnd x)) ∧
    (∀ x, (withWaiting q s).setSkc x = withWaiting q (s.setSkc x)) ∧
    (∀ x, (withWaiting q s).setTka x = withWaiting q (s.setTka x)) ∧
    (∀ x, (withWaiting q s).setJbc x = withWaiting q (s.setJbc x)) ∧
    (∀ x, (withWaiting q s).setRnc x = withWaiting q (s.setRnc x)) ∧
    (∀ x, (withWaiting q s).setRpw x = withWaiting q (s.setRpw x)) ∧
    (∀ x, (withWaiting q s).setChoices x = withWaiting q (s.setChoices x)) := by
  simp only [implies_true, and_true, State.setTrc, State.setMkt, State.setRot, State.setKnt, State.setNtp,
    State.setLnd, State.setSkc, State.setTka, State.setJbc, State.setRnc, State.setRpw, State.setChoices,
    withWaiting]

/-- A step that never looks at the accesses that wait. -/
def Blind (f : State → State) : Prop := ∀ s, f (withWaiting q s) = withWaiting q (f s)

variable {q}

theorem Blind.ite {c : Prop} [Decidable c] {s : State} {f g : State → State} (hf : Blind q f)
    (hg : Blind q g) : (if c then f (withWaiting q s) else g (withWaiting q s)) =
      withWaiting q (if c then f s else g s) := by
  rw [apply_ite (withWaiting q), hf, hg]

theorem foldl_blind {α : Type} {f : State → α → State}
    (h : ∀ s x, f (withWaiting q s) x = withWaiting q (f s x)) (l : List α) (s : State) :
    l.foldl f (withWaiting q s) = withWaiting q (l.foldl f s) := by
  induction l generalizing s with
  | nil => rfl
  | cons x l ih => rw [List.foldl_cons, h, ih, List.foldl_cons]

theorem takeAll_blind {α : Type} {act : α → State → State} (h : ∀ x, Blind q (act x)) (l : List α) :
    Blind q (takeAll act l) := by
  induction l with
  | nil => exact fun _ => rfl
  | cons x l ih =>
    intro s
    show takeAll act l (act x (withWaiting q s)) = _
    rw [h x s]
    exact ih (act x s)

/-- Due acts that do not look at the accesses that wait are taken alike, in the same order. -/
theorem takeDue_blind {α : Type} {due : α → State → Bool} {act : α → State → State}
    (hd : ∀ x s, due x (withWaiting q s) = due x s) (ha : ∀ x, Blind q (act x)) (l : List α) :
    Blind q (takeDue due act l) := by
  intro s
  unfold takeDue
  simp only [hd]
  split
  · rfl
  · exact ha _ s
  · simp only [withWaiting_keeps, withWaiting_set]
    exact takeAll_blind ha _ _

/-! ### Requests and records -/

theorem askFor_blind (b : BurstSource) (n : Bool) : Blind q (askFor b n) := fun s => by
  unfold askFor
  rw [apply_ite (withWaiting q)]
  rfl

theorem setNoteWork_blind (w : List NoteBurst) : Blind q (setNoteWork w) := fun s =>
  askFor_blind .notes _ (s.setNtp { s.ntp with work := w })

theorem updateReportRequest_blind : Blind q updateReportRequest := fun s => askFor_blind .reports _ s

theorem queueRecord_blind (r : Record) : Blind q (queueRecord r) := fun s => by
  unfold queueRecord
  rw [apply_ite (withWaiting q), ← updateReportRequest_blind]
  rfl

theorem setRunState_blind (r : RunState) : Blind q (setRunState r) := fun s => by
  have hflagged : (if s.rnc.runState = r then (withWaiting q s).setRnc { s.rnc with runState := r }
      else flagState ((withWaiting q s).setRnc { s.rnc with runState := r })) =
      withWaiting q (if s.rnc.runState = r then s.setRnc { s.rnc with runState := r }
        else flagState (s.setRnc { s.rnc with runState := r })) := by
    rw [apply_ite (withWaiting q)]
    rfl
  unfold setRunState
  dsimp only
  simp only [withWaiting_keeps, hflagged]
  cases r <;> rfl

theorem recordCommand_blind (b : Byte) (r : CommandResult) : Blind q (recordCommand b r) := fun _ => rfl

/-! ### Lines and grants -/

theorem joinWaiting_blind (l : Lane) : Blind q (joinWaiting l) := fun s => by
  unfold joinWaiting
  simp only [withWaiting_keeps]
  split
  · rfl
  · rw [apply_ite (withWaiting q)]
    rfl

theorem grantTurn_blind (c : Conveyor) : Blind q (grantTurn c) := fun s => by
  unfold grantTurn
  simp only [withWaiting_keeps]
  repeat' split
  all_goals rfl

theorem grantPass_blind : Blind q grantPass := fun s => by
  unfold grantPass
  rw [grantTurn_blind, grantTurn_blind]

theorem passIfJoined_blind (b : State) : Blind q (passIfJoined b) := fun s => by
  unfold passIfJoined
  rw [apply_ite (withWaiting q), ← grantPass_blind]
  rfl

theorem passIfJoined_before (b s : State) : passIfJoined (withWaiting q b) s = passIfJoined b s := rfl

theorem shortClose_blind (k : CloseKind) (l : Lane) : Blind q (shortClose k l) := fun s => by
  unfold shortClose
  simp only [withWaiting_keeps]
  split
  · rfl
  · split
    · exact joinWaiting_blind l (setLine l _ s)
    · rfl

theorem suspectMark_blind (l : Lane) (id : Nat) (n : RowNum) : Blind q (suspectMark l id n) := fun s => by
  unfold suspectMark
  rw [apply_ite (withWaiting q), ← queueRecord_blind]
  rfl

theorem setShelfLimits_blind : Blind q setShelfLimits := by
  have hone : ∀ l, Blind q (setShelfLimit l) := fun l s => by
    unfold setShelfLimit shelfGoal
    simp only [withWaiting_keeps]
    split <;> rfl
  intro s
  unfold setShelfLimits
  rw [hone, hone, hone, hone]

/-! ### Jobs -/

theorem freeingTest_blind : Blind q freeingTest := by
  have hfree : ∀ c, Blind q (freePrevious c) := fun c s => by
    unfold freePrevious
    dsimp only
    rw [queueRecord_blind]
    exact congrArg (fun u : State => u.setJbc { u.jbc with previous := none, closePending := Lanes.fill false })
      (setShelfLimits_blind (clearPreviousTargets (setTrack
        (retag .previous .ended (queueRecord (jobEndRecord c) s).rot.track)
        (queueRecord (jobEndRecord c) s))))
  intro s
  unfold freeingTest
  simp only [withWaiting_keeps]
  split
  · rfl
  next c _ =>
    have htest : (lastRowDecided c (withWaiting q s) && noOldArrivals c (withWaiting q s)) =
        (lastRowDecided c s && noOldArrivals c s) := rfl
    rw [htest, apply_ite (withWaiting q), hfree]

theorem dueJobCloses_blind (n : Option RowNum) : Blind q (dueJobCloses n) := by
  have hclose : ∀ n s l, closeIfDecided n (withWaiting q s) l = withWaiting q (closeIfDecided n s l) := by
    intro n s l
    show (if _ then dropClosePending l (shortClose .shortJob l (withWaiting q s)) else _) = _
    rw [shortClose_blind]
    unfold closeIfDecided
    rw [apply_ite (withWaiting q)]
    rfl
  intro s
  unfold dueJobCloses
  split
  · rfl
  · rw [foldl_blind (hclose _) allLanes s, passIfJoined_before]
    exact passIfJoined_blind s _

theorem withFirstJob_blind (j : JobRecord) : Blind q (withFirstJob j) := fun s => by
  simp only [withFirstJob, withWaiting_keeps, withWaiting_set, setRunState_blind _ _,
    setShelfLimits_blind _]

theorem activateJob_blind (j : JobRecord) : Blind q (activateJob j) := fun s => by
  rw [activateJob_eq, activateJob_eq, withFirstJob_blind]
  exact queueRecord_blind _ _

theorem withNextJob_blind (j : JobRecord) : Blind q (withNextJob j) := fun s => by
  simp only [withNextJob, setTrack, withWaiting_keeps, withWaiting_set, setShelfLimits_blind _]

theorem changeover_blind (j : JobRecord) : Blind q (changeover j) := fun s => by
  rw [changeover_eq, changeover_eq, withNextJob_blind, (withWaiting_keeps q s).2.2.2.2.2.2.2.2.1,
    dueJobCloses_blind]
  refine Eq.trans (congrArg freeingTest ?_) (freeingTest_blind _)
  exact queueRecord_blind _ _

/-! ### What the notes do -/

/-- What a note does, looking at no access that waits. -/
def NoteBlind (q : List PressAccess) (f : State → Note → State × Fate × Nat) : Prop :=
  ∀ s n, f (withWaiting q s) n = (withWaiting q (f s n).1, (f s n).2)

theorem visitLane_blind (n : RowNum) (x : Reason) (a : Collected) (l : Lane) :
    visitLane n x { a with state := withWaiting q a.state } l =
      { visitLane n x a l with state := withWaiting q (visitLane n x a l).state } := by
  have hfind : findRow n (withWaiting q a.state) = findRow n a.state := rfl
  unfold visitLane
  simp only [hfind]
  split
  · rfl
  · split
    · rfl
    · rfl
    · simp only [suspectMark_blind l _ n a.state]
    · rfl

theorem visitFold_blind {α : Type} {f : Collected → α → Collected}
    (h : ∀ a x, f { a with state := withWaiting q a.state } x =
      { f a x with state := withWaiting q (f a x).state }) (l : List α) (a : Collected) :
    l.foldl f { a with state := withWaiting q a.state } =
      { l.foldl f a with state := withWaiting q (l.foldl f a).state } := by
  induction l generalizing a with
  | nil => rfl
  | cons x l ih => rw [List.foldl_cons, h, ih, List.foldl_cons]

theorem visitRow_blind (n : RowNum) (x : Reason) (lanes : LaneSet) (a : Collected) :
    visitRow n x lanes { a with state := withWaiting q a.state } =
      { visitRow n x lanes a with state := withWaiting q (visitRow n x lanes a).state } :=
  visitFold_blind (visitLane_blind n x) (lanesOf lanes) a

theorem applyTracked_blind (a b : Count) (x : SpanReach) (r : Reason) (s : State) :
    applyTracked a b x r (withWaiting q s) =
      { applyTracked a b x r s with state := withWaiting q (applyTracked a b x r s).state } :=
  visitFold_blind (fun c row => visitRow_blind row.number r (reachIn x row.tag s) c)
    (s.rot.track.filter (hitAlong a b)) ⟨s, false, Lanes.fill false⟩

theorem holdRemainder_blind (w : Option WebSpan) (k : LaneSet) (r : SpanReason) (s : State) :
    holdRemainder w k r (withWaiting q s) =
      (withWaiting q (holdRemainder w k r s).1, (holdRemainder w k r s).2) := by
  unfold holdRemainder
  simp only [withWaiting_keeps]
  repeat' split
  all_goals rfl

theorem spanOutcome_blind : NoteBlind q spanOutcome := fun s n => by
  unfold spanOutcome
  simp only [withWaiting_keeps]
  split
  · unfold applySpanNote
    dsimp only
    rw [applyTracked_blind]
    dsimp only
    rw [holdRemainder_blind]
    rfl
  · rfl

theorem applyRowNote_blind (n : RowNum) (lanes : LaneSet) (s : State) :
    applyRowNote n lanes (withWaiting q s) =
      (withWaiting q (applyRowNote n lanes s).1, (applyRowNote n lanes s).2) := by
  have hstanding : standing n (withWaiting q s) = standing n s := rfl
  have hvisit := visitRow_blind (q := q) n .defect lanes ⟨s, false, Lanes.fill false⟩
  dsimp only at hvisit
  unfold applyRowNote
  rw [hstanding, hvisit]
  repeat' split
  all_goals rfl

theorem rowOutcome_blind : NoteBlind q rowOutcome := fun s n => by
  unfold rowOutcome
  simp only [withWaiting_keeps]
  split
  · exact applyRowNote_blind _ _ s
  · rfl

theorem applyActions_blind (j : JobRecord) (lanes : LaneSet) (x : LaneActions) (n : Nat) :
    Blind q (applyActions j lanes x n) := by
  have hholds : ∀ (b v : Bool), Blind q fun s => if b then setHolds lanes v s else s := fun b v s => by
    cases b <;> rfl
  have hcloses : Blind q fun s => if x.closeShort then closeLanes lanes s else s := fun s => by
    dsimp only
    rw [apply_ite (withWaiting q)]
    unfold closeLanes
    rw [foldl_blind (fun s l => shortClose_blind .shortCmd l s), passIfJoined_before, passIfJoined_blind]
  have htargets : Blind q fun s => if x.target then setTargets j lanes n s else s := fun s => by
    cases x.target <;> rfl
  intro s
  have h1 := hholds x.hold true s
  have h2 := hholds x.release false (if x.hold then setHolds lanes true s else s)
  dsimp only at h1 h2
  have h3 := hcloses (if x.release then setHolds lanes false (if x.hold then setHolds lanes true s else s)
    else if x.hold then setHolds lanes true s else s)
  dsimp only at h3
  unfold applyActions
  dsimp only
  rw [h1, h2, h3]
  exact htargets _

theorem laneOutcome_blind : NoteBlind q laneOutcome := fun s n => by
  unfold laneOutcome
  split
  · unfold applyLaneNote
    simp only [withWaiting_keeps]
    split
    · rfl
    · split
      · rfl
      · rw [applyActions_blind]
  · rfl

theorem conveyorOutcome_blind : NoteBlind q conveyorOutcome := fun s n => by
  unfold conveyorOutcome
  split
  next c =>
    unfold applyConveyorNote
    simp only [withWaiting_keeps]
    split
    · rw [← grantPass_blind]
      rfl
    · rfl
    · rfl
  · rfl

theorem badOutcome_blind : NoteBlind q badOutcome := fun _ _ => rfl

theorem jobOutcome_blind (k : Nat) (s : State) :
    jobOutcome k (withWaiting q s) = (withWaiting q (jobOutcome k s).1, (jobOutcome k s).2) := by
  have hstanding : jobStanding (withWaiting q s) = jobStanding s := rfl
  unfold jobOutcome
  simp only [withWaiting_keeps, hstanding]
  split
  · split
    · rw [activateJob_blind]
    · rfl
  · split
    · rw [changeover_blind]
    · rfl
  · rfl

/-! ### The end of a note -/

theorem requestTogether_blind (b s : State) : requestTogether (withWaiting q b) (withWaiting q s) =
    withWaiting q (requestTogether b s) := by
  unfold requestTogether
  rw [apply_ite (withWaiting q)]
  refine if_congr Iff.rfl ?_ rfl
  exact takeDue_blind (due := requestDue) (act := requestBurst) (fun _ _ => rfl) (fun _ _ => rfl)
    [.notes, .reports] (withdrawBurst .reports s)

theorem giveFate_blind (b : State) (p : Page) (i : Nat) (w : List NoteBurst) (s : State) (f : Fate × Nat) :
    giveFate (withWaiting q b) p i w (withWaiting q s, f) = withWaiting q (giveFate b p i w (s, f)) :=
  requestTogether_blind b ((popRequest s).setNtp { (popRequest s).ntp with work := .fateWrite p i f.1 f.2 :: w })

theorem finishNote_blind (b : State) (p : PageInWork) (s : State) (f : Fate × Nat) :
    finishNote (withWaiting q b) p (withWaiting q s, f) = withWaiting q (finishNote b p (s, f)) :=
  giveFate_blind b p.page p.next (workAfterNote p s.ntp.work)
    (s.setNtp { s.ntp with inWork := some { p with next := p.next + 1 } }) f

theorem finishLate_blind (b : State) (p : Page) (i : Nat) (s : State) (f : Fate × Nat) :
    finishLate (withWaiting q b) p i (withWaiting q s, f) = withWaiting q (finishLate b p i (s, f)) :=
  giveFate_blind b p i _ _ f

theorem noteEvent_blind {f : State → Note → State × Fate × Nat} (hf : NoteBlind q f) (s : State)
    (p : PageInWork) : noteEvent (withWaiting q s) p (f (withWaiting q s)) =
      withWaiting q (noteEvent s p (f s)) := by
  unfold noteEvent
  simp only [withWaiting_keeps]
  split
  · exact finishNote_blind s p s _
  · rw [hf]
    exact finishNote_blind s p _ _

theorem serveRead_blind (w : List NoteBurst) : Blind q (serveRead w) := fun s =>
  setNoteWork_blind w (popRequest s)

theorem jobNoteRead_blind {b : Nat} {f g : State × Fate × Nat → State} {k : Nat → NoteBurst} {s : State}
    (hf : ∀ o, g (withWaiting q s, o) = withWaiting q (f (s, o))) :
    jobNoteRead b g k (withWaiting q s) = withWaiting q (jobNoteRead b f k s) := by
  have hstanding : jobStanding (withWaiting q s) = jobStanding s := rfl
  unfold jobNoteRead
  simp only [withWaiting_keeps, hstanding, hf, serveRead_blind _ s]
  split
  · split <;> rfl
  · rfl
  · rfl

theorem checkPage_blind : Blind q checkPage := fun s => by
  have htake : Blind q takePage := fun u => by
    unfold takePage
    rw [apply_ite (withWaiting q), ← setNoteWork_blind]
    rfl
  have hfinds : checkFinds (withWaiting q s) = checkFinds s := rfl
  unfold checkPage
  simp only [withWaiting_keeps, hfinds, serveRead_blind _ s]
  rw [apply_ite (withWaiting q), htake]

/-! ### START -/

theorem startNotes_blind (ready : Bool) : Blind q (startNotes ready) := fun s =>
  setNoteWork_blind _ (s.setNtp
    { inWork := none, expectedPage := .a, horizon := none, guardPoint := none, spans := [],
      work := s.ntp.work })

theorem startPart_blind (r : MachineRecord) : Blind q (startPart r) := fun s => by
  simp only [startPart, formLeads, withWaiting_keeps, withWaiting_set, startNotes_blind _ _,
    setRunState_blind _ _]

theorem startEvent_blind : Blind q startEvent := fun s => by
  unfold startEvent
  simp only [withWaiting_keeps]
  split
  · exact startPart_blind _ (recordCommand 1#8 .accepted s)
  · exact startPart_blind _ (recordCommand 1#8 .accepted s)
  all_goals rfl

end

end Sys2Proof.Machine
end

section
/-! Accesses and the bursts they meet (R169, R170): what is served at once, what is held, and what the end of
a burst requests. -/
namespace Sys2Proof.Machine

/-! ### Writes and their watchers (R169) -/

/-- A word address spells no watched word when it is none of the four. -/
theorem watcherOf_unwatched {a : BitVec 12} (h : isWatchedWord a = false) :
    watcherOf (byteAddress a) = .nobody := by
  have hne : ∀ n : Nat, n < 4096 → a ≠ BitVec.ofNat 12 n → byteAddress a ≠ 2 * n := by
    intro n hn hne e
    refine hne (BitVec.eq_of_toNat_eq ?_)
    unfold byteAddress at e
    rw [BitVec.toNat_ofNat, Nat.mod_eq_of_lt hn]
    omega
  simp only [isWatchedWord, Bool.or_eq_false_iff, beq_eq_false_iff_ne] at h
  obtain ⟨⟨⟨h1, h2⟩, h3⟩, h4⟩ := h
  unfold watcherOf
  rw [if_neg (show byteAddress a ≠ pageBase .a from hne 0x200 (by decide) h1),
    if_neg (show byteAddress a ≠ pageBase .b from hne 0x400 (by decide) h2),
    if_neg (show byteAddress a ≠ halfBase .a from hne 0x800 (by decide) h3),
    if_neg (show byteAddress a ≠ halfBase .b from hne 0xC00 (by decide) h4)]

theorem serveAccess_unwatched {a : BitVec 12} (w : Word) (h : isWatchedWord a = false) (s : State) :
    serveAccess (.write a w) s = storeWord (byteAddress a) w s := by
  simp only [serveAccess, pressWrite, watcherOf_unwatched h]

theorem serveAccess_page (p : Page) (w : Word) (s : State) :
    serveAccess (.write (portAddress (pageBase p)) w) s =
      pagePostedAct p w (storeWord (pageBase p) w s) := by
  obtain ⟨hserved, hwatcher, -⟩ := pageBase_served p
  simp only [serveAccess, pressWrite, hserved, hwatcher]

theorem serveAccess_half (k : Half) (w : Word) (s : State) :
    serveAccess (.write (portAddress (halfBase k)) w) s =
      halfFreedAct k w (storeWord (halfBase k) w s) := by
  obtain ⟨hserved, hwatcher, -⟩ := halfBase_served k
  simp only [serveAccess, pressWrite, hserved, hwatcher]

theorem byteAddress_lt (a : BitVec 12) : byteAddress a + 1 < 8192 := by
  have := a.isLt
  unfold byteAddress
  omega

theorem memoryWrite_unwatched {a : BitVec 12} {s : State} (w : Word) (h : MemoryFree s)
    (hwatch : isWatchedWord a = false) :
    exec (.memoryWrite a w) s = .next (storeWord (byteAddress a) w s) := by
  show Host.Outcome.next (pressAccess (.write a w) s) = _
  rw [pressAccess_free h, serveAccess_unwatched w hwatch,
    beginNext_waits (s := storeWord (byteAddress a) w s) h.2.2]

/-! ### Accesses held by WAIT (R170) -/

theorem memoryHeld_of_read {s : State} (h : readBurst s = true) : memoryHeld s = true := by
  unfold memoryHeld
  rw [h, Bool.or_true]

/-- An access that meets a burst which only reads waits behind the others. -/
theorem pressAccess_read {s : State} (x : PressAccess) (h : readBurst s = true) :
    pressAccess x s = withWaiting (s.pxm.waiting ++ [x]) s := by
  have hsettled : (if s.pxm.waiting.isEmpty = true then s else settleMemory s) = s := by
    rw [settleMemory_read s h, ite_self]
  unfold pressAccess
  dsimp only
  rw [hsettled, if_pos (memoryHeld_of_read h)]
  rfl

/-- A burst that has the memory ends before an access that comes while another waits. -/
theorem pressAccess_settled {s : State} (x : PressAccess) (h : readBurst s = false)
    (hw : s.pxm.waiting ≠ []) : pressAccess x s = pressAccess x (settleMemory s) := by
  have hwaits : s.pxm.waiting.isEmpty = false := by simpa using hw
  have hempty : (settleMemory s).pxm.waiting.isEmpty = true := by rw [settleMemory_waiting h]; rfl
  simp only [pressAccess, hwaits, hempty, if_true, if_false, Bool.false_eq_true]

theorem wait_withWaiting {s : State} (x : PressAccess) (h : memoryHeld s = true) :
    wait (withWaiting [x] s) = true := h

/-! ### The end of a burst (R170) -/

theorem askFor_burst_none {b : BurstSource} {n : Bool} {s : State} (h : s.pxm.burst = none) :
    askFor b n s = if n then requestBurst b s else s := by
  simp only [askFor, inProgress, h, Option.any_none, Bool.not_false, Bool.and_true]

/-- When the burst ends, its source's next request joins behind the others (R170). -/
theorem endBurst_eq {s : State} {b : Burst} (h : s.pxm.burst = some b) :
    endBurst s = { s with pxm := { s.pxm with burst := none, requests := requestsAtEnd b s } } := by
  show _ = setRequests (requestsAtEnd b s) (s.setPxm { s.pxm with burst := none })
  have hasked : ∀ (x : BurstSource) (n : Bool), askFor x n (s.setPxm { s.pxm with burst := none }) =
      setRequests (if x ∉ s.pxm.requests ∧ n = true then s.pxm.requests ++ [x] else s.pxm.requests)
        (s.setPxm { s.pxm with burst := none }) := by
    intro x n
    rw [askFor_burst_none rfl]
    by_cases hx : x ∈ s.pxm.requests <;> cases n <;>
      simp [hx, requestBurst, withRequest, setRequests, State.setPxm]
  unfold endBurst
  rw [h]
  obtain ⟨x, ws⟩ := b
  cases x with
  | notes => exact (hasked .notes _).trans (congrArg (setRequests · _) (if_congr (by simp) rfl rfl))
  | reports => exact (hasked .reports _).trans (congrArg (setRequests · _) (if_congr (by simp) rfl rfl))
  | refresh => exact congrArg (setRequests · (s.setPxm { s.pxm with burst := none })) (if_neg (by simp)).symm
  | machine => exact congrArg (setRequests · (s.setPxm { s.pxm with burst := none })) (if_neg (by simp)).symm

theorem settleMemory_burst {s : State} {b : Burst} (h : s.pxm.burst = some b) :
    settleMemory s = afterBurst { s with
      pxm := { s.pxm with burst := none, requests := requestsAtEnd b s } } := by
  have hread : readBurst s = false := by simp [readBurst, h]
  rw [← endBurst_eq h]
  unfold settleMemory
  rw [if_neg (by simp [hread])]

theorem needsBurst_iff (x : Rpw) : x.needsBurst = true ↔
    x.halfWork ≠ [] ∨ (∃ h, x.writer = .filling h) ∧ x.queue ≠ [] := by
  unfold Rpw.needsBurst
  cases hwork : x.halfWork <;> cases hwriter : x.writer <;> cases hqueue : x.queue <;> simp

/-- The bursts that only read are START's machine record load and the notes' reads (R80, R157). -/
theorem readBurst_iff {s : State} (h : s.pxm.burst = none) : readBurst s = true ↔
    s.pxm.requests.head? = some .machine ∨ s.pxm.requests.head? = some .notes ∧
      ∃ x, s.ntp.work.head? = some x ∧ ∀ i f d pg,
        x ≠ .pageTaking ∧ x ≠ .finishing ∧ x ≠ .fateWrite pg i f d ∧ x ≠ .cutShortDone pg := by
  have hreads : ∀ x : NoteBurst, x.onlyReads = true ↔ ∀ i f d pg,
      x ≠ .pageTaking ∧ x ≠ .finishing ∧ x ≠ .fateWrite pg i f d ∧ x ≠ .cutShortDone pg := by
    refine fun x => ⟨fun hr i f d pg => ⟨?_, ?_, ?_, ?_⟩, fun h => ?_⟩
    iterate 4 exact fun e => by simp [e, NoteBurst.onlyReads] at hr
    cases x with
    | pageTaking => exact absurd rfl (h 0 .done 0 .a).1
    | finishing => exact absurd rfl (h 0 .done 0 .a).2.1
    | fateWrite p i f d => exact absurd rfl (h i f d p).2.2.1
    | cutShortDone p => exact absurd rfl (h 0 .done 0 p).2.2.2
    | _ => rfl
  simp only [← hreads, readBurst, h, Option.isNone_none, Bool.true_and, Option.any_eq_true]
  constructor
  · rintro ⟨b, hb, hr⟩
    cases b with
    | machine => exact .inl hb
    | notes =>
      simp only [readsOnly, Option.any_eq_true] at hr
      exact .inr ⟨hb, hr⟩
    | refresh => cases hr
    | reports => cases hr
  · rintro (hb | ⟨hb, hr⟩)
    · exact ⟨.machine, hb, rfl⟩
    · exact ⟨.notes, hb, by simpa only [readsOnly, Option.any_eq_true] using hr⟩

end Sys2Proof.Machine
end

section
/-! What the end of a burst serves, and the memory once it is free (R170, R178). -/
namespace Sys2Proof.Machine

/-! ### The access that waited (R170) -/

/-- With one access waiting, the end of the burst serves it and then looks for the next burst. -/
theorem afterBurst_one {u : State} {x : PressAccess} (h : u.pxm.waiting = [x]) :
    afterBurst u = beginNext (serveAccess x (withWaiting [] u)) := by
  unfold afterBurst serveWaiting
  rw [h]
  rfl

/-- The requests are looked at by no part of an access to a page's state word but the request it makes. -/
theorem pagePostedAct_setRequests (p : Page) (w : Word) (q : List BurstSource) (s : State) :
    (pagePostedAct p w (setRequests q s)).ntp = (pagePostedAct p w s).ntp ∧
    (pagePostedAct p w (setRequests q s)).pxm.memory = (pagePostedAct p w s).pxm.memory ∧
    (pagePostedAct p w s).rpw = s.rpw := by
  by_cases hposted : w = pagePosted ∧ p = s.ntp.expectedPage ∧ s.ntp.inWork = none ∧ s.rnc.runState ≠ .off
  · by_cases hwork : NoteBurst.pageTaking ∈ s.ntp.work <;>
      simp [pagePostedAct, takePage, hposted, hwork, setRequests, setNoteWork]
  · rw [show pagePostedAct p w s = s from if_neg hposted,
      show pagePostedAct p w (setRequests q s) = setRequests q s from if_neg hposted]
    exact ⟨rfl, rfl, rfl⟩

/-- What a write of a half's state word leaves in the writer, whatever is requested (R178). -/
theorem beginNext_halfFreed {k : Half} (w : Word) {s : State} (hb : s.pxm.burst = none)
    (hhalf : s.rpw.halfWork = []) :
    let t := beginNext (halfFreedAct k w s)
    let taken := w = halfEmpty ∧ s.rpw.writer = .waiting k
    t.rpw.writer = (if taken then .filling k else s.rpw.writer) ∧
    t.rpw.fillIndex = (if taken then 0 else s.rpw.fillIndex) ∧
    t.rpw.ageTimer = (if taken then none else s.rpw.ageTimer) ∧ t.rpw.queue = s.rpw.queue := by
  dsimp only
  by_cases h : w = halfEmpty ∧ s.rpw.writer = .waiting k
  · simp only [if_pos h]
    rw [show halfFreedAct k w s = takeHalf k s from if_pos h, takeHalf_eq k hb, beginNext_halfTaken hb]
    split <;> exact ⟨rfl, rfl, rfl, rfl⟩
  · simp only [if_neg h]
    rw [show halfFreedAct k w s = s from if_neg h, beginNext_none s hhalf]
    exact ⟨rfl, rfl, rfl, rfl⟩

section
variable {u v : State} {x : PressAccess} (hburst : u.pxm.burst = none) (hhalf : u.rpw.halfWork = [])
  (hv : v = { u with pxm := { u.pxm with waiting := [], requests := [] } })
include hburst hhalf hv

theorem memoryFree_emptied : MemoryFree v := by
  subst hv
  refine ⟨?_, rfl, .inl hhalf⟩
  simp [memoryHeld, readBurst, hburst]

variable (hx : u.pxm.waiting = [x])
include hx

theorem afterBurst_read {a : BitVec 12} (e : x = .read a) :
    ∃ t, exec (.memoryRead a) v = .next t ∧
      afterBurst u = { t with pxm := { t.pxm with requests := u.pxm.requests } } := by
  refine ⟨_, memoryRead_free (memoryFree_emptied hburst hhalf hv) a, ?_⟩
  rw [afterBurst_one hx, e,
    beginNext_none (serveAccess (.read a) (withWaiting [] u)) hhalf, hv]
  rfl

theorem afterBurst_write {a : BitVec 12} {w : Word} (e : x = .write a w)
    (hwatch : isWatchedWord a = false) : ∃ t, exec (.memoryWrite a w) v = .next t ∧
      afterBurst u = { t with pxm := { t.pxm with requests := u.pxm.requests } } := by
  refine ⟨_, memoryWrite_unwatched w (memoryFree_emptied hburst hhalf hv) hwatch, ?_⟩
  rw [afterBurst_one hx, e, serveAccess_unwatched w hwatch,
    beginNext_none (storeWord (byteAddress a) w (withWaiting [] u)) hhalf, hv]
  rfl

theorem afterBurst_posting {p : Page} {w : Word} (e : x = .write (portAddress (pageBase p)) w) :
    ∃ t, exec (.notePagePosting p w) v = .next t ∧
      (afterBurst u).ntp = t.ntp ∧ (afterBurst u).pxm.memory = t.pxm.memory := by
  refine ⟨_, notePagePosting_free (memoryFree_emptied hburst hhalf hv) p w, ?_⟩
  obtain ⟨hntp, hmemory, -⟩ := pagePostedAct_setRequests p w u.pxm.requests (storeWord (pageBase p) w v)
  have hrequests : setRequests u.pxm.requests (storeWord (pageBase p) w v) =
      storeWord (pageBase p) w (withWaiting [] u) := by rw [hv]; rfl
  have hrpw := (pagePostedAct_setRequests p w [] (storeWord (pageBase p) w (withWaiting [] u))).2.2
  rw [hrequests] at hntp hmemory
  rw [afterBurst_one hx, e, serveAccess_page, beginNext_none _ (by rw [hrpw]; exact hhalf)]
  exact ⟨hntp, hmemory⟩

theorem afterBurst_freeing {k : Half} {w : Word} (e : x = .write (portAddress (halfBase k)) w) :
    ∃ t, exec (.halfFreeing k w) v = .next t ∧
      (afterBurst u).rpw.writer = t.rpw.writer ∧ (afterBurst u).rpw.fillIndex = t.rpw.fillIndex ∧
      (afterBurst u).rpw.ageTimer = t.rpw.ageTimer ∧ (afterBurst u).rpw.queue = t.rpw.queue := by
  refine ⟨_, halfFreeing_free (memoryFree_emptied hburst hhalf hv) k w, ?_⟩
  subst hv
  obtain ⟨h1, h2, h3, h4⟩ := beginNext_halfFreed (k := k) w
    (s := storeWord (halfBase k) w (withWaiting [] u)) hburst hhalf
  obtain ⟨k1, k2, k3, k4⟩ := beginNext_halfFreed (k := k) w (s := storeWord (halfBase k) w
    { u with pxm := { u.pxm with waiting := [], requests := [] } }) hburst hhalf
  rw [afterBurst_one hx, e, serveAccess_half]
  exact ⟨h1.trans k1.symm, h2.trans k2.symm, h3.trans k3.symm, h4.trans k4.symm⟩

end

/-! ### The memory once it is free -/

/-- Nothing is left to happen by itself but the end of a burst. -/
def AllServed (s : State) : Prop :=
  readBurst s = true ∨ s.pxm.waiting = [] ∧ (s.pxm.burst = none → beginNext s = s)

/-- Once what begins by itself has begun, it is in progress. -/
theorem beginNext_again {s : State} (h : (beginNext s).pxm.burst = none) :
    beginNext (beginNext s) = beginNext s := by
  have hsame : beginNext s = s := by
    unfold beginNext at h ⊢
    split
    · rfl
    next x rest hwork =>
      rw [hwork] at h
      dsimp only at h
      split
      next hturn =>
        rw [if_pos hturn] at h
        obtain ⟨ws, hbegun⟩ := halfAccess_burst x rest s
        cases hbegun.symm.trans h
      next => rfl
  rw [hsame, hsame]

theorem settleMemory_served (s : State) : AllServed (settleMemory s) := by
  by_cases hr : readBurst s = true
  · rw [settleMemory_read s hr]
    exact .inl hr
  · refine .inr ⟨settleMemory_waiting (by simpa using hr), fun hb => ?_⟩
    unfold settleMemory at hb ⊢
    rw [if_neg hr] at hb ⊢
    exact beginNext_again hb

theorem settleBursts_served (n : Nat) {s : State} (h : AllServed s) : AllServed (settleBursts n s) := by
  induction n generalizing s with
  | zero => exact h
  | succ n ih =>
    unfold settleBursts
    split
    · exact ih (settleMemory_served s)
    · exact h

/-- A free memory stays as it is. -/
theorem freeMemory_free {s : State} (h : HalfWork s.rpw) : freeMemory (freeMemory s) = freeMemory s := by
  have hburst := freeMemory_burst h
  obtain hr | ⟨hw, hb⟩ : AllServed (freeMemory s) := settleBursts_served 3 (settleMemory_served s)
  · exact freeMemory_read _ hr
  · exact freeMemory_self _ hburst hw (hb hburst)

end Sys2Proof.Machine
end

section
/-! The commands of the bursts (R170): each finds the memory free, and one that only reads takes its event
whatever waits. -/
namespace Sys2Proof.Machine

/-! ### A burst's command finds the memory free -/

/-- What a step does, when it does anything, is fixed by the memory once it is free. -/
def OnFreeMemory {α : Type} (f : State → α) (still : State → α) : Prop :=
  ∀ s u, freeMemory s = freeMemory u → f s = still s ∨ f s = f u

theorem noteStep_onFree (k : NoteKind) (f : State → Note → State × Fate × Nat) :
    OnFreeMemory (noteStep k f) id := by
  intro s u e
  unfold noteStep
  rw [e]
  dsimp only
  split <;> [split; split; skip] <;> simp

theorem jobNoteStep_onFree : OnFreeMemory jobNoteStep id := by
  intro s u e
  unfold jobNoteStep
  rw [e]
  dsimp only
  split <;> [split; skip; split; skip; skip] <;> simp

theorem fateWrite_onFree : OnFreeMemory execFateWrite .next := by
  intro s u e
  unfold execFateWrite
  rw [e]
  dsimp only
  split <;> simp

theorem pageTaking_onFree : OnFreeMemory execPageTaking .next := by
  intro s u e
  unfold execPageTaking
  rw [e]
  dsimp only
  split <;> simp

theorem pageFinishing_onFree : OnFreeMemory execPageFinishing .next := by
  intro s u e
  unfold execPageFinishing
  rw [e]
  dsimp only
  split <;> simp

theorem pageStateCheck_onFree : OnFreeMemory execPageStateCheck .next := by
  intro s u e
  unfold execPageStateCheck
  rw [e]
  dsimp only
  split <;> simp

theorem reportWrite_onFree : OnFreeMemory execReportWrite .next := by
  intro s u e
  unfold execReportWrite
  rw [e]
  dsimp only
  split <;> [split; skip] <;> simp

theorem liveStatusRefresh_onFree : OnFreeMemory execLiveStatusRefresh .next := by
  intro s u e
  unfold execLiveStatusRefresh
  rw [e]
  dsimp only
  split <;> simp

theorem exec_onFree {c : Instr} (hc : isBurst c) : OnFreeMemory (exec c) .next := by
  have hnext : ∀ f : State → State, OnFreeMemory f id →
      OnFreeMemory (fun s => (.next (f s) : Host.Outcome State Fault Refusal)) .next :=
    fun f hf s u e => (hf s u e).imp (congrArg _) (congrArg _)
  simp only [isBurst, endsRead, List.mem_cons, List.not_mem_nil, or_false] at hc
  obtain (rfl | rfl | rfl | rfl | rfl | rfl | rfl) | rfl | rfl | rfl | rfl | rfl := hc
  · exact hnext _ (noteStep_onFree .span spanOutcome)
  · exact hnext _ (noteStep_onFree .row rowOutcome)
  · exact hnext _ (noteStep_onFree .lane laneOutcome)
  · exact hnext _ (noteStep_onFree .conveyor conveyorOutcome)
  · exact hnext _ jobNoteStep_onFree
  · exact hnext _ (noteStep_onFree .unknown badOutcome)
  · exact pageStateCheck_onFree
  · exact pageTaking_onFree
  · exact fateWrite_onFree
  · exact pageFinishing_onFree
  · exact reportWrite_onFree
  · exact liveStatusRefresh_onFree

/-- A burst's command that does anything does it in the free memory. -/
theorem exec_freeMemory {c : Instr} {s : State} (hc : isBurst c) (h : HalfWork s.rpw)
    (hne : exec c s ≠ .next s) : exec c s = exec c (freeMemory s) :=
  (exec_onFree hc s (freeMemory s) (freeMemory_free h).symm).resolve_left hne

/-! ### START at its burst (R157) -/

theorem readBurst_machine {s : State} (hb : s.pxm.burst = none)
    (hq : s.pxm.requests.head? = some .machine) : readBurst s = true :=
  (readBurst_iff hb).2 (.inl hq)

/-- START whose machine record burst has its turn takes its event. -/
theorem commandStart_turn {s : State} (hb : s.pxm.burst = none)
    (hq : s.pxm.requests.head? = some .machine) :
    commandStart s = afterBurst (startEvent (popRequest s)) := by
  have hread := readBurst_machine hb hq
  have hrequested : requestBurst .machine s = s := by
    have hmem : withRequest .machine s.pxm.requests = s.pxm.requests :=
      if_pos (List.mem_of_head? hq)
    unfold requestBurst
    rw [hmem]
    rfl
  have hturn : hasTurn .machine s = true := beq_iff_eq.2 hq
  have hidle : ¬ s.pxm.burst.isSome = true := by simp [hb]
  unfold commandStart
  dsimp only
  rw [if_neg hidle, settleMemory_read s hread, hrequested, freeMemory_read s hread, if_pos hturn]

/-- START that meets a burst in progress requests its own, which is taken when the memory is free and it
stands first. -/
theorem commandStart_burst {s : State} (hb : s.pxm.burst ≠ none) (h : HalfWork s.rpw) :
    commandStart s =
      if (freeMemory (requestBurst .machine s)).pxm.requests.head? = some .machine
      then commandStart (freeMemory (requestBurst .machine s)) else requestBurst .machine s := by
  have hsome : s.pxm.burst.isSome = true := Option.isSome_iff_ne_none.2 hb
  have hfree : (freeMemory (requestBurst .machine s)).pxm.burst = none :=
    freeMemory_burst (s := requestBurst .machine s) h
  have hstart : commandStart s =
      if hasTurn .machine (freeMemory (requestBurst .machine s)) = true
      then afterBurst (startEvent (popRequest (freeMemory (requestBurst .machine s))))
      else requestBurst .machine s := by
    unfold commandStart
    dsimp only
    rw [if_pos hsome]
  rw [hstart]
  exact if_ctx_congr beq_iff_eq (fun hq => (commandStart_turn hfree hq).symm) fun _ => rfl

/-! ### Events of the bursts that only read (R80, R157) -/

/-- The step is the event of a burst that only reads: it leaves the accesses that wait and the memory, and
the accesses are served after it. -/
def TakenAtEnd (f : State → State) (s : State) : Prop :=
  ∃ u : State, u.pxm.waiting = s.pxm.waiting ∧ u.pxm.memory = s.pxm.memory ∧ u.pxm.burst = none ∧
    ∀ q, f (withWaiting q s) = afterBurst (withWaiting q u)

theorem takenAtEnd_of_note {f : State → State} {s u : State} (hr : readBurst s = true)
    (hframe : NoteFrame s u) (hburst : u.pxm.burst = s.pxm.burst)
    (h : ∀ q, f (withWaiting q s) = afterBurst (withWaiting q u)) : TakenAtEnd f s := by
  simp only [readBurst, Bool.and_eq_true, Option.isNone_iff_eq_none] at hr
  exact ⟨u, hframe.waiting, hframe.memory, hburst.trans hr.1, h⟩

theorem requestTogether_burst (b s : State) : (requestTogether b s).pxm.burst = s.pxm.burst := by
  unfold requestTogether
  split
  · exact takeDue_rel (R := fun s t : State => t.pxm.burst = s.pxm.burst) (due := requestDue)
      (act := requestBurst) (fun _ => rfl)
      (fun h k => k.trans h) (fun _ _ => rfl) (fun _ _ => rfl) [BurstSource.notes, .reports]
      (withdrawBurst .reports s)
  · rfl

theorem finishNote_burst (b : State) (p : PageInWork) (s : State) (f : Fate × Nat) :
    (finishNote b p (s, f)).pxm.burst = s.pxm.burst :=
  requestTogether_burst b _

theorem finishLate_burst (b : State) (p : Page) (i : Nat) (s : State) (f : Fate × Nat) :
    (finishLate b p i (s, f)).pxm.burst = s.pxm.burst :=
  requestTogether_burst b _

theorem serveRead_burst (w : List NoteBurst) (s : State) :
    (serveRead w s).pxm.burst = s.pxm.burst := by
  unfold serveRead
  simp

theorem applyActions_burst (j : JobRecord) (lanes : LaneSet) (x : LaneActions) (n : Nat) (s : State) :
    (applyActions j lanes x n s).pxm.burst = s.pxm.burst := by
  have hcloses : ∀ u, (closeLanes lanes u).pxm.burst = u.pxm.burst := fun u =>
    ((foldl_reacts (fun s l => shortClose_reacts .shortCmd l s) _ u).trans (passIfJoined_reacts u _)).burst
  unfold applyActions
  dsimp only
  repeat' split
  all_goals simp only [setTargets, setHolds, hcloses, State.setSkc_pxm]

theorem laneOutcome_burst (s : State) (n : Note) : (laneOutcome s n).1.pxm.burst = s.pxm.burst := by
  unfold laneOutcome
  split
  · unfold applyLaneNote
    split
    · rfl
    · split
      · rfl
      · exact applyActions_burst _ _ _ _ s
  · rfl

theorem noteEvent_burst {s : State} {f : Note → State × Fate × Nat} (p : PageInWork)
    (hf : ∀ n, (f n).1.pxm.burst = s.pxm.burst) : (noteEvent s p f).pxm.burst = s.pxm.burst := by
  unfold noteEvent
  split
  · exact finishNote_burst s p s _
  · exact (finishNote_burst s p _ _).trans (hf _)

theorem jobNoteRead_burst (b : Nat) {f : State × Fate × Nat → State} (k : Nat → NoteBurst) {s : State}
    (hf : ∀ o, (f (s, o)).pxm.burst = s.pxm.burst) : (jobNoteRead b f k s).pxm.burst = s.pxm.burst := by
  unfold jobNoteRead
  repeat' split
  · exact hf _
  · exact serveRead_burst _ s
  · exact serveRead_burst _ s
  · rfl
  · exact hf _

section
variable {s : State} (hr : readBurst s = true)
include hr

theorem freeMemory_withWaiting (q : List PressAccess) : freeMemory (withWaiting q s) = withWaiting q s :=
  freeMemory_read (withWaiting q s) hr

theorem noteStep_atEnd {k : NoteKind} {f : State → Note → State × Fate × Nat}
    (hblind : ∀ q, NoteBlind q f) (hframe : ∀ u n, NoteFrame u (f u n).1)
    (hburst : ∀ u n, (f u n).1.pxm.burst = u.pxm.burst) (hne : noteStep k f s ≠ s) :
    TakenAtEnd (noteStep k f) s := by
  have hturn : ∀ q, noteTurn (withWaiting q s) = noteTurn s := fun _ => rfl
  have hfree := freeMemory_withWaiting hr
  unfold noteStep at hne
  rw [freeMemory_read s hr] at hne
  dsimp only at hne
  split at hne
  next p ht hp =>
    split at hne
    next hk =>
      refine takenAtEnd_of_note hr (noteEvent_note s p (f s) (hframe s)) (noteEvent_burst p (hburst s))
        fun q => ?_
      rw [← noteEvent_blind (hblind q)]
      simp only [noteStep, hfree, hturn, ht, withWaiting_keeps, hp, hk, if_true]
    next => exact absurd rfl hne
  next page i ht =>
    split at hne
    next hk =>
      refine takenAtEnd_of_note hr (finishLate_note s page i s (.unapplied, 0))
        (finishLate_burst s page i s (.unapplied, 0)) fun q => ?_
      rw [← finishLate_blind]
      simp only [noteStep, hfree, hturn, ht, withWaiting_keeps, hk, if_true]
    next => exact absurd rfl hne
  next => exact absurd rfl hne

theorem jobNoteStep_atEnd (hne : jobNoteStep s ≠ s) : TakenAtEnd jobNoteStep s := by
  have hturn : ∀ q, noteTurn (withWaiting q s) = noteTurn s := fun _ => rfl
  have hfree := freeMemory_withWaiting hr
  have hjob := jobOutcome_reacts
  unfold jobNoteStep at hne
  rw [freeMemory_read s hr] at hne
  dsimp only at hne
  split at hne
  next p ht hp =>
    split at hne
    next hk =>
      refine takenAtEnd_of_note hr (jobNoteRead_note _ _ .jobCopy s (finishNote_note s p s))
        (jobNoteRead_burst p.noteBase .jobCopy (finishNote_burst s p s)) fun q => ?_
      rw [← jobNoteRead_blind (finishNote_blind s p s)]
      simp only [jobNoteStep, hfree, hturn, ht, withWaiting_keeps, hp, hk, if_true]
    next => exact absurd rfl hne
  next slot p ht hp =>
    refine takenAtEnd_of_note hr ((hjob slot s).note.trans (finishNote_note s p _ (jobOutcome slot s).2))
      ((finishNote_burst s p _ _).trans (hjob slot s).burst) fun q => ?_
    rw [← finishNote_blind, ← jobOutcome_blind]
    simp only [jobNoteStep, hfree, hturn, ht, withWaiting_keeps, hp]
  next page i ht =>
    split at hne
    next hk =>
      refine takenAtEnd_of_note hr (jobNoteRead_note _ _ (.lateCopy page i) s (finishLate_note s page i s))
        (jobNoteRead_burst (noteAddress page i) (.lateCopy page i) (finishLate_burst s page i s))
        fun q => ?_
      rw [← jobNoteRead_blind (finishLate_blind s page i s)]
      simp only [jobNoteStep, hfree, hturn, ht, withWaiting_keeps, hk, if_true]
    next => exact absurd rfl hne
  next page i slot ht =>
    refine takenAtEnd_of_note hr ((hjob slot s).note.trans (finishLate_note s page i _ (jobOutcome slot s).2))
      ((finishLate_burst s page i _ _).trans (hjob slot s).burst) fun q => ?_
    rw [← finishLate_blind, ← jobOutcome_blind]
    simp only [jobNoteStep, hfree, hturn, ht, withWaiting_keeps]
  next => exact absurd rfl hne

theorem pageStateCheck_atEnd (hne : execPageStateCheck s ≠ .next s) :
    ∃ u : State, u.pxm.waiting = s.pxm.waiting ∧ u.pxm.memory = s.pxm.memory ∧ u.pxm.burst = none ∧
      ∀ q, execPageStateCheck (withWaiting q s) = .next (afterBurst (withWaiting q u)) := by
  have hturn : ∀ q, noteTurn (withWaiting q s) = noteTurn s := fun _ => rfl
  have hfree := freeMemory_withWaiting hr
  have htake : ∀ v, NoteFrame v (takePage v) ∧ (takePage v).pxm.burst = v.pxm.burst := by
    intro v
    unfold takePage
    split
    · exact ⟨.refl v, rfl⟩
    · exact ⟨setNoteWork_note _ v, by simp⟩
  have hframe : NoteFrame s (checkPage s) ∧ (checkPage s).pxm.burst = s.pxm.burst := by
    have hread := serveRead_note s.ntp.work.tail s
    have hburst := serveRead_burst s.ntp.work.tail s
    unfold checkPage
    dsimp only
    split
    · exact ⟨hread.trans (htake _).1, (htake _).2.trans hburst⟩
    · exact ⟨hread, hburst⟩
  unfold execPageStateCheck at hne
  rw [freeMemory_read s hr] at hne
  dsimp only at hne
  split at hne
  next ht =>
    obtain ⟨u, h1, h2, h3, h4⟩ := takenAtEnd_of_note (f := fun v => afterBurst (checkPage v)) hr hframe.1
      hframe.2 fun q => congrArg afterBurst (checkPage_blind s)
    refine ⟨u, h1, h2, h3, fun q => (?_ : _ = _).trans (congrArg _ (h4 q))⟩
    simp only [execPageStateCheck, hfree, hturn, ht]
  next => exact absurd rfl hne

end

/-- START taken at the end of its burst (R157, R170). -/
theorem commandStart_atEnd {s : State} (hr : readBurst s = true)
    (hq : s.pxm.requests.head? = some .machine) : TakenAtEnd commandStart s := by
  simp only [readBurst, Bool.and_eq_true, Option.isNone_iff_eq_none] at hr
  have hb := hr.1
  have hkept : ∀ v, (startEvent v).pxm.waiting = v.pxm.waiting ∧
      (startEvent v).pxm.memory = v.pxm.memory ∧ (startEvent v).pxm.burst = v.pxm.burst := by
    have hpart : ∀ r v, (startPart r v).pxm.burst = v.pxm.burst := by
      simp [startPart, formLeads, startNotes, setNoteWork]
    intro v
    unfold startEvent
    split
    case h_1 | h_2 =>
      obtain ⟨hmemory, -, -, hwaiting⟩ :=
        startPart_port (readMachineRecord v.pxm.memory) (recordCommand 1#8 .accepted v)
      exact ⟨hwaiting, hmemory, hpart _ _⟩
    all_goals exact ⟨rfl, rfl, rfl⟩
  obtain ⟨hwaiting, hmemory, hburst⟩ := hkept (popRequest s)
  refine ⟨startEvent (popRequest s), hwaiting, hmemory, hburst.trans hb, fun q => ?_⟩
  rw [commandStart_turn (s := withWaiting q s) hb hq, ← startEvent_blind]
  rfl

/-- The commands that end a burst which only reads. -/
theorem exec_atEnd {c : Instr} {s : State} (hr : readBurst s = true) (hne : exec c s ≠ .next s)
    (hc : endsRead c ∨ (c = .start ∧ s.pxm.requests.head? = some .machine)) :
    ∃ u : State, u.pxm.waiting = s.pxm.waiting ∧ u.pxm.memory = s.pxm.memory ∧ u.pxm.burst = none ∧
      ∀ q, exec c (withWaiting q s) = .next (afterBurst (withWaiting q u)) := by
  have hnext : ∀ {f : State → State}, TakenAtEnd f s →
      ∃ u : State, u.pxm.waiting = s.pxm.waiting ∧ u.pxm.memory = s.pxm.memory ∧ u.pxm.burst = none ∧
        ∀ q, (.next (f (withWaiting q s)) : Host.Outcome State Fault Refusal) =
          .next (afterBurst (withWaiting q u)) :=
    fun ⟨u, h1, h2, h3, h4⟩ => ⟨u, h1, h2, h3, fun q => congrArg _ (h4 q)⟩
  have hmoved : ∀ {v : State}, (.next v : Host.Outcome State Fault Refusal) ≠ .next s → v ≠ s :=
    fun h e => h (congrArg _ e)
  simp only [endsRead, List.mem_cons, List.not_mem_nil, or_false] at hc
  obtain (rfl | rfl | rfl | rfl | rfl | rfl | rfl) | ⟨rfl, hq⟩ := hc
  · exact hnext (noteStep_atEnd hr (fun _ => spanOutcome_blind) (fun u n => (spanOutcome_reacts u n).note)
      (fun u n => (spanOutcome_reacts u n).burst) (hmoved hne))
  · exact hnext (noteStep_atEnd hr (fun _ => rowOutcome_blind) (fun u n => (rowOutcome_reacts u n).note)
      (fun u n => (rowOutcome_reacts u n).burst) (hmoved hne))
  · exact hnext (noteStep_atEnd hr (fun _ => laneOutcome_blind) laneOutcome_note laneOutcome_burst
      (hmoved hne))
  · exact hnext (noteStep_atEnd hr (fun _ => conveyorOutcome_blind)
      (fun u n => (conveyorOutcome_reacts u n).note) (fun u n => (conveyorOutcome_reacts u n).burst)
      (hmoved hne))
  · exact hnext (jobNoteStep_atEnd hr (hmoved hne))
  · exact hnext (noteStep_atEnd hr (fun _ => badOutcome_blind) (fun u _ => .refl u) (fun _ _ => rfl)
      (hmoved hne))
  · exact pageStateCheck_atEnd hr hne
  · exact hnext (commandStart_atEnd hr hq)

/-- Settles O13: an access is served at once or held by WAIT, and served at the burst's end. -/
theorem writesAreTheCommandsOfTheirRows : Obligations.WritesAreTheCommandsOfTheirRows := by
  refine ⟨fun a w s hfree hwf hwatch => ?_, fun w s => ⟨rfl, rfl, rfl, rfl⟩, fun a w s => ⟨?_, ?_, ?_⟩,
    fun s b hb => ⟨by simp [memoryHeld, hb], settleMemory_burst hb⟩, needsBurst_iff,
    fun _ => readBurst_iff, fun _ _ => exec_atEnd, fun u hb hhalf => ⟨fun hw => ?_, ?_⟩,
    fun _ _ => exec_freeMemory, fun s v hhalf => ⟨freeMemory_burst hhalf, fun hb hv => ⟨?_, ?_⟩⟩⟩
  · exact ⟨_, memoryWrite_unwatched w hfree hwatch, storeWord_readWord w hwf (byteAddress_lt a),
      storeWord_sameOutside (byteAddress a) w s, Memory.wf_writeWord hwf (byteAddress_lt a), rfl⟩
  · exact fun hheld hw => ⟨congrArg _ (pressAccess_held _ s hw hheld),
      congrArg _ (pressAccess_held _ s hw hheld), wait_withWaiting _ hheld, wait_withWaiting _ hheld⟩
  · exact fun hread _ => ⟨congrArg _ (pressAccess_read _ hread), congrArg _ (pressAccess_read _ hread)⟩
  · exact fun hread hw => ⟨congrArg Host.Outcome.next (pressAccess_settled _ hread hw),
      congrArg Host.Outcome.next (pressAccess_settled _ hread hw)⟩
  · exact afterBurst_idle u hw hhalf
  · exact fun x v hx hv => ⟨fun _ => afterBurst_read hb hhalf hv hx,
      fun _ _ => afterBurst_write hb hhalf hv hx, fun _ _ => afterBurst_posting hb hhalf hv hx,
      fun _ _ => afterBurst_freeing hb hhalf hv hx⟩
  · intro hq
    have hstart := commandStart_burst hb hhalf
    rw [show freeMemory (requestBurst .machine s) = v from hv.symm, if_pos hq] at hstart
    exact congrArg Host.Outcome.next hstart
  · intro hq
    have hstart := commandStart_burst hb hhalf
    rw [show freeMemory (requestBurst .machine s) = v from hv.symm, if_neg hq] at hstart
    exact ⟨_, congrArg Host.Outcome.next hstart, mem_withRequest .machine s.pxm.requests, rfl⟩

end Sys2Proof.Machine
end
